-- ==== Sys2Proof/Word.lean ====
section
/-! DEFINITION. The word types of the two serial lines and of the uptime. -/

namespace Sys2Proof

/-- One byte of a frame (12, section 12.2). -/
abbrev Byte := BitVec 8

/-- A two-byte field, sent high byte first (12). -/
abbrev Half := BitVec 16

/-- A four-byte field, and the 32-bit uptime (00, Terms). -/
abbrev Word := BitVec 32

end Sys2Proof
end

