-- ==== Sys2Proof/Syntax.lean ====
section
/-! DEFINITION. The commands the part takes: one constructor of `Instr` per row of spec/opcode_table.json. -/

namespace Sys2Proof

/-- R1: the stage names, in the order C1 to C4, H1, H2. -/
inductive StageName where
  | c1 | c2 | c3 | c4 | h1 | h2
deriving DecidableEq, Repr

/-- R69: the configured fields of a zone record as ZONE.PUT carries them, in the numbered order of R67 and with the
widths of 12.2. Two-byte fields with a temperature or a setpoint are signed. -/
structure ZoneFields where
  priority : Byte
  period : Half
  modeDiff : Byte
  stageDiff : Byte
  deadband : Byte
  upDelay : Half
  downDelay : Half
  changeover : Half
  econEnable : Byte
  econLimit : Half
  occFan : Half
  fbOccupancy : Byte
  fbCool : Half
  fbHeat : Half
  staleTime : Half
deriving DecidableEq, Repr

/-- R102: one value of SCHED.FILL. Only the fields of the request's mask travel on the line. -/
structure FillValue where
  occupancy : Byte
  cool : Half
  heat : Half
deriving DecidableEq, Repr

/-- The requests of the host link (12.3) with the fields of their payloads. -/
inductive Request where
  | partStatus
  | partRestart
  | partProtect (level hold : Byte)
  | partRelease
  | noteTake
  | clockSet (day : Byte) (minute : Half) (second mark weekday : Byte)
  | clockGet
  | unitPut (unit : Byte) (pairs : List (Byte × Half))
  | unitGet (unit selector : Byte)
  | unitBind (unit zone : Byte)
  | unitFree (unit : Byte)
  | unitRefresh (unit : Byte)
  | unitReadings (unit : Byte)
  | stageGet (unit : Byte)
  | stageUnlock (unit stage : Byte)
  | queueGet (first : Byte)
  | zonePut (zone flag : Byte) (fields : ZoneFields)
  | zoneGet (zone : Byte)
  | zoneOverride (zone : Byte) (duration cool heat : Half) (modeForce occForce : Option Byte)
  | schedWindow (day zLo zHi sLo sHi order direction mask compare occupancy : Byte)
  | schedFill (mask : Byte) (values : List FillValue)
  | schedEnd
  | schedGet (day zone slot count : Byte)
  | profilePut (profile : Byte) (segments : List (Half × Half))
  | profileGet (profile : Byte)
  | demandLimits (ceiling recovery cap length fallback stale spacing : Half)
  | demandSite (load : Word)
  | demandGet
  | demandHistory (offset count : Byte)
  | storeSave
  | storeClear
deriving DecidableEq, Repr

/-- The commands: one constructor per row of the opcode table. A request row carries the tag its frame carries (R169)
and stands for that frame, complete, as the receiver offers it (R168; log 4). -/
inductive Instr where
  /-- Supply start or RESET, with the levels that SMOKE, SERVICE and PROTECT then have (log 6). -/
  | powerOn (smoke service protect : Bool)
  | smokeAsserted
  | smokeNegated
  | serviceLineChange (level : Bool)
  | protectLineChange (level : Bool)
  | hostByteReceived (byte : Byte)
  | receiveGapTimeout
  | replySent
  | partStatus (tag : Byte)
  | partRestart (tag : Byte)
  | partProtect (tag level hold : Byte)
  | partRelease (tag : Byte)
  | noteTake (tag : Byte)
  | clockSet (tag day : Byte) (minute : Half) (second mark weekday : Byte)
  | clockGet (tag : Byte)
  | unitPut (tag unit : Byte) (pairs : List (Byte × Half))
  | unitGet (tag unit selector : Byte)
  | unitBind (tag unit zone : Byte)
  | unitFree (tag unit : Byte)
  | unitRefresh (tag unit : Byte)
  | unitReadings (tag unit : Byte)
  | stageGet (tag unit : Byte)
  | stageUnlock (tag unit stage : Byte)
  | queueGet (tag first : Byte)
  | zonePut (tag zone flag : Byte) (fields : ZoneFields)
  | zoneGet (tag zone : Byte)
  | zoneOverride (tag zone : Byte) (duration cool heat : Half) (modeForce occForce : Option Byte)
  | schedWindow (tag day zLo zHi sLo sHi order direction mask compare occupancy : Byte)
  | schedFill (tag mask : Byte) (values : List FillValue)
  | schedEnd (tag : Byte)
  | schedGet (tag day zone slot count : Byte)
  | profilePut (tag profile : Byte) (segments : List (Half × Half))
  | profileGet (tag profile : Byte)
  | demandLimits (tag : Byte) (ceiling recovery cap length fallback stale spacing : Half)
  | demandSite (tag : Byte) (load : Word)
  | demandGet (tag : Byte)
  | demandHistory (tag offset count : Byte)
  | storeSave (tag : Byte)
  | storeClear (tag : Byte)
  /-- The save completes; `equal` says whether the read-back CRC-32 equals the one written (R178; log 14). -/
  | saveCompletion (equal : Bool)
  | minOnExpiry (unit : Nat) (stage : StageName)
  | minOffExpiry (unit : Nat) (stage : StageName)
  | provingExpiry (unit : Nat) (stage : StageName)
  | tripCountClear (unit : Nat) (stage : StageName)
  | staggerExpiry
  | accumulationEvent
  | siteStale
  | zoneEvaluation (zone : Nat)
  | changeoverExpiry (zone : Nat)
  | overrideEnd (zone : Nat)
  | clockTick
  | rampStep
  | purgeExpiry (unit : Nat)
  | holdOffExpiry (unit : Nat)
  /-- The next poll cycle is due at millisecond `ms` of the present second of part time (R156; log 12). -/
  | pollCycleStart (ms : Nat)
  /-- The wait of the visit in progress ends; `received` are the bytes that arrived in it (R158, R159; log 13). -/
  | visitEnd (received : List Byte)
  | fallbackExpiry (unit : Nat)
deriving DecidableEq, Repr

end Sys2Proof
end

