-- ==== Sys2Proof/WellFormed.lean ====
section
/-! DEFINITION. Which commands can reach the part: unit, zone and time operands the part has, and payloads a frame can carry. -/

namespace Sys2Proof

/-- R140: a unit index. -/
def unitNumber (u : Nat) : Bool := 1 ≤ u && u ≤ 24

/-- R67: a zone number that has a record. -/
def zoneNumber (z : Nat) : Bool := 1 ≤ z && z ≤ 12

/-- Whether a fill value holds nothing outside the mask (R102: "and no others"); the mask bits are those of log 17. -/
def FillValue.fits (mask : Byte) (v : FillValue) : Bool :=
  (mask.getLsbD 0 || v.occupancy == 0#8) && (mask.getLsbD 1 || v.cool == 0#16) && (mask.getLsbD 2 || v.heat == 0#16)

/-- Bytes that one fill value takes on the line (12.2: occupancy 1 byte, each setpoint 2). -/
def fillValueSize (mask : Byte) : Nat :=
  (if mask.getLsbD 0 then 1 else 0) + (if mask.getLsbD 1 then 2 else 0) + (if mask.getLsbD 2 then 2 else 0)

/-- Whether a request can be carried in one frame, whose payload has at most 240 bytes (R167: L is 2 to 242). -/
def Request.wellFormed : Request → Bool
  | .unitPut _ pairs => 2 + 3 * pairs.length ≤ 240
  | .schedFill mask values =>
      values.length ≤ 255 && 2 + fillValueSize mask * values.length ≤ 240 && values.all (FillValue.fits mask)
  | .profilePut _ segments => 2 + 4 * segments.length ≤ 240
  | _ => true

/-- Whether a command can reach the part. -/
def Instr.wellFormed : Instr → Bool
  | .unitPut _ unit pairs => (Request.unitPut unit pairs).wellFormed
  | .schedFill _ mask values => (Request.schedFill mask values).wellFormed
  | .profilePut _ profile segments => (Request.profilePut profile segments).wellFormed
  | .minOnExpiry unit _ => unitNumber unit
  | .minOffExpiry unit _ => unitNumber unit
  | .provingExpiry unit _ => unitNumber unit
  | .tripCountClear unit _ => unitNumber unit
  | .zoneEvaluation zone => zoneNumber zone
  | .changeoverExpiry zone => zoneNumber zone
  | .overrideEnd zone => zoneNumber zone
  | .purgeExpiry unit => unitNumber unit
  | .holdOffExpiry unit => unitNumber unit
  | .pollCycleStart ms => ms < 1000
  | .fallbackExpiry unit => unitNumber unit
  | .powerOn .. | .smokeAsserted | .smokeNegated | .serviceLineChange .. | .protectLineChange ..
  | .hostByteReceived .. | .receiveGapTimeout | .replySent | .partStatus .. | .partRestart .. | .partProtect ..
  | .partRelease .. | .noteTake .. | .clockSet .. | .clockGet .. | .unitGet .. | .unitBind .. | .unitFree ..
  | .unitRefresh .. | .unitReadings .. | .stageGet .. | .stageUnlock .. | .queueGet .. | .zonePut .. | .zoneGet ..
  | .zoneOverride .. | .schedWindow .. | .schedEnd .. | .schedGet .. | .profileGet .. | .demandLimits ..
  | .demandSite .. | .demandGet .. | .demandHistory .. | .storeSave .. | .storeClear .. | .saveCompletion ..
  | .staggerExpiry | .accumulationEvent | .siteStale | .clockTick | .rampStep | .visitEnd .. => true

end Sys2Proof
end

