-- ==== Sys2Proof/Decode.lean ====
section
/-! DEFINITION. The byte coding of the host link's requests (12.2, 12.3): payloads to requests and back. The opcode table
gives its rows no bits, so a table word spells no command. -/

namespace Sys2Proof

/-- 12: a two-byte number is sent high byte first. -/
def halfBytes (h : Half) : List Byte := [h.extractLsb' 8 8, h.extractLsb' 0 8]

/-- 12: a four-byte number is sent high byte first. -/
def wordBytes (w : Word) : List Byte :=
  [w.extractLsb' 24 8, w.extractLsb' 16 8, w.extractLsb' 8 8, w.extractLsb' 0 8]

/-- The two-byte number whose bytes, high first, are `a b`. -/
def half (a b : Byte) : Half := a ++ b

/-- The four-byte number whose bytes, high first, are `a b c d`. -/
def word (a b c d : Byte) : Word := a ++ b ++ c ++ d

/-- 12.3: the request code of each request. -/
def Request.code : Request → Byte
  | .partStatus => 0x01#8
  | .partRestart => 0x02#8
  | .partProtect .. => 0x03#8
  | .partRelease => 0x04#8
  | .noteTake => 0x05#8
  | .clockSet .. => 0x06#8
  | .clockGet => 0x07#8
  | .unitPut .. => 0x10#8
  | .unitGet .. => 0x11#8
  | .unitBind .. => 0x12#8
  | .unitFree .. => 0x13#8
  | .unitRefresh .. => 0x14#8
  | .unitReadings .. => 0x15#8
  | .stageGet .. => 0x18#8
  | .stageUnlock .. => 0x19#8
  | .queueGet .. => 0x1A#8
  | .zonePut .. => 0x20#8
  | .zoneGet .. => 0x21#8
  | .zoneOverride .. => 0x22#8
  | .schedWindow .. => 0x28#8
  | .schedFill .. => 0x29#8
  | .schedEnd => 0x2A#8
  | .schedGet .. => 0x2B#8
  | .profilePut .. => 0x30#8
  | .profileGet .. => 0x31#8
  | .demandLimits .. => 0x38#8
  | .demandSite .. => 0x39#8
  | .demandGet => 0x3A#8
  | .demandHistory .. => 0x3B#8
  | .storeSave => 0x40#8
  | .storeClear => 0x41#8

/-- 12.2: the pairs of UNIT.PUT, three bytes each; none where the bytes are not whole pairs. -/
def pairsOf : List Byte → Option (List (Byte × Half))
  | [] => some []
  | i :: a :: b :: rest => (pairsOf rest).map ((i, half a b) :: ·)
  | _ => none

/-- R111: the segments of PROFILE.PUT, a band width and a rate each. -/
def segmentsOf : List Byte → Option (List (Half × Half))
  | [] => some []
  | a :: b :: c :: d :: rest => (segmentsOf rest).map ((half a b, half c d) :: ·)
  | _ => none

/-- R102: the occupancy of one fill value, if the mask holds it, and the bytes after it. -/
def fillOccupancy (mask : Byte) (bs : List Byte) : Option (Byte × List Byte) :=
  if mask.getLsbD 0 then
    match bs with
    | a :: rest => some (a, rest)
    | [] => none
  else some (0#8, bs)

/-- R102: one setpoint of a fill value, if the mask holds it, and the bytes after it. -/
def fillSetpoint (present : Bool) (bs : List Byte) : Option (Half × List Byte) :=
  if present then
    match bs with
    | a :: b :: rest => some (half a b, rest)
    | _ => none
  else some (0#16, bs)

/-- R102: the fields of one fill value in the order occupancy, cool, heat. -/
def fillValueOf (mask : Byte) (bs : List Byte) : Option (FillValue × List Byte) := do
  let (occupancy, bs) ← fillOccupancy mask bs
  let (cool, bs) ← fillSetpoint (mask.getLsbD 1) bs
  let (heat, bs) ← fillSetpoint (mask.getLsbD 2) bs
  return ({ occupancy, cool, heat }, bs)

/-- R102: `n` fill values that use up every byte. -/
def fillValuesOf (mask : Byte) : Nat → List Byte → Option (List FillValue)
  | 0, [] => some []
  | 0, _ => none
  | n + 1, bs => do
    let (v, bs) ← fillValueOf mask bs
    let vs ← fillValuesOf mask n bs
    return v :: vs

/-- 12.2: an optional one-byte field, a presence byte and then the field when present; a presence byte other than 0
or 1 fits nothing (R170). -/
def optionalByte : List Byte → Option (Option Byte × List Byte)
  | p :: rest =>
    if p = 0#8 then some (none, rest)
    else if p = 1#8 then
      match rest with
      | b :: rest => some (some b, rest)
      | [] => none
    else none
  | [] => none

/-- R88: the two optional forces at the end of ZONE.OVERRIDE. -/
def forcesOf (bs : List Byte) : Option (Option Byte × Option Byte) := do
  let (modeForce, bs) ← optionalByte bs
  let (occForce, bs) ← optionalByte bs
  if bs.isEmpty then return (modeForce, occForce) else none

/-- What the first two common checks of R170 make of a code and a payload. -/
inductive Parsed where
  | unknown
  | malformed
  | request (r : Request)
deriving DecidableEq, Repr

/-- A request whose payload fits, or MALFORMED. -/
def Parsed.ofOption : Option Request → Parsed
  | some r => .request r
  | none => .malformed

/-- R69: the fifteen fields of ZONE.PUT. -/
def zoneFieldsOf : List Byte → Option ZoneFields
  | [f1, f2, f2', f3, f4, f5, f6, f6', f7, f7', f8, f8', f9, f10, f10', f11, f11', f12, f13, f13', f14, f14', f15, f15'] =>
    some { priority := f1, period := half f2 f2', modeDiff := f3, stageDiff := f4, deadband := f5,
           upDelay := half f6 f6', downDelay := half f7 f7', changeover := half f8 f8', econEnable := f9,
           econLimit := half f10 f10', occFan := half f11 f11', fbOccupancy := f12, fbCool := half f13 f13',
           fbHeat := half f14 f14', staleTime := half f15 f15' }
  | _ => none

/-- The payload of each request read back (12.3); the length checks are those of R170. -/
def parseRequest (code : Byte) (payload : List Byte) : Parsed :=
  match code.toNat, payload with
  | 0x01, [] => .request .partStatus
  | 0x02, [] => .request .partRestart
  | 0x03, [level, hold] => .request (.partProtect level hold)
  | 0x04, [] => .request .partRelease
  | 0x05, [] => .request .noteTake
  | 0x06, [day, m, m', second, mark, weekday] => .request (.clockSet day (half m m') second mark weekday)
  | 0x07, [] => .request .clockGet
  | 0x10, unit :: count :: rest =>
    .ofOption do
      let pairs ← pairsOf rest
      if pairs.length = count.toNat then return .unitPut unit pairs else none
  | 0x11, [unit, selector] => .request (.unitGet unit selector)
  | 0x12, [unit, zone] => .request (.unitBind unit zone)
  | 0x13, [unit] => .request (.unitFree unit)
  | 0x14, [unit] => .request (.unitRefresh unit)
  | 0x15, [unit] => .request (.unitReadings unit)
  | 0x18, [unit] => .request (.stageGet unit)
  | 0x19, [unit, stage] => .request (.stageUnlock unit stage)
  | 0x1A, [first] => .request (.queueGet first)
  | 0x20, zone :: flag :: rest => .ofOption ((zoneFieldsOf rest).map (.zonePut zone flag))
  | 0x21, [zone] => .request (.zoneGet zone)
  | 0x22, zone :: d :: d' :: c :: c' :: h :: h' :: rest =>
    .ofOption ((forcesOf rest).map fun (m, o) => .zoneOverride zone (half d d') (half c c') (half h h') m o)
  | 0x28, [day, zLo, zHi, sLo, sHi, order, direction, mask, compare, occupancy] =>
    .request (.schedWindow day zLo zHi sLo sHi order direction mask compare occupancy)
  | 0x29, count :: mask :: rest => .ofOption ((fillValuesOf mask count.toNat rest).map (.schedFill mask))
  | 0x2A, [] => .request .schedEnd
  | 0x2B, [day, zone, slot, count] => .request (.schedGet day zone slot count)
  | 0x30, profile :: count :: rest =>
    .ofOption do
      let segments ← segmentsOf rest
      if segments.length = count.toNat then return .profilePut profile segments else none
  | 0x31, [profile] => .request (.profileGet profile)
  | 0x38, [c, c', r, r', i, i', t, t', f, f', a, a', s, s'] =>
    .request (.demandLimits (half c c') (half r r') (half i i') (half t t') (half f f') (half a a') (half s s'))
  | 0x39, [a, b, c, d] => .request (.demandSite (word a b c d))
  | 0x3A, [] => .request .demandGet
  | 0x3B, [offset, count] => .request (.demandHistory offset count)
  | 0x40, [] => .request .storeSave
  | 0x41, [] => .request .storeClear
  | n, _ =>
    if n ∈ [0x01, 0x02, 0x03, 0x04, 0x05, 0x06, 0x07, 0x10, 0x11, 0x12, 0x13, 0x14, 0x15, 0x18, 0x19, 0x1A, 0x20, 0x21,
            0x22, 0x28, 0x29, 0x2A, 0x2B, 0x30, 0x31, 0x38, 0x39, 0x3A, 0x3B, 0x40, 0x41]
    then .malformed else .unknown

/-- The bytes of the fields of a fill value that the mask holds. -/
def fillValueBytes (mask : Byte) (v : FillValue) : List Byte :=
  (if mask.getLsbD 0 then [v.occupancy] else []) ++ (if mask.getLsbD 1 then halfBytes v.cool else []) ++
    (if mask.getLsbD 2 then halfBytes v.heat else [])

/-- 12.2: an optional one-byte field on the line. -/
def optionalByteBytes : Option Byte → List Byte
  | none => [0#8]
  | some b => [1#8, b]

/-- R69: the bytes of the fifteen fields of ZONE.PUT. -/
def zoneFieldBytes (f : ZoneFields) : List Byte :=
  f.priority :: (halfBytes f.period ++ f.modeDiff :: f.stageDiff :: f.deadband ::
    (halfBytes f.upDelay ++ halfBytes f.downDelay ++ halfBytes f.changeover ++ f.econEnable ::
      (halfBytes f.econLimit ++ halfBytes f.occFan ++ f.fbOccupancy ::
        (halfBytes f.fbCool ++ halfBytes f.fbHeat ++ halfBytes f.staleTime))))

/-- The payload a host sends for a request (12.2, 12.3). -/
def Request.payload : Request → List Byte
  | .partStatus => []
  | .partRestart => []
  | .partProtect level hold => [level, hold]
  | .partRelease => []
  | .noteTake => []
  | .clockSet day minute second mark weekday => day :: (halfBytes minute ++ [second, mark, weekday])
  | .clockGet => []
  | .unitPut unit pairs =>
    unit :: BitVec.ofNat 8 pairs.length :: pairs.flatMap fun p => p.1 :: halfBytes p.2
  | .unitGet unit selector => [unit, selector]
  | .unitBind unit zone => [unit, zone]
  | .unitFree unit => [unit]
  | .unitRefresh unit => [unit]
  | .unitReadings unit => [unit]
  | .stageGet unit => [unit]
  | .stageUnlock unit stage => [unit, stage]
  | .queueGet first => [first]
  | .zonePut zone flag fields => zone :: flag :: zoneFieldBytes fields
  | .zoneGet zone => [zone]
  | .zoneOverride zone duration cool heat modeForce occForce =>
    zone :: (halfBytes duration ++ halfBytes cool ++ halfBytes heat ++ optionalByteBytes modeForce ++
      optionalByteBytes occForce)
  | .schedWindow day zLo zHi sLo sHi order direction mask compare occupancy =>
    [day, zLo, zHi, sLo, sHi, order, direction, mask, compare, occupancy]
  | .schedFill mask values => BitVec.ofNat 8 values.length :: mask :: values.flatMap (fillValueBytes mask)
  | .schedEnd => []
  | .schedGet day zone slot count => [day, zone, slot, count]
  | .profilePut profile segments =>
    profile :: BitVec.ofNat 8 segments.length :: segments.flatMap fun g => halfBytes g.1 ++ halfBytes g.2
  | .profileGet profile => [profile]
  | .demandLimits ceiling recovery cap length fallback stale spacing =>
    halfBytes ceiling ++ halfBytes recovery ++ halfBytes cap ++ halfBytes length ++ halfBytes fallback ++
      halfBytes stale ++ halfBytes spacing
  | .demandSite load => wordBytes load
  | .demandGet => []
  | .demandHistory offset count => [offset, count]
  | .storeSave => []
  | .storeClear => []

/-- The opcode table gives no row any bits, so no word of it spells a command. -/
def decodeTableWord (_nbits _w : Nat) : Option Instr := none

end Sys2Proof
end

