-- ==== Sys2Proof/Config.lean ====
section
/-! DEFINITION. What every part of this kind has in common: the capacities the rules name, and the one free value. -/

namespace Sys2Proof.Config

/-- R27: the grant queue holds at most 32 entries. -/
def queueSize : Nat := 32

/-- R173: the notice queue holds at most 32 records. -/
def noticeSize : Nat := 32

/-- R175: a NOTE.TAKE returns at most 8 records. -/
def takeSize : Nat := 8

/-- R63: the interval history holds at most 96 records. -/
def historySize : Nat := 96

/-- R67: a zone's unit list holds at most 4 units. -/
def zoneUnits : Nat := 4

/-- R1: start counts and runtimes are 24 bits wide. -/
def counterMax : Nat := 16777215

/-- Greatest value of a saturating 32-bit count (R48, R100). -/
def countMax : Nat := 4294967295

/-- R53: the present load saturates at 65,535 deci-kW. -/
def loadMax : Nat := 65535

/-- R176: the format number of this part's store image. -/
def imageFormat : Nat := 4

/-- R127: the soft-limit hold-off time in seconds. -/
def holdOffTime : Nat := 120

/-- R15: seconds of one run after which the trip count is cleared. -/
def tripClearTime : Nat := 1800

/-- R156: the least milliseconds between two cycle starts. -/
def cycleTime : Nat := 1000

/-- The free value of the model: where a rule lets several effects of one command be taken in any order (R96, R135,
R173), the order is picked by this function of a counter that State holds. It has no body, so nothing can be proved
of its values. Log 7, log 8. -/
opaque freeOrder : Nat → Nat

end Sys2Proof.Config
end

