-- ==== Sys2Proof/Machine/State.lean ====
section
/-! DEFINITION. Everything the part holds, block by block (00, "The part in outline"), as plain data, and the state right
after power-on. -/

namespace Sys2Proof.Machine

/-- One item for each of the six stage names. -/
structure Six (α : Type) where
  c1 : α
  c2 : α
  c3 : α
  c4 : α
  h1 : α
  h2 : α
deriving DecidableEq, Repr

/-- A set of stage names (12.2). -/
abbrev StageSet := Six Bool

/-- A table from indices to records, indices strictly rising; an index that is not listed is absent. -/
abbrev Table (α : Type) := List (Nat × α)

/-- R2: a timer is stopped, or running with the seconds left until its expiry is due. 0 left means that the expiry is
due and not yet taken; such a timer reads as running with 1 s remaining. -/
inductive Timer where
  | stopped
  | running (left : Nat)
deriving DecidableEq, Repr

/-- R136: the part-wide run state. -/
inductive RunState where
  | normal | shutdown
deriving DecidableEq, Repr

/-- R1: the seven states of a stage. -/
inductive StageState where
  | off | rest | queued | proving | run | hold | lockout
deriving DecidableEq, Repr

/-- 00, Terms: the nine stop causes, in their coded order (12.2). -/
inductive StopCause where
  | satisfied | shed | softLimit | hardLimit | noProof | fanFail | unitLost | shutdown | restart
deriving DecidableEq, Repr

/-- R140: the kinds of unit. -/
inductive Kind where
  | coolOnly | stagedGas | modulatingGas
deriving DecidableEq, Repr

/-- R140, R121: the smoke actions. -/
inductive SmokeAction where
  | fanOff | fanPurge
deriving DecidableEq, Repr

/-- R147: the link states. -/
inductive LinkState where
  | unknown | online | missing | lost
deriving DecidableEq, Repr

/-- R93: the occupancies of a cell. -/
inductive Occupancy where
  | unoccupied | occupied | recovery
deriving DecidableEq, Repr

/-- R68: the modes of a zone. -/
inductive Mode where
  | idle | cool | heat
deriving DecidableEq, Repr

/-- R88: the mode forces of an override. -/
inductive ModeForce where
  | auto | coolOnly | heatOnly | off
deriving DecidableEq, Repr

/-- R140: a unit's descriptor, fields 1 to 28. -/
structure Descriptor where
  busAddress : Nat
  kind : Kind
  coolCount : Nat
  heatCount : Nat
  loads : Six Nat
  fanLoad : Nat
  minOn : Nat
  minOff : Nat
  provingTime : Nat
  proofLevel : Nat
  fanProfile : Nat
  damperProfile : Nat
  gasProfile : Nat
  gasLowFire : Nat
  econPresent : Bool
  econPosition : Nat
  minVent : Nat
  softCount : Nat
  gasBackoff : Nat
  smokeAction : SmokeAction
  fallbackTime : Nat
  lockoutCount : Nat
  purgeTime : Nat
deriving DecidableEq, Repr

/-- R1: the record of one stage. -/
structure StageRec where
  state : StageState
  minOn : Timer
  minOff : Timer
  proving : Timer
  overdue : Bool
  trips : Nat
  pendingCause : Option StopCause
  lastCause : Option StopCause
  lastStart : Option Word
  lastStop : Option Word
  lastRun : Option Word
  starts : Nat
  runtime : Nat
  carry : Nat
deriving DecidableEq, Repr

/-- R113: one channel; its state STILL, RISING or FALLING is computed (log 23). -/
structure Channel where
  position : Nat
  target : Nat
  profile : Nat
deriving DecidableEq, Repr

/-- R147: the live record of a bound unit. Temperatures are held as reported. -/
structure LiveRecord where
  link : LinkState
  lastGood : Option Word
  space : Option Int
  discharge : Option Int
  outdoor : Option Int
  running : StageSet
  unexpected : StageSet
deriving DecidableEq, Repr

/-- R127: the limit record of a bound unit. -/
structure LimitRecord where
  coolLimited : Bool
  heatLimited : Bool
  coilLow : Bool
  headHigh : Bool
  datHigh : Bool
  holdOff : Timer
  trips : StageSet
  flameFail : Bool
  fanFail : Bool
deriving DecidableEq, Repr

/-- R146: what the owners keep for one bound unit. -/
structure BoundUnit where
  zone : Nat
  copy : Descriptor
  live : LiveRecord
  limit : LimitRecord
  stages : Six (Option StageRec)
  fan : Channel
  damper : Channel
  gas : Channel
  purge : Timer
  fanHold : Bool
  gasReduction : Nat
  lostOn : StageSet
  misses : Nat
  fallbackTaken : Bool
deriving DecidableEq, Repr

/-- R26: an entry of the grant queue. -/
structure Entry where
  unit : Nat
  stage : StageName
  zone : Nat
  priority : Nat
  load : Nat
  compressor : Bool
  joinUptime : Word
  joinRank : Word
deriving DecidableEq, Repr

/-- R39: what asked for a grant attempt. -/
inductive AttemptCause where
  | join | stagger | meter
deriving DecidableEq, Repr

/-- R39: the outcomes of a grant attempt. -/
inductive AttemptOutcome where
  | granted | blocked | none
deriving DecidableEq, Repr

/-- R36: the skip reasons. -/
inductive SkipReason where
  | link | soft | airflow | stagger
deriving DecidableEq, Repr

/-- R39: the attempt record; `failed` tells for BLOCKED whether the projection and the instant test failed. -/
structure AttemptRec where
  uptime : Word
  cause : AttemptCause
  outcome : AttemptOutcome
  candidate : Option (Nat × StageName)
  failed : Option (Bool × Bool)
  skipped : Nat
  firstSkip : Option SkipReason
deriving DecidableEq, Repr

/-- What the start arbiter owns (chapter 2). -/
structure Arbiter where
  queue : List Entry
  stagger : Timer
  joinRank : Word
  attempt : Option AttemptRec
deriving DecidableEq, Repr

/-- R45: the demand limits record. -/
structure Limits where
  ceiling : Nat
  recovery : Nat
  cap : Nat
  length : Nat
  fallback : Nat
  stale : Nat
  spacing : Nat
deriving DecidableEq, Repr

/-- R54: the current interval; `start` is the day type and minute of the opening, none with the clock invalid. -/
structure Interval where
  start : Option (Nat × Nat)
  startUptime : Word
  length : Nat
  effective : Nat
  energy : Nat
  elapsed : Nat
  peak : Nat
  sheds : Nat
  clipped : Bool
  unaligned : Bool
  overrun : Bool
deriving DecidableEq, Repr

/-- R63: a record of the interval history; `clipped` is the partial flag. -/
structure HistoryRec where
  start : Option (Nat × Nat)
  startUptime : Word
  length : Nat
  average : Nat
  peak : Nat
  ceiling : Nat
  sheds : Nat
  clipped : Bool
  unaligned : Bool
  aboveCeiling : Bool
  overrun : Bool
deriving DecidableEq, Repr

/-- What the demand meter owns (chapter 3); the history is held oldest first. -/
structure Meter where
  limits : Limits
  pendingLength : Option Nat
  siteLoad : Nat
  siteAge : Option Nat
  siteStale : Bool
  interval : Interval
  history : List HistoryRec
  closeCount : Word
deriving DecidableEq, Repr

/-- R93: a cell of the schedule grid. -/
structure Cell where
  occupancy : Occupancy
  cool : Nat
  heat : Nat
deriving DecidableEq, Repr

/-- R67: the fifteen configured fields of a zone. -/
structure ZoneConfig where
  priority : Nat
  period : Nat
  modeDiff : Nat
  stageDiff : Nat
  deadband : Nat
  upDelay : Nat
  downDelay : Nat
  changeover : Nat
  econEnable : Bool
  econLimit : Int
  occFan : Nat
  fbOccupancy : Occupancy
  fbCool : Nat
  fbHeat : Nat
  staleTime : Nat
deriving DecidableEq, Repr

/-- R88: an override. -/
structure Override where
  cool : Option Nat
  heat : Option Nat
  modeForce : Option ModeForce
  occForce : Option Occupancy
  expiry : Word
deriving DecidableEq, Repr

/-- R67, R68: a defined zone: its configured fields, its unit list, its live state and its override. A last active mode of
IDLE is R68's "none"; `forced` is the override. -/
structure Zone where
  config : ZoneConfig
  units : List Nat
  mode : Mode
  lastMode : Mode
  level : Nat
  capacity : Nat
  wanted : Nat
  econAvailable : Bool
  econOn : Bool
  temperature : Option Int
  derivedAt : Word
  sensorFault : Bool
  changeover : Timer
  lastIncrease : Option Word
  lastDecrease : Option Word
  stepOwed : Bool
  holdOrder : List (Nat × StageName)
  cell : Cell
  appliedCool : Nat
  appliedHeat : Nat
  evaluation : Timer
  forced : Option Override
deriving DecidableEq, Repr

/-- 12.2: a time of day. -/
structure TimeOfDay where
  day : Nat
  minute : Nat
  second : Nat
deriving DecidableEq, Repr

/-- R94: the clock record; it is valid when it holds a time. -/
structure Clock where
  time : Option TimeOfDay
  holiday : Bool
  weekdayAfter : Option Nat
deriving DecidableEq, Repr

/-- R100: the compare modes of a window. -/
inductive Compare where
  | none | ifEqual | ifDifferent
deriving DecidableEq, Repr

/-- R100: an open window. -/
structure Window where
  day : Nat
  zLo : Nat
  zHi : Nat
  sLo : Nat
  sHi : Nat
  zonesFirst : Bool
  descending : Bool
  maskOcc : Bool
  maskCool : Bool
  maskHeat : Bool
  compare : Compare
  compareOcc : Option Occupancy
  cursorZone : Nat
  cursorSlot : Nat
  wraps : Nat
  taken : Nat
  written : Nat
  skipped : Nat
deriving DecidableEq, Repr

/-- What the schedule table owns (chapter 5). The grid is canonical: rising indices, no default cell listed. -/
structure Schedule where
  grid : Table Cell
  clock : Clock
  window : Option Window
deriving DecidableEq, Repr

/-- R110: a segment of a ramp profile. -/
structure Segment where
  width : Nat
  rate : Nat
deriving DecidableEq, Repr

/-- R155, R157: a place of the cycle list; it is skipped once the link record it was made for has been discarded. -/
structure Place where
  unit : Nat
  live : Bool
deriving DecidableEq, Repr

/-- R155: the visit in progress; `live` is false once the unit has been freed during the visit (R157). -/
structure Visit where
  unit : Nat
  address : Nat
  live : Bool
deriving DecidableEq, Repr

/-- R155: the cycle record, and the command frame last sent (R158). `start` is in milliseconds of part time. -/
structure Roof where
  places : List Place
  next : Nat
  start : Nat
  visit : Option Visit
  lastCommand : List Byte
deriving DecidableEq, Repr

/-- 12.2: the kinds of notice, in their coded order. -/
inductive NoticeKind where
  | stageTrip | stageLockout | unitLost | unitFound | unexpectedRun | overrun | intervalOver | sensorFault | siteStale
  | overrideEnd | shutdownOn | shutdownOff | storeDone | storeFailed | bindDropped
deriving DecidableEq, Repr

/-- R173: a notice record. -/
structure Notice where
  kind : NoticeKind
  uptime : Word
  time : Option TimeOfDay
  unit : Option Nat
  stage : Option StageName
  zone : Option Nat
  value : Option Int
deriving DecidableEq, Repr

/-- 12.3: the result codes, in their coded order. -/
inductive Result where
  | accepted | unknown | malformed | service | halted | busy | locked | index | absent | range | taken | full
  | conflict | state | noWindow | windowed
deriving DecidableEq, Repr

/-- R168: a complete request frame, less its start byte, length and CRC. -/
structure Frame where
  code : Byte
  tag : Byte
  payload : List Byte
deriving DecidableEq, Repr

/-- R169: a reply, less its start byte, length and CRC; `code` has its top bit set. -/
structure Reply where
  code : Byte
  tag : Byte
  result : Result
  payload : List Byte
deriving DecidableEq, Repr

/-- R167: the receiver; while COLLECTING it holds the bytes taken since the start byte. -/
inductive Receiver where
  | hunting
  | collecting (bytes : List Byte)
deriving DecidableEq, Repr

/-- R168: whether the host link is answering. -/
inductive LinkPhase where
  | idle | answering
deriving DecidableEq, Repr

/-- What the host link owns (chapters 7 and 10). `reply` is the reply being sent. -/
structure HostLink where
  run : RunState
  smoke : Bool
  service : Bool
  protect : Bool
  receiver : Receiver
  phase : LinkPhase
  holding : Option Frame
  reply : Option Reply
  notices : List Notice
  dropped : Bool
  note : Bool
deriving DecidableEq, Repr

/-- What the unit table keeps part-wide (chapter 8). -/
structure UnitTable where
  descriptors : Table Descriptor
  level : Nat
  hold : Bool
deriving DecidableEq, Repr

/-- R176: a saved binding, with the saved start count and runtime of each stage the unit then had. -/
structure SavedBinding where
  zone : Nat
  counters : Six (Option (Nat × Nat))
deriving DecidableEq, Repr

/-- R176: the contents of the image. -/
structure Contents where
  descriptors : Table Descriptor
  zones : Table ZoneConfig
  bindings : Table SavedBinding
  grid : Table Cell
  profiles : Table (List Segment)
  limits : Limits
  level : Nat
  hold : Bool
deriving DecidableEq, Repr

/-- R176: the mark of the image. -/
inductive Mark where
  | clean | failed | erased
deriving DecidableEq, Repr

/-- R176: the image; `crcRight` says whether its CRC-32 is that of its contents (log 14). -/
structure Image where
  contents : Contents
  mark : Mark
  format : Nat
  crcRight : Bool
deriving DecidableEq, Repr

/-- R176: the store state. -/
inductive StoreState where
  | valid | empty | failed
deriving DecidableEq, Repr

/-- What the settings store owns (chapter 11). -/
structure Store where
  image : Image
  state : StoreState
  saving : Bool
deriving DecidableEq, Repr

/-- The whole part, the commands that wait for it, and the counter of free orders (log 9). `zones` lists the defined zones
alone: an undefined zone record stands at its defaults with an empty list and no live state (R67, R69), as `State.zoneConfig`
reads it. -/
structure State where
  pending : List Instr
  freeCount : Nat
  uptime : Word
  host : HostLink
  table : UnitTable
  units : Table BoundUnit
  arbiter : Arbiter
  meter : Meter
  zones : Table Zone
  schedule : Schedule
  profiles : Table (List Segment)
  roof : Roof
  store : Store
deriving DecidableEq, Repr

/-- Reasons the part stops: none. No rule of the spec stops it, so no meaning raises a fault. -/
inductive Fault where
deriving DecidableEq, Repr

/-- Reasons a command is turned away by the model. -/
inductive Refusal where
  /-- Raised by an arm of `exec` whose command has no meaning yet. Safe: the run ends. No arm raises it. -/
  | notModelled (mnemonic : String)
deriving DecidableEq, Repr

/-- R45: the default demand limits. -/
def Limits.default : Limits :=
  { ceiling := 65000, recovery := 65000, cap := 65535, length := 900, fallback := 65535, stale := 120, spacing := 30 }

/-- R93: the default cell, which an unlisted index of the grid reads as. -/
def Cell.default : Cell := { occupancy := .unoccupied, cool := 290, heat := 150 }

/-- The contents of a store that holds nothing: the defaults that R180 sets with no valid image. -/
def Contents.defaults : Contents :=
  { descriptors := [], zones := [], bindings := [], grid := [], profiles := [], limits := .default, level := 0, hold := false }

/-- R179: an erased image. DESIGN CHOICE (log 14): the spec gives it its mark alone; the contents, format number and CRC-32
that stand beside the mark are the model's, and no rule reads them (R180). -/
def Image.erased : Image := { contents := .defaults, mark := .erased, format := Config.imageFormat, crcRight := false }

/-- The part right after power-on with an erased image and its three input lines negated (R180, R139, R154; log 5). -/
def State.reset : State :=
  { pending := [], freeCount := 0, uptime := 0#32,
    host :=
      { run := .normal, smoke := false, service := false, protect := false, receiver := .hunting, phase := .idle,
        holding := none, reply := none, notices := [], dropped := false, note := false },
    table := { descriptors := [], level := 0, hold := false },
    units := [],
    arbiter := { queue := [], stagger := .running 30, joinRank := 0#32, attempt := none },
    meter :=
      { limits := .default, pendingLength := none, siteLoad := 65535, siteAge := none, siteStale := true,
        interval :=
          { start := none, startUptime := 0#32, length := 900, effective := 900, energy := 0, elapsed := 0, peak := 0,
            sheds := 0, clipped := false, unaligned := true, overrun := false },
        history := [], closeCount := 0#32 },
    zones := [],
    schedule := { grid := [], clock := { time := none, holiday := false, weekdayAfter := none }, window := none },
    profiles := [],
    roof := { places := [], next := 0, start := 0, visit := none, lastCommand := [] },
    store := { image := .erased, state := .empty, saving := false } }

end Sys2Proof.Machine
end

