-- ==== Sys2Proof/Machine/Ops.lean ====
section
/-! DEFINITION. The shared operations: stage names and sets, tables, the grid, timers, uptimes, the named updates of State,
notices and the free order. -/

namespace Sys2Proof.Machine

/-! ### Stage names and items per stage name -/

/-- R1: the stage names in their order. -/
def allStages : List StageName := [.c1, .c2, .c3, .c4, .h1, .h2]

/-- R1: heat stages are H1 and H2; the others are compressor stages. -/
def isHeat : StageName → Bool
  | .h1 | .h2 => true
  | _ => false

/-- The number of a stage within its mode. -/
def stageNumber : StageName → Nat
  | .c1 | .h1 => 1
  | .c2 | .h2 => 2
  | .c3 => 3
  | .c4 => 4

/-- The stage with a number within a mode; none past the last one. -/
def stageOf (heat : Bool) (n : Nat) : Option StageName :=
  allStages.find? fun st => isHeat st == heat && stageNumber st == n

/-- 12.2: the code of a stage name, 1 to 6. -/
def stageCode : StageName → Nat
  | .c1 => 1
  | .c2 => 2
  | .c3 => 3
  | .c4 => 4
  | .h1 => 5
  | .h2 => 6

/-- 12.2: the stage name with a code. -/
def stageOfCode (n : Nat) : Option StageName := allStages.find? fun st => stageCode st == n

/-- The item of a stage name. -/
def Six.get {α : Type} (x : Six α) : StageName → α
  | .c1 => x.c1
  | .c2 => x.c2
  | .c3 => x.c3
  | .c4 => x.c4
  | .h1 => x.h1
  | .h2 => x.h2

/-- The items with that of one stage name replaced. -/
def Six.set {α : Type} (x : Six α) (st : StageName) (a : α) : Six α :=
  match st with
  | .c1 => { x with c1 := a }
  | .c2 => { x with c2 := a }
  | .c3 => { x with c3 := a }
  | .c4 => { x with c4 := a }
  | .h1 => { x with h1 := a }
  | .h2 => { x with h2 := a }

/-- One item for each stage name. -/
def Six.ofFn {α : Type} (f : StageName → α) : Six α :=
  { c1 := f .c1, c2 := f .c2, c3 := f .c3, c4 := f .c4, h1 := f .h1, h2 := f .h2 }

/-- The empty stage set. -/
def noStages : StageSet := Six.ofFn fun _ => false

/-! ### Tables -/

/-- The record at an index. -/
def Table.find {α : Type} (k : Nat) : Table α → Option α
  | [] => none
  | (j, a) :: t => if j = k then some a else Table.find k t

/-- The table with the record at an index written. -/
def Table.put {α : Type} (k : Nat) (v : α) : Table α → Table α
  | [] => [(k, v)]
  | (j, a) :: t => if k < j then (k, v) :: (j, a) :: t else if j = k then (k, v) :: t else (j, a) :: Table.put k v t

/-- The table without the record at an index. -/
def Table.erase {α : Type} (k : Nat) : Table α → Table α
  | [] => []
  | (j, a) :: t => if j = k then Table.erase k t else (j, a) :: Table.erase k t

/-- The table with every record changed. -/
def Table.update {α : Type} (f : Nat → α → α) : Table α → Table α
  | [] => []
  | (j, a) :: t => (j, f j a) :: Table.update f t

/-- Whether the indices rise strictly and lie above a bound. -/
def Table.above {α : Type} (k : Nat) : Table α → Bool
  | [] => true
  | (j, _) :: t => k < j && Table.above j t

/-- The form of a table: indices from 1, strictly rising. -/
def Table.wf {α : Type} (t : Table α) : Bool := Table.above 0 t

/-! ### The schedule grid (R93) -/

/-- The index of a cell: 1 to 9,216, by day type, then zone, then slot. -/
def cellIndex (day zone slot : Nat) : Nat := ((day - 1) * 12 + (zone - 1)) * 96 + slot + 1

/-- The cell at an index; one that is not listed is the default cell. -/
def gridRead (i : Nat) (g : Table Cell) : Cell := (Table.find i g).getD .default

/-- The grid with a cell written; a default cell is not listed. -/
def gridWrite (i : Nat) (c : Cell) (g : Table Cell) : Table Cell :=
  if c = .default then Table.erase i g else Table.put i c g

/-- The canonical form of the grid. -/
def gridWf (g : Table Cell) : Bool := Table.wf g && g.all fun p => p.2 != .default

/-! ### Timers (R2) and uptimes -/

/-- Starting a timer sets it running with its full length. -/
def Timer.start (n : Nat) : Timer := .running n

/-- Whether a timer runs. -/
def Timer.isRunning : Timer → Bool
  | .stopped => false
  | .running _ => true

/-- Whether a timer's expiry is due. -/
def Timer.isDue : Timer → Bool
  | .running 0 => true
  | _ => false

/-- The remaining seconds of a timer: 0 when it is stopped, and 1 until a due expiry is taken (R2). -/
def Timer.remaining : Timer → Nat
  | .stopped => 0
  | .running n => max 1 n

/-- One second of part time for a timer; a due expiry waits to be taken. -/
def Timer.tick : Timer → Timer
  | .stopped => .stopped
  | .running n => .running (n - 1)

/-- R25, R119: a running timer keeps the lesser of its remaining time and `n`. -/
def Timer.shorten (n : Nat) : Timer → Timer
  | .stopped => .stopped
  | .running left => .running (min left n)

/-- Seconds from an uptime to now; the 32-bit uptime wraps (log 11). -/
def since (now t : Word) : Nat := (now - t).toNat

/-- Whether an uptime has been reached (log 11). -/
def reached (now t : Word) : Bool := since now t < 2147483648

/-- R80: a delay has passed when now minus the uptime is at least the delay, or when the uptime is absent. -/
def delayPassed (now : Word) (delay : Nat) : Option Word → Bool
  | none => true
  | some t => delay ≤ since now t

/-! ### Named updates of State -/

/-- The state with another host link. -/
def State.setHost (h : HostLink) (s : State) : State := { s with host := h }

/-- The state with other part-wide items of the unit table. -/
def State.setTable (t : UnitTable) (s : State) : State := { s with table := t }

/-- The state with other bound units. -/
def State.setUnits (t : Table BoundUnit) (s : State) : State := { s with units := t }

/-- The state with another start arbiter. -/
def State.setArbiter (a : Arbiter) (s : State) : State := { s with arbiter := a }

/-- The state with another demand meter. -/
def State.setMeter (m : Meter) (s : State) : State := { s with meter := m }

/-- The state with other zones. -/
def State.setZones (t : Table Zone) (s : State) : State := { s with zones := t }

/-- The state with another schedule table. -/
def State.setSchedule (c : Schedule) (s : State) : State := { s with schedule := c }

/-- The state with other ramp profiles. -/
def State.setProfiles (t : Table (List Segment)) (s : State) : State := { s with profiles := t }

/-- The state with another roof bus master. -/
def State.setRoof (r : Roof) (s : State) : State := { s with roof := r }

/-- The state with another settings store. -/
def State.setStore (t : Store) (s : State) : State := { s with store := t }

/-- The state with `n` more free orders used. -/
def State.useFree (n : Nat) (s : State) : State := { s with freeCount := s.freeCount + n }

/-- The bound unit with an index. -/
def State.unit (s : State) (u : Nat) : Option BoundUnit := Table.find u s.units

/-- The state with the bound unit at an index written. -/
def State.putUnit (u : Nat) (b : BoundUnit) (s : State) : State := s.setUnits (Table.put u b s.units)

/-- The state with the bound unit at an index changed; nothing for an unbound index. -/
def State.onUnit (u : Nat) (f : BoundUnit → BoundUnit) (s : State) : State :=
  match s.unit u with
  | none => s
  | some b => s.putUnit u (f b)

/-- The defined zone with a number. -/
def State.zone (s : State) (z : Nat) : Option Zone := Table.find z s.zones

/-- R67: the default of each of the fifteen fields of a zone record. -/
def ZoneConfig.default : ZoneConfig :=
  { priority := 1, period := 10, modeDiff := 5, stageDiff := 6, deadband := 10, upDelay := 300, downDelay := 120,
    changeover := 600, econEnable := false, econLimit := 150, occFan := 800, fbOccupancy := .occupied, fbCool := 240,
    fbHeat := 200, staleTime := 300 }

/-- R67: the fifteen configured fields of a zone record: those of a defined zone, and the defaults of an undefined one. -/
def State.zoneConfig (s : State) (z : Nat) : ZoneConfig := ((s.zone z).map Zone.config).getD .default

/-- The state with the zone at a number written. -/
def State.putZone (z : Nat) (r : Zone) (s : State) : State := s.setZones (Table.put z r s.zones)

/-- R69: the zone record at a number returned to its defaults and undefined, its live state and override discarded. -/
def State.undefineZone (z : Nat) (s : State) : State := s.setZones (Table.erase z s.zones)

/-- The state with the defined zone at a number changed. -/
def State.onZone (z : Nat) (f : Zone → Zone) (s : State) : State :=
  match s.zone z with
  | none => s
  | some r => s.putZone z (f r)

/-! ### Notices (R173, R174) -/

/-- The time of day while the clock is valid. -/
def State.timeOfDay (s : State) : Option TimeOfDay := s.schedule.clock.time

/-- R173: a raised notice is appended, or dropped when 32 records are held. R174: NOTE is asserted with a record held. -/
def HostLink.append (n : Notice) (h : HostLink) : HostLink :=
  if h.notices.length < Config.noticeSize then { h with notices := h.notices ++ [n], note := true }
  else { h with dropped := true }

/-- R173: raises a notice with the uptime and, while the clock is valid, the time of day. -/
def State.raise (kind : NoticeKind) (unit : Option Nat) (stage : Option StageName) (zone : Option Nat)
    (value : Option Int) (s : State) : State :=
  s.setHost (s.host.append { kind, uptime := s.uptime, time := s.timeOfDay, unit, stage, zone, value })

/-- R14, R161: a notice's zone is absent for a parked unit. -/
def noticeZone (zone : Nat) : Option Nat := if zone = 0 then none else some zone

/-! ### The free order -/

/-- A list with an element put at a place. -/
def insertAt {α : Type} : Nat → α → List α → List α
  | _, a, [] => [a]
  | 0, a, b :: l => a :: b :: l
  | n + 1, a, b :: l => b :: insertAt n a l

/-- The elements of a list in a free order: every order is possible, and nothing says which (R135, R173; log 7). -/
def arrange {α : Type} : Nat → List α → List α
  | _, [] => []
  | _, [a] => [a]
  | n, a :: b :: l => insertAt (Config.freeOrder n % (l.length + 2)) a (arrange (n + 1) (b :: l))

/-- Two parts, each whole and each in a free order of its own, one before the other in a free order (R164; log 7, log 31). It
reads less than the sum of their lengths and 2 free values. -/
def arrangeParts {α : Type} (n : Nat) (a b : List α) : List α :=
  (arrange (n + a.length + b.length)
    ([arrange n a, arrange (n + a.length) b].filter fun part => !part.isEmpty)).flatten

end Sys2Proof.Machine
end

