-- ==== Sys2Proof/Machine/Operands.lean ====
section
/-! DEFINITION. The operand forms of 12.2: field encodings of replies, enumerations by their codes, range checks, and answers. -/

namespace Sys2Proof.Machine

/-! ### Field encodings (12.2) -/

/-- A one-byte number. -/
def enc8 (n : Nat) : List Byte := [BitVec.ofNat 8 n]

/-- A two-byte number, high byte first. -/
def enc16 (n : Nat) : List Byte := halfBytes (BitVec.ofNat 16 n)

/-- A three-byte number, high byte first. -/
def enc24 (n : Nat) : List Byte := [BitVec.ofNat 8 (n / 65536), BitVec.ofNat 8 (n / 256), BitVec.ofNat 8 n]

/-- A four-byte number, high byte first. -/
def enc32 (n : Nat) : List Byte := wordBytes (BitVec.ofNat 32 n)

/-- An uptime. -/
def encWord (w : Word) : List Byte := wordBytes w

/-- A flag. -/
def encFlag (b : Bool) : List Byte := [if b then 1#8 else 0#8]

/-- A temperature or setpoint, −32768 when absent. -/
def encTemp (t : Option Int) : List Byte := halfBytes (BitVec.ofInt 16 (t.getD (-32768)))

/-- An optional field: a presence byte, and the field when present. -/
def encOption {α : Type} (f : α → List Byte) : Option α → List Byte
  | none => [0#8]
  | some a => 1#8 :: f a

/-- A list: a count byte, then the items. -/
def encList {α : Type} (f : α → List Byte) (l : List α) : List Byte := enc8 l.length ++ l.flatMap f

/-- A stage name, 0 when absent. -/
def encStage : Option StageName → List Byte
  | none => [0#8]
  | some st => enc8 (stageCode st)

/-- A time of day, four bytes. -/
def encTime (t : TimeOfDay) : List Byte := enc8 t.day ++ enc16 t.minute ++ enc8 t.second

/-! ### Enumerations: 0 for the first value of the defining table -/

/-- R172: NORMAL or SHUTDOWN. -/
def RunState.toCode : RunState → Nat
  | .normal => 0
  | .shutdown => 1

def StageState.toCode : StageState → Nat
  | .off => 0
  | .rest => 1
  | .queued => 2
  | .proving => 3
  | .run => 4
  | .hold => 5
  | .lockout => 6

def StopCause.toCode : StopCause → Nat
  | .satisfied => 0
  | .shed => 1
  | .softLimit => 2
  | .hardLimit => 3
  | .noProof => 4
  | .fanFail => 5
  | .unitLost => 6
  | .shutdown => 7
  | .restart => 8

def Kind.toCode : Kind → Nat
  | .coolOnly => 0
  | .stagedGas => 1
  | .modulatingGas => 2

/-- R140: the kind with a code. -/
def kindOf : Nat → Kind
  | 0 => .coolOnly
  | 1 => .stagedGas
  | _ => .modulatingGas

def SmokeAction.toCode : SmokeAction → Nat
  | .fanOff => 0
  | .fanPurge => 1

def LinkState.toCode : LinkState → Nat
  | .unknown => 0
  | .online => 1
  | .missing => 2
  | .lost => 3

def Occupancy.toCode : Occupancy → Nat
  | .unoccupied => 0
  | .occupied => 1
  | .recovery => 2

/-- R93: the occupancy with a code of 0 to 2. -/
def occupancyOf : Nat → Occupancy
  | 0 => .unoccupied
  | 1 => .occupied
  | _ => .recovery

/-- R68: mode IDLE, COOL, HEAT; the last active mode none, COOL, HEAT. -/
def Mode.toCode : Mode → Nat
  | .idle => 0
  | .cool => 1
  | .heat => 2

/-- R88: AUTO, COOL_ONLY, HEAT_ONLY, OFF. DEDUCED (log 21): R88 lists them in words and no table does. -/
def ModeForce.toCode : ModeForce → Nat
  | .auto => 0
  | .coolOnly => 1
  | .heatOnly => 2
  | .off => 3

/-- R88: the mode force with a code of 0 to 3. -/
def modeForceOf : Nat → ModeForce
  | 0 => .auto
  | 1 => .coolOnly
  | 2 => .heatOnly
  | _ => .off

def AttemptCause.toCode : AttemptCause → Nat
  | .join => 0
  | .stagger => 1
  | .meter => 2

def AttemptOutcome.toCode : AttemptOutcome → Nat
  | .granted => 0
  | .blocked => 1
  | .none => 2

def SkipReason.toCode : SkipReason → Nat
  | .link => 0
  | .soft => 1
  | .airflow => 2
  | .stagger => 3

/-- R172, R176: VALID, EMPTY or FAILED, in this order. DESIGN CHOICE (log 33): 12.2 numbers the values by the defining table, and
R180's table has VALID, FAILED, EMPTY. -/
def StoreState.toCode : StoreState → Nat
  | .valid => 0
  | .empty => 1
  | .failed => 2

/-- R100: the compare mode with a code of 0 to 2. -/
def compareOf : Nat → Compare
  | 0 => .none
  | 1 => .ifEqual
  | _ => .ifDifferent

/-- 12.2: the values of the notice kinds. -/
def NoticeKind.toCode : NoticeKind → Nat
  | .stageTrip => 1
  | .stageLockout => 2
  | .unitLost => 3
  | .unitFound => 4
  | .unexpectedRun => 5
  | .overrun => 6
  | .intervalOver => 7
  | .sensorFault => 8
  | .siteStale => 9
  | .overrideEnd => 10
  | .shutdownOn => 11
  | .shutdownOff => 12
  | .storeDone => 13
  | .storeFailed => 14
  | .bindDropped => 15

/-- 12.3: the values of the result codes. -/
def Result.toCode : Result → Nat
  | .accepted => 0
  | .unknown => 1
  | .malformed => 2
  | .service => 3
  | .halted => 4
  | .busy => 5
  | .locked => 6
  | .index => 7
  | .absent => 8
  | .range => 9
  | .taken => 10
  | .full => 11
  | .conflict => 12
  | .state => 13
  | .noWindow => 14
  | .windowed => 15

/-! ### Range checks -/

/-- Whether a number lies in a range. -/
def within (lo hi n : Nat) : Bool := lo ≤ n && n ≤ hi

/-- Whether a signed number lies in a range. -/
def withinInt (lo hi n : Int) : Bool := lo ≤ n && n ≤ hi

/-- The first failing field of a numbered list of checks. -/
def firstFailing (checks : List (Nat × Bool)) : Option Nat := (checks.find? fun c => !c.2).map Prod.fst

/-- A temperature or setpoint field of a request; −32768 is absent. -/
def optionalTemp (h : Half) : Option Int := if h = 0x8000#16 then none else some h.toInt

/-! ### Answers (R169) -/

/-- What the reply to a request carries: its result and its payload. -/
structure Answer where
  result : Result
  payload : List Byte
deriving DecidableEq, Repr

/-- An accepted request: the state after it and what the reply carries. -/
def accept (s : State) (payload : List Byte) : State × Answer := (s, { result := .accepted, payload })

/-- A refused request changes no state, and its reply carries no payload. -/
def refuse (s : State) (r : Result) : State × Answer := (s, { result := r, payload := [] })

/-- A RANGE refusal carries the number of what failed. -/
def refuseRange (s : State) (n : Nat) : State × Answer := (s, { result := .range, payload := enc8 n })

end Sys2Proof.Machine
end

