-- ==== Sys2Proof/Machine/Flags.lean ====
section
/-! DEFINITION. Stage sets and flag bytes (12.2, 12.4), field masks, and the CRC-16 of both lines (R181). -/

namespace Sys2Proof.Machine

/-- 12.2: the bit of a stage name in a stage set. -/
def stageBit (st : StageName) : Nat := stageCode st - 1

/-- 12.2: a stage set as a byte; bits 6 and 7 are 0. -/
def setByte (x : StageSet) : Byte := BitVec.ofNat 8 ((allStages.map fun st => if x.get st then 2 ^ stageBit st else 0).sum)

/-- R159: the stage names that a byte's bits 0 to 5 report and the unit names. -/
def namedSet (names : StageName → Bool) (b : Byte) : StageSet := Six.ofFn fun st => b.getLsbD (stageBit st) && names st

/-- A set without the names that fail a test. -/
def StageSet.keep (p : StageName → Bool) (x : StageSet) : StageSet := Six.ofFn fun st => x.get st && p st

/-- The soft flags last reported as bits 0 to 2, as in the reply's flags byte (log 21). -/
def softByte (coilLow headHigh datHigh : Bool) : Byte :=
  BitVec.ofNat 8 ((if coilLow then 1 else 0) + (if headHigh then 2 else 0) + (if datHigh then 4 else 0))

/-- 12.2: the failed tests, bit 0 PROJECTION and bit 1 INSTANT. -/
def failedByte (f : Bool × Bool) : Byte := BitVec.ofNat 8 ((if f.1 then 1 else 0) + (if f.2 then 2 else 0))

/-- R181: one bit of the CRC register: shifted left, the generator combined in when the bit that leaves is 1. -/
def crcShift (c : Half) : Half := if c.msb then (c <<< 1) ^^^ 0x1021#16 else c <<< 1

/-- R181: one byte taken into the CRC register. -/
def crcByte (c : Half) (b : Byte) : Half :=
  let c := c ^^^ (b ++ 0#8 : Half)
  crcShift (crcShift (crcShift (crcShift (crcShift (crcShift (crcShift (crcShift c)))))))

/-- R181: the CRC-16 over a list of bytes. -/
def crc16 (bs : List Byte) : Half := bs.foldl crcByte 0xFFFF#16

/-- 12.1: a frame around the bytes that its length byte counts. -/
def hostFrame (body : List Byte) : List Byte :=
  let counted := BitVec.ofNat 8 body.length :: body
  0xB6#8 :: counted ++ halfBytes (crc16 counted)

/-- 12.1, R169: the bytes of a reply frame. -/
def Reply.bytes (r : Reply) : List Byte := hostFrame (r.code :: r.tag :: BitVec.ofNat 8 r.result.toCode :: r.payload)

/-- 12.1: the bytes of a request frame as a host sends it. -/
def requestFrame (tag : Byte) (r : Request) : List Byte := hostFrame (r.code :: tag :: r.payload)

end Sys2Proof.Machine
end

