-- ==== Sys2Proof/Machine/Ramp.lean ====
section
/-! DEFINITION. The ramp unit (chapter 6): profiles, channels, effective targets, ramp steps, purge timer, hard stops. -/

namespace Sys2Proof.Machine

/-! ### Which stages are on -/

/-- R1: the states in which a stage is on. -/
def StageState.isOn : StageState → Bool
  | .proving | .run | .hold => true
  | _ => false

/-- R1: the states in which a stage is engaged. -/
def StageState.isEngaged : StageState → Bool
  | .queued | .proving | .run | .hold => true
  | _ => false

/-- R1: the states in which a stage counts in a zone's active count. -/
def StageState.isCounted : StageState → Bool
  | .queued | .proving | .run => true
  | _ => false

/-- Whether a bound unit has a stage record and its state passes a test. -/
def BoundUnit.stageIs (p : StageState → Bool) (b : BoundUnit) (st : StageName) : Bool :=
  match b.stages.get st with
  | none => false
  | some r => p r.state

/-- Whether a stage of the unit is on. -/
def BoundUnit.isOn (b : BoundUnit) (st : StageName) : Bool := b.stageIs StageState.isOn st

/-- Whether any stage of the unit is on. -/
def BoundUnit.anyOn (b : BoundUnit) : Bool := allStages.any b.isOn

/-- Whether any stage of the unit is engaged. -/
def BoundUnit.anyEngaged (b : BoundUnit) : Bool := allStages.any (b.stageIs StageState.isEngaged)

/-- Whether the active copy names a stage: a stage has a record exactly then (R1). -/
def BoundUnit.names (b : BoundUnit) (st : StageName) : Bool := (b.stages.get st).isSome

/-! ### Profiles (R110) -/

/-- R110: the rate of the band in which a value lies; 1000 lies in the last band. -/
def bandRate : List Segment → Nat → Nat
  | [], _ => 0
  | [g], _ => g.rate
  | g :: h :: rest, x => if x < g.width then g.rate else bandRate (h :: rest) (x - g.width)

/-- R113: the state of a channel, formed from its position and its effective target. -/
inductive ChannelState where
  | still | rising | falling
deriving DecidableEq, Repr

/-- R113: STILL at the effective target, RISING below it, FALLING above it. -/
def channelState (position effective : Nat) : ChannelState :=
  if position = effective then .still else if position < effective then .rising else .falling

/-! ### Effective targets (R115) -/

/-- R118: the fan floor applies while a stage is on and while the purge timer runs. -/
def BoundUnit.floorApplies (b : BoundUnit) : Bool := b.anyOn || b.purge.isRunning

/-- R115: the effective target of the FAN channel. -/
def BoundUnit.fanEffective (run : RunState) (b : BoundUnit) : Nat :=
  if b.fanHold then 0
  else if run = .shutdown ∧ b.anyOn = false then b.fan.target
  else if b.floorApplies then max b.fan.target b.copy.proofLevel
  else b.fan.target

/-- R115: the effective target of the DAMPER channel. -/
def BoundUnit.damperEffective (b : BoundUnit) : Nat := b.damper.target

/-- R115: the effective target of the GAS channel. -/
def BoundUnit.gasEffective (b : BoundUnit) : Nat :=
  if b.gas.target = 0 then 0 else max b.copy.gasLowFire (b.gas.target - b.gasReduction)

/-! ### Ramp steps (R116) -/

/-- R116: the position after a step from `p` toward `g` with profile number `k`. -/
def stepPosition (profiles : Table (List Segment)) (k p g : Nat) : Nat :=
  if p = g then p
  else if k = 0 then g
  else
    match Table.find k profiles with
    | none => p
    | some segments =>
      if p < g then min g (p + bandRate segments p) else max g (p - bandRate segments (p - 1))

/-- R116: a channel after one step toward its effective target. -/
def Channel.step (profiles : Table (List Segment)) (g : Nat) (c : Channel) : Channel :=
  { c with position := stepPosition profiles c.profile c.position g }

/-- R116, R125: the channels of a unit after one ramp step; a LOST unit's take none. -/
def BoundUnit.rampStep (run : RunState) (profiles : Table (List Segment)) (b : BoundUnit) : BoundUnit :=
  if b.live.link = .lost then b
  else
    { b with
      fan := b.fan.step profiles (b.fanEffective run)
      damper := b.damper.step profiles b.damperEffective
      gas := b.gas.step profiles b.gasEffective }

/-- RAMP_STEP (R116): every channel that is not at its effective target takes a step. -/
def execRampStep (s : State) : Host.Outcome State Fault Refusal :=
  .next (s.setUnits (Table.update (fun _ b => b.rampStep s.host.run s.profiles) s.units))

/-! ### The gas channel (R87, R122, R123) -/

/-- R114, R122: a gas target is taken; one that becomes 0 closes the valve at once and clears the reduction. -/
def BoundUnit.setGasTarget (g : Nat) (b : BoundUnit) : BoundUnit :=
  if g = b.gas.target then b
  else if g = 0 then { b with gas := { b.gas with target := 0, position := 0 }, gasReduction := 0 }
  else { b with gas := { b.gas with target := g } }

/-- R87: the gas target that the unit's heat stages call for. -/
def BoundUnit.gasCall (b : BoundUnit) : Nat :=
  if b.isOn .h2 then 1000 else if b.isOn .h1 then b.copy.gasLowFire else 0

/-- R87: the gas target of a modulating unit of a zone, derived again from its heat stages. -/
def BoundUnit.rederiveGas (b : BoundUnit) : BoundUnit :=
  if b.copy.kind = .modulatingGas ∧ b.zone ≠ 0 then b.setGasTarget b.gasCall else b

/-- R123: one gas backoff. -/
def BoundUnit.backOffGas (b : BoundUnit) : BoundUnit :=
  { b with gasReduction := min 1000 (b.gasReduction + b.copy.gasBackoff) }

/-! ### The purge timer (R119) and the hard stops (R120, R121) -/

/-- R119: the purge timer at the stop of a unit's last stage that was on. -/
def BoundUnit.startPurge (run : RunState) (cause : StopCause) (b : BoundUnit) : BoundUnit :=
  if run = .normal ∧ cause ≠ .shutdown ∧ 0 < b.copy.purgeTime then { b with purge := .start b.copy.purgeTime } else b

/-- R120: the fan hard stop. -/
def BoundUnit.fanHardStop (b : BoundUnit) : BoundUnit :=
  { b with fan := { b.fan with position := 0 }, fanHold := true, purge := .stopped }

/-- R121: the smoke action, after the unit's stages have stopped; the purge timer is cancelled. -/
def BoundUnit.smokeAction (b : BoundUnit) : BoundUnit :=
  match b.copy.smokeAction with
  | .fanOff =>
    { b with purge := .stopped, fan := { b.fan with target := 0, position := 0 }, damper := { b.damper with target := 0 } }
  | .fanPurge =>
    { b with purge := .stopped, fan := { b.fan with target := 1000 }, damper := { b.damper with target := 1000 } }

/-- R121: at a release from SHUTDOWN a parked unit's fan and damper targets become 0. -/
def BoundUnit.releaseParked (b : BoundUnit) : BoundUnit :=
  if b.zone = 0 then { b with fan := { b.fan with target := 0 }, damper := { b.damper with target := 0 } } else b

/-- PURGE_EXPIRY (R119): the purge timer stops; the fan floor then ends unless a stage is on. -/
def execPurgeExpiry (unit : Nat) (s : State) : Host.Outcome State Fault Refusal :=
  .next (s.onUnit unit fun b => if b.purge.isDue then { b with purge := .stopped } else b)

end Sys2Proof.Machine
end

