-- ==== Sys2Proof/Machine/Stages.lean ====
section
/-! DEFINITION. The stage controller (chapter 1): stops, grants, proof, reclaims, the making of records, and the expiry events. -/

namespace Sys2Proof.Machine

/-! ### Stops (R8 to R14) -/

/-- R8: the classes of stop cause. -/
inductive StopClass where
  | deferred | shed | immediate
deriving DecidableEq, Repr

/-- R8: the class of each stop cause. -/
def StopCause.stopClass : StopCause → StopClass
  | .satisfied | .softLimit => .deferred
  | .shed => .shed
  | .hardLimit | .noProof | .fanFail | .unitLost | .shutdown | .restart => .immediate

/-- R8, R14: the causes that are trips. -/
def StopCause.isTrip : StopCause → Bool
  | .hardLimit | .noProof | .fanFail => true
  | _ => false

/-- R13: the stop data, the runtime and the carry at the end of a run. -/
def StageRec.recordStop (now : Word) (cause : StopCause) (r : StageRec) : StageRec :=
  let length := now - r.lastStart.getD now
  let sum := r.carry + length.toNat
  { r with
    lastStop := some now
    lastRun := some length
    lastCause := some cause
    runtime := min Config.counterMax (r.runtime + sum / 60)
    carry := sum % 60 }

/-- R16: into REST with the min-off timer started. -/
def StageRec.toRest (d : Descriptor) (r : StageRec) : StageRec :=
  { r with state := .rest, minOff := .start d.minOff }

/-- R9: a deferred stop. DEDUCED (log 10): what the rule does not name stays, so a PROVING stage keeps its min-on timer and its
proof overdue in REST; R2 has each timer cancelled at the transitions that the rules name. -/
def StageRec.deferredStop (d : Descriptor) (now : Word) (cause : StopCause) (r : StageRec) : StageRec :=
  match r.state with
  | .proving => { (r.recordStop now cause).toRest d with proving := .stopped }
  | .run =>
    if r.minOn.isRunning then { r with state := .hold, pendingCause := some cause }
    else (r.recordStop now cause).toRest d
  | .hold => if cause = .softLimit then { r with pendingCause := some .softLimit } else r
  | _ => r

/-- R10: a shed reaches only a RUN stage with min-on expired. -/
def StageRec.shedStop (d : Descriptor) (now : Word) (r : StageRec) : StageRec :=
  if r.state = .run ∧ r.minOn.isRunning = false then (r.recordStop now .shed).toRest d else r

/-- R12, R14: an immediate stop; a trip counts and may lead to LOCKOUT. -/
def StageRec.immediateStop (d : Descriptor) (now : Word) (cause : StopCause) (r : StageRec) : StageRec :=
  if r.state.isOn then
    let r := { r.recordStop now cause with minOn := .stopped, proving := .stopped, pendingCause := none, overdue := false }
    if cause.isTrip then
      let r := { r with trips := r.trips + 1 }
      if d.lockoutCount ≤ r.trips then { r with state := .lockout, minOff := .stopped } else r.toRest d
    else r.toRest d
  else r

/-- R8: a stop that reaches a stage; in OFF, REST, LOCKOUT and QUEUED it changes nothing. -/
def StageRec.takeStop (d : Descriptor) (now : Word) (cause : StopCause) (r : StageRec) : StageRec :=
  match cause.stopClass with
  | .deferred => r.deferredStop d now cause
  | .shed => r.shedStop d now
  | .immediate => r.immediateStop d now cause

/-- The unit with a stage record written, and what follows when the stage enters or leaves the on set: the gas target of
a heat stage's unit is derived again (R87), and the purge timer starts when the last stage that was on stops (R119). -/
def BoundUnit.putStage (run : RunState) (cause : StopCause) (st : StageName) (r : StageRec) (b : BoundUnit) : BoundUnit :=
  let b' := { b with stages := b.stages.set st (some r) }
  let b'' := if isHeat st && (b.isOn st != b'.isOn st) then b'.rederiveGas else b'
  if b.anyOn && !b'.anyOn then b''.startPurge run cause else b''

/-- R14: the notice of a trip. -/
def State.raiseTrip (u : Nat) (st : StageName) (zone : Nat) (r : StageRec) (s : State) : State :=
  s.raise (if r.state = .lockout then .stageLockout else .stageTrip) (some u) (some st) (noticeZone zone) (some r.trips)

/-- R8: the stage controller takes a stop that names one stage and one cause. -/
def State.takeStop (u : Nat) (st : StageName) (cause : StopCause) (s : State) : State :=
  match s.unit u with
  | none => s
  | some b =>
    match b.stages.get st with
    | none => s
    | some r =>
      let r' := r.takeStop b.copy s.uptime cause
      let s' := s.putUnit u (b.putStage s.host.run cause st r')
      if r.state.isOn && cause.isTrip then s'.raiseTrip u st b.zone r' else s'

/-- The stops of one cause for several stages of one unit. -/
def State.stopAll (u : Nat) (cause : StopCause) (stages : List StageName) (s : State) : State :=
  stages.foldl (fun s st => s.takeStop u st cause) s

/-! ### Withdrawal, grant, proof and reclaim -/

/-- R4: a withdrawn stage goes from QUEUED to OFF. -/
def StageRec.withdraw (r : StageRec) : StageRec := if r.state = .queued then { r with state := .off } else r

/-- R5: a grant takes a stage from QUEUED to PROVING. -/
def StageRec.grant (d : Descriptor) (now : Word) (r : StageRec) : StageRec :=
  if r.state = .queued then
    { r with
      state := .proving
      minOn := .start d.minOn
      proving := .start d.provingTime
      overdue := false
      starts := (r.starts + 1) % (Config.counterMax + 1)
      lastStart := some now }
  else r

/-- R6: proof takes a PROVING stage to RUN. -/
def StageRec.prove (r : StageRec) : StageRec :=
  if r.state = .proving then { r with state := .run, proving := .stopped, overdue := false } else r

/-- R11: a reclaim takes a stage held for SATISFIED back to RUN. -/
def StageRec.reclaim (r : StageRec) : StageRec :=
  if r.state = .hold ∧ r.pendingCause = some .satisfied then { r with state := .run, pendingCause := none } else r

/-- The unit with one stage record changed by an event that leaves the on set as it is. -/
def BoundUnit.onStage (st : StageName) (f : StageRec → StageRec) (b : BoundUnit) : BoundUnit :=
  match b.stages.get st with
  | none => b
  | some r => { b with stages := b.stages.set st (some (f r)) }

/-- R5, R119, R87: the unit at a grant of one of its stages: the purge timer is cancelled and a heat stage's gas target is
derived again. -/
def BoundUnit.grantStage (now : Word) (st : StageName) (b : BoundUnit) : BoundUnit :=
  match b.stages.get st with
  | none => b
  | some r =>
    if r.state = .queued then
      let b' := { b with stages := b.stages.set st (some (r.grant b.copy now)), purge := .stopped }
      if isHeat st then b'.rederiveGas else b'
    else b

/-! ### The making of records (R21, R22, R25) -/

/-- R1: whether a descriptor names a stage. -/
def Descriptor.names (d : Descriptor) (st : StageName) : Bool :=
  if isHeat st then stageNumber st ≤ d.heatCount else stageNumber st ≤ d.coolCount

/-- R21: a new record: in REST with a full min-off, its counters as given. -/
def StageRec.make (d : Descriptor) (starts runtime : Nat) : StageRec :=
  { state := .rest, minOn := .stopped, minOff := .start d.minOff, proving := .stopped, overdue := false, trips := 0,
    pendingCause := none, lastCause := none, lastStart := none, lastStop := none, lastRun := none, starts, runtime,
    carry := 0 }

/-- R25: a stage name at UNIT.REFRESH with the new copy `d`. -/
def refreshStage (d : Descriptor) (old : Option StageRec) (st : StageName) : Option StageRec :=
  if d.names st then
    match old with
    | none => some (StageRec.make d 0 0)
    | some r => if r.state = .rest then some { r with minOff := r.minOff.shorten d.minOff } else some r
  else none

/-! ### The expiry events -/

/-- MIN_ON_EXPIRY (R11): a HOLD stage goes to REST with its pending cause; any other stage keeps its state and its min-on
is stopped. -/
def execMinOnExpiry (unit : Nat) (stage : StageName) (s : State) : Host.Outcome State Fault Refusal :=
  .next <|
    match s.unit unit with
    | none => s
    | some b =>
      match b.stages.get stage with
      | none => s
      | some r =>
        if r.minOn.isDue then
          let r := { r with minOn := .stopped }
          match r.state, r.pendingCause with
          | .hold, some cause =>
            s.putUnit unit
              (b.putStage s.host.run cause stage { (r.recordStop s.uptime cause).toRest b.copy with pendingCause := none })
          | _, _ => s.putUnit unit { b with stages := b.stages.set stage (some r) }
        else s

/-- MIN_OFF_EXPIRY (R16): a REST stage goes to OFF. -/
def execMinOffExpiry (unit : Nat) (stage : StageName) (s : State) : Host.Outcome State Fault Refusal :=
  .next <| s.onUnit unit <| BoundUnit.onStage stage fun r =>
    if r.minOff.isDue then { r with minOff := .stopped, state := if r.state = .rest then .off else r.state } else r

/-- PROVING_EXPIRY (R7): with the unit ONLINE a PROVING stage stops with NO_PROOF; otherwise proof overdue is set. -/
def execProvingExpiry (unit : Nat) (stage : StageName) (s : State) : Host.Outcome State Fault Refusal :=
  .next <|
    match s.unit unit with
    | none => s
    | some b =>
      match b.stages.get stage with
      | none => s
      | some r =>
        if r.proving.isDue then
          let s' := s.putUnit unit { b with stages := b.stages.set stage (some { r with proving := .stopped }) }
          if r.state = .proving then
            if b.live.link = .online then s'.takeStop unit stage .noProof
            else
              s.putUnit unit { b with stages := b.stages.set stage (some { r with proving := .stopped, overdue := true }) }
          else s'
        else s

/-- TRIP_COUNT_CLEAR (R15): 1,800 s after the grant, with the stage still on in the same run, the trip count becomes 0. -/
def execTripCountClear (unit : Nat) (stage : StageName) (s : State) : Host.Outcome State Fault Refusal :=
  .next <| s.onUnit unit <| BoundUnit.onStage stage fun r =>
    match r.lastStart with
    | none => r
    | some t => if r.state.isOn && Config.tripClearTime ≤ since s.uptime t then { r with trips := 0 } else r

end Sys2Proof.Machine
end

