-- ==== Sys2Proof/Machine/Meter.lean ====
section
/-! DEFINITION. The demand meter (chapter 3): load, ceiling, tests, intervals and history, site load, limits. -/

namespace Sys2Proof.Machine

/-! ### The present load (R50 to R53) -/

/-- R51: the fan load at position `p` with rated load `kf`; each step truncates. -/
def fanLoad (p kf : Nat) : Nat := p * p / 1000 * p / 1000 * kf / 1000

/-- R50: whether a stage of the unit counts in the load, each stage at most once. -/
def BoundUnit.stageCounts (b : BoundUnit) (st : StageName) : Bool :=
  if b.live.link = .lost then b.lostOn.get st
  else b.isOn st || (b.live.link = .online && b.live.unexpected.get st)

/-- R50: the load of the unit's counted stages. -/
def BoundUnit.stageLoad (b : BoundUnit) : Nat :=
  (allStages.map fun st => if b.stageCounts st then b.copy.loads.get st else 0).sum

/-- R51: the fan load of the unit at its present fan position. -/
def BoundUnit.fanLoad (b : BoundUnit) : Nat := Machine.fanLoad b.fan.position b.copy.fanLoad

/-- R50: the fan share of P_hvac. -/
def State.fanShare (s : State) : Nat := (s.units.map fun p => p.2.fanLoad).sum

/-- R50: P_hvac, without an upper limit. -/
def State.hvacLoad (s : State) : Nat := (s.units.map fun p => p.2.stageLoad).sum + s.fanShare

/-- R53: the present load P, saturated. -/
def State.presentLoad (s : State) : Nat := min Config.loadMax (s.meter.siteLoad + s.hvacLoad)

/-! ### The ceiling (R59) and the tests (R58, R60) -/

/-- R74: a zone's effective occupancy. -/
def Zone.occupancy (r : Zone) : Occupancy := (r.forced.bind Override.occForce).getD r.cell.occupancy

/-- R59: the number of defined zones whose effective occupancy is RECOVERY. -/
def State.recoveryZones (s : State) : Nat := (s.zones.filter fun p => p.2.occupancy = .recovery).length

/-- R59: the ceiling in force. -/
def State.ceiling (s : State) : Nat :=
  if 0 < s.recoveryZones then s.meter.limits.recovery else s.meter.limits.ceiling

/-- R58: the remaining seconds of the interval. -/
def Interval.left (i : Interval) : Nat := i.effective - i.elapsed

/-- R58: the projected energy of the interval at a load. -/
def Interval.projected (load : Nat) (i : Interval) : Nat := i.energy + load * i.left

/-- R58: the energy that the ceiling in force allows the interval. -/
def State.allowedEnergy (s : State) : Nat := s.ceiling * s.meter.interval.effective

/-- R58: whether a shed is needed at the load of the event. -/
def State.shedNeeded (load : Nat) (s : State) : Bool := s.allowedEnergy < s.meter.interval.projected load

/-- R60: P + k, saturated. -/
def State.loadWith (k : Nat) (s : State) : Nat := min Config.loadMax (s.presentLoad + k)

/-- R60: whether a load fails the projection test. -/
def State.projectionFails (k : Nat) (s : State) : Bool :=
  s.allowedEnergy < s.meter.interval.projected (s.loadWith k)

/-- R60: whether a load fails the instant test. -/
def State.instantFails (k : Nat) (s : State) : Bool := s.meter.limits.cap < s.loadWith k

/-! ### Intervals (R54 to R57, R63) -/

/-- R94: the seconds of day of a time. -/
def TimeOfDay.seconds (t : TimeOfDay) : Nat := t.minute * 60 + t.second

/-- R54: the interval that opens now with length `length`; `atClockSet` is an opening made at CLOCK.SET. -/
def State.newInterval (length : Nat) (atClockSet : Bool) (s : State) : Interval :=
  match s.timeOfDay with
  | some t =>
    let effective := length - t.seconds % length
    { start := some (t.day, t.minute), startUptime := s.uptime, length, effective, energy := 0, elapsed := 0, peak := 0,
      sheds := 0, clipped := atClockSet && effective < length, unaligned := false, overrun := false }
  | none =>
    { start := none, startUptime := s.uptime, length, effective := length, energy := 0, elapsed := 0, peak := 0,
      sheds := 0, clipped := false, unaligned := true, overrun := false }

/-- R47: the length that the next interval will take. -/
def Meter.nextLength (m : Meter) : Nat := m.pendingLength.getD m.limits.length

/-- R54, R56: opens a new interval with the pending length, or the length of the record. -/
def State.openInterval (atClockSet : Bool) (s : State) : State :=
  s.setMeter { s.meter with pendingLength := none, interval := s.newInterval s.meter.nextLength atClockSet }

/-- R63: appends a record to the history ring, whose oldest record goes when it holds 96. -/
def Meter.record (h : HistoryRec) (m : Meter) : Meter :=
  { m with
    history := (if Config.historySize ≤ m.history.length then m.history.drop 1 else m.history) ++ [h]
    closeCount := m.closeCount + 1#32 }

/-- R57, R63: the history record of the interval at its close, under the ceiling in force then. -/
def Interval.close (ceiling : Nat) (atClockSet : Bool) (i : Interval) : HistoryRec :=
  let average := i.energy / i.elapsed
  { start := i.start, startUptime := i.startUptime, length := i.elapsed, average, peak := i.peak, ceiling,
    sheds := i.sheds, clipped := atClockSet || i.clipped, unaligned := i.unaligned, aboveCeiling := ceiling < average,
    overrun := i.overrun }

/-- R57: closes the interval, with INTERVAL_OVER where its average is above the ceiling, and opens the next one. -/
def State.closeInterval (ceiling : Nat) (atClockSet : Bool) (s : State) : State :=
  let h := s.meter.interval.close ceiling atClockSet
  let s := s.setMeter (s.meter.record h)
  let s := if h.aboveCeiling then s.raise .intervalOver none none none (some h.average) else s
  s.openInterval atClockSet

/-- R55: the interval at CLOCK.SET: closed with e of 1 or more, discarded otherwise. -/
def State.meterClockSet (ceiling : Nat) (s : State) : State :=
  if s.meter.interval.elapsed = 0 then s.openInterval true else s.closeInterval ceiling true

/-- R57: adds one second of load to the interval. -/
def Interval.add (load : Nat) (i : Interval) : Interval :=
  { i with energy := i.energy + load, elapsed := i.elapsed + 1, peak := max i.peak load }

/-! ### Shedding (R61, R62) -/

/-- R61: a candidate of the shed, with what the choice compares. -/
structure ShedCandidate where
  priority : Nat
  start : Nat
  unit : Nat
  stage : StageName
deriving DecidableEq, Repr

/-- R61: whether `a` is chosen before `b`. -/
def ShedCandidate.before (a b : ShedCandidate) : Bool :=
  a.priority < b.priority || (a.priority = b.priority &&
    (b.start < a.start || (a.start = b.start &&
      (b.unit < a.unit || (a.unit = b.unit && stageCode b.stage < stageCode a.stage)))))

/-- R61: the priority of a unit's zone as it stands. -/
def State.zonePriority (s : State) (z : Nat) : Nat := (s.zoneConfig z).priority

/-- R61: the candidates on one unit: RUN with min-on expired, the unit ONLINE. -/
def State.unitShedCandidates (s : State) (u : Nat) (b : BoundUnit) : List ShedCandidate :=
  if b.live.link = .online then
    allStages.filterMap fun st =>
      match b.stages.get st with
      | some r =>
        if r.state = .run ∧ r.minOn.isRunning = false then
          some { priority := s.zonePriority b.zone, start := (r.lastStart.getD 0#32).toNat, unit := u, stage := st }
        else none
      | none => none
  else []

/-- R61: every candidate of the shed. -/
def State.shedCandidates (s : State) : List ShedCandidate := s.units.flatMap fun p => s.unitShedCandidates p.1 p.2

/-- The element that a strict choice order puts before every other one. -/
def choose {α : Type} (before : α → α → Bool) : List α → Option α
  | [] => none
  | a :: l =>
    match choose before l with
    | none => some a
    | some b => if before b a then some b else some a

/-- R61: the stage that the shed stops. -/
def State.shedChoice (s : State) : Option ShedCandidate := choose ShedCandidate.before s.shedCandidates

/-- R61: sheds one stage. -/
def State.shed (c : ShedCandidate) (s : State) : State :=
  let s := s.takeStop c.unit c.stage .shed
  s.setMeter { s.meter with interval := { s.meter.interval with sheds := s.meter.interval.sheds + 1 } }

/-- R62: records an overrun, with one notice an interval. -/
def State.recordOverrun (load : Nat) (s : State) : State :=
  let s' := s.setMeter { s.meter with interval := { s.meter.interval with overrun := true } }
  if s.meter.interval.overrun then s' else s'.raise .overrun none none none (some load)

/-! ### The site load (R48, R49) and the limits (R47) -/

/-- R49: the site load becomes the fallback load and stale. -/
def Meter.toStale (m : Meter) : Meter := { m with siteLoad := m.limits.fallback, siteStale := true }

/-- R49: the notice of a site load that has gone stale. -/
def State.noteStale (s : State) : State := s.raise .siteStale none none none (some s.meter.limits.fallback)

/-- R49: the site load goes stale, with its notice. -/
def State.goStale (s : State) : State := (s.setMeter s.meter.toStale).noteStale

/-- R49: whether the site age has reached the site-stale time with the stale flag no. -/
def Meter.staleDue (m : Meter) : Bool :=
  !m.siteStale &&
    match m.siteAge with
    | none => false
    | some age => m.limits.stale ≤ age

/-- R46, R47: writes a limits record; its effects on the pending length and on a site load that is stale already. -/
def Meter.write (l : Limits) (m : Meter) : Meter :=
  { m with
    limits := l
    pendingLength := if l.length = m.interval.length then none else some l.length
    siteLoad := if m.siteStale then l.fallback else m.siteLoad }

/-- R47, R49: whether a new limits record shortens the site-stale time to a value at or below the age of a fresh site load. -/
def Meter.expires (l : Limits) (m : Meter) : Bool := l.stale < m.limits.stale && (m.write l).staleDue

/-- R47: the meter with a limits record applied, by DEMAND.LIMITS or by STORE.CLEAR: the record is written, and a site load
whose age the new site-stale time has reached goes stale at once. -/
def Meter.apply (l : Limits) (m : Meter) : Meter := if m.expires l then (m.write l).toStale else m.write l

/-- R47, R49: applies a limits record accepted by DEMAND.LIMITS; a site load that goes stale raises its notice. -/
def State.applyLimits (l : Limits) (s : State) : State :=
  let s' := s.setMeter (s.meter.apply l)
  if s.meter.expires l then s'.noteStale else s'

/-- SITE_STALE (R49): the site load goes stale when its age has reached the site-stale time. -/
def execSiteStale (s : State) : Host.Outcome State Fault Refusal := .next (if s.meter.staleDue then s.goStale else s)

end Sys2Proof.Machine
end

