-- ==== Sys2Proof/Machine/Arbiter.lean ====
section
/-! DEFINITION. The start arbiter (chapter 2): joins, withdrawals, grant attempts, the stagger timer; and the accumulation
event (R57, R58), which asks for attempts. -/

namespace Sys2Proof.Machine

/-! ### Withdrawal (R30 to R33) -/

/-- Whether an entry stands for a stage of a unit. -/
def Entry.isFor (u : Nat) (st : StageName) (e : Entry) : Bool := e.unit == u && e.stage == st

/-- The state with the entry of a stage taken out of the queue. -/
def State.removeEntry (u : Nat) (st : StageName) (s : State) : State :=
  s.setArbiter { s.arbiter with queue := s.arbiter.queue.filter fun e => !e.isFor u st }

/-- R30: withdraws the entry of a stage, and the stage goes from QUEUED to OFF; with no such entry nothing changes. -/
def State.withdraw (u : Nat) (st : StageName) (s : State) : State :=
  if s.arbiter.queue.any (Entry.isFor u st) then
    (s.removeEntry u st).onUnit u (BoundUnit.onStage st StageRec.withdraw)
  else s

/-- The withdrawals of several entries, each of its own entry and stage (R30). -/
def State.withdrawAll (es : List Entry) (s : State) : State := es.foldl (fun s e => s.withdraw e.unit e.stage) s

/-- R31: the zone's entry with the highest join rank. -/
def State.newestEntry (z : Nat) (s : State) : Option Entry :=
  choose (fun a b => b.joinRank < a.joinRank) (s.arbiter.queue.filter fun e => e.zone == z)

/-- R32: withdraws a zone's entries of a mode. -/
def State.withdrawMode (z : Nat) (heat : Bool) (s : State) : State :=
  s.withdrawAll (s.arbiter.queue.filter fun e => e.zone == z && e.compressor == !heat)

/-- R33: withdraws every entry of a unit. -/
def State.withdrawUnit (u : Nat) (s : State) : State := s.withdrawAll (s.arbiter.queue.filter fun e => e.unit == u)

/-! ### The grant attempt (R36 to R39) -/

/-- R36: whether a unit is soft-limited in a stage's mode. -/
def BoundUnit.softLimited (b : BoundUnit) (heat : Bool) : Bool := if heat then b.limit.heatLimited else b.limit.coolLimited

/-- R36: why an entry is skipped at an attempt: the first condition that holds, none for a candidate. -/
def State.skipReason (s : State) (e : Entry) : Option SkipReason :=
  match s.unit e.unit with
  | none => some .link
  | some b =>
    if b.live.link ≠ .online then some .link
    else if b.softLimited (isHeat e.stage) then some .soft
    else if b.fan.position < b.copy.proofLevel then some .airflow
    else if e.compressor && s.arbiter.stagger.isRunning then some .stagger
    else none

/-- R36: the walk of the queue from its head: the entries skipped, the first skip reason and the candidate. -/
def State.walk (s : State) : List Entry → Nat × Option SkipReason × Option Entry
  | [] => (0, none, none)
  | e :: rest =>
    match s.skipReason e with
    | none => (0, none, some e)
    | some why =>
      let (n, _, c) := s.walk rest
      (n + 1, some why, c)

/-- R34: starts the stagger timer with the start spacing in force. -/
def State.startStagger (s : State) : State :=
  s.setArbiter { s.arbiter with stagger := .start s.meter.limits.spacing }

/-- R37: the grant of an entry: it leaves the queue, its stage enters PROVING, and a compressor grant starts the stagger
timer. -/
def State.grant (e : Entry) (s : State) : State :=
  let s := (s.removeEntry e.unit e.stage).onUnit e.unit (BoundUnit.grantStage s.uptime e.stage)
  if e.compressor then s.startStagger else s

/-- R39: writes the attempt record. -/
def State.recordAttempt (a : AttemptRec) (s : State) : State := s.setArbiter { s.arbiter with attempt := some a }

/-- R36, R37, R39: one grant attempt. -/
def State.attempt (cause : AttemptCause) (s : State) : State :=
  let (skipped, firstSkip, candidate) := s.walk s.arbiter.queue
  match candidate with
  | none =>
    s.recordAttempt
      { uptime := s.uptime, cause, outcome := .none, candidate := none, failed := none, skipped, firstSkip }
  | some e =>
    let projection := s.projectionFails e.load
    let instant := s.instantFails e.load
    if projection || instant then
      s.recordAttempt
        { uptime := s.uptime, cause, outcome := .blocked, candidate := some (e.unit, e.stage),
          failed := some (projection, instant), skipped, firstSkip }
    else
      (s.grant e).recordAttempt
        { uptime := s.uptime, cause, outcome := .granted, candidate := some (e.unit, e.stage), failed := none, skipped,
          firstSkip }

/-! ### Joins (R28) -/

/-- R28: an entry placed directly before the first entry of lower priority. -/
def placeEntry (e : Entry) : List Entry → List Entry
  | [] => [e]
  | a :: l => if a.priority < e.priority then e :: a :: l else a :: placeEntry e l

/-- R3, R26, R28: a stage request. A stage in OFF joins the queue when it has room, becomes QUEUED, and a grant attempt
follows at once; in any other case the request is not made. DESIGN CHOICE (log 28): the join rank is the counter before its
increase, so that the first join since power-on has rank 0. -/
def State.request (u : Nat) (st : StageName) (s : State) : State :=
  match s.unit u with
  | none => s
  | some b =>
    match b.stages.get st with
    | none => s
    | some r =>
      if r.state = .off ∧ s.arbiter.queue.length < Config.queueSize then
        let e : Entry :=
          { unit := u, stage := st, zone := b.zone, priority := s.zonePriority b.zone, load := b.copy.loads.get st,
            compressor := !isHeat st, joinUptime := s.uptime, joinRank := s.arbiter.joinRank }
        let s := s.putUnit u { b with stages := b.stages.set st (some { r with state := .queued }) }
        let s := s.setArbiter
          { s.arbiter with queue := placeEntry e s.arbiter.queue, joinRank := s.arbiter.joinRank + 1#32 }
        s.attempt .join
      else s

/-- R28: whether a request would be made. -/
def State.canJoin (u : Nat) (st : StageName) (s : State) : Bool :=
  match s.unit u with
  | none => false
  | some b => b.stageIs (· = .off) st && s.arbiter.queue.length < Config.queueSize

/-! ### The events -/

/-- STAGGER_EXPIRY (R34): the stagger timer stops and a grant attempt follows at once. -/
def execStaggerExpiry (s : State) : Host.Outcome State Fault Refusal :=
  .next <|
    if s.arbiter.stagger.isDue then (s.setArbiter { s.arbiter with stagger := .stopped }).attempt .stagger else s

/-- ACCUMULATION_EVENT (R57, R58): one second of load; a full interval closes and ends the event; otherwise the shed test
sheds one stage, or records an overrun, or asks for a grant attempt. -/
def execAccumulationEvent (s : State) : Host.Outcome State Fault Refusal :=
  .next <|
    let load := s.presentLoad
    let s := s.setMeter { s.meter with interval := s.meter.interval.add load }
    if s.meter.interval.elapsed = s.meter.interval.effective then s.closeInterval s.ceiling false
    else if s.shedNeeded load then
      match s.shedChoice with
      | some c => s.shed c
      | none => (s.recordOverrun load).attempt .meter
    else s.attempt .meter

end Sys2Proof.Machine
end

