-- ==== Sys2Proof/Machine/Zones.lean ====
section
/-! DEFINITION. The zone controller (chapter 4): the evaluation event step by step, overrides, and what resets do to zones. -/

namespace Sys2Proof.Machine

/-! ### Temperature (R72, R73) -/

/-- R72: a reading is valid when it is present and lies in −400 to +850 tenths °C. -/
def validReading (t : Option Int) : Option Int := t.bind fun v => if -400 ≤ v ∧ v ≤ 850 then some v else none

/-- R72: the average of valid readings, rounded half up; absent with none. -/
def roundedAverage (ts : List Int) : Option Int :=
  if ts.isEmpty then none else some ((2 * ts.sum + ts.length) / (2 * ts.length))

/-- R72: a unit's space reading, if it counts for a zone with a sensor stale time. -/
def BoundUnit.spaceReading (now : Word) (stale : Nat) (b : BoundUnit) : Option Int :=
  if b.live.link = .online ∨ b.live.link = .missing then
    match b.live.lastGood with
    | some t => if since now t < stale then validReading b.live.space else none
    | none => none
  else none

/-- The bound units of a zone's list, in its order. -/
def State.zoneUnits (s : State) (r : Zone) : List (Nat × BoundUnit) :=
  r.units.filterMap fun u => (s.unit u).map fun b => (u, b)

/-- R72: the zone temperature that the readings give. -/
def State.deriveTemperature (s : State) (r : Zone) : Option Int :=
  roundedAverage ((s.zoneUnits r).filterMap fun p => p.2.spaceReading s.uptime r.config.staleTime)

/-- Step 1 of an evaluation (R72, R73): a derivation, or a held temperature that may raise the sensor fault. -/
def State.temperatureStep (z : Nat) (s : State) : State :=
  match s.zone z with
  | none => s
  | some r =>
    match s.deriveTemperature r with
    | some t => s.putZone z { r with temperature := some t, derivedAt := s.uptime, sensorFault := false }
    | none =>
      if !r.sensorFault && r.config.staleTime ≤ since s.uptime r.derivedAt then
        (s.putZone z { r with sensorFault := true }).raise .sensorFault none none (some z) r.temperature
      else s

/-! ### Setpoints (R74, R75) -/

/-- R67: the fallback cell of a zone. -/
def ZoneConfig.fallbackCell (c : ZoneConfig) : Cell := { occupancy := c.fbOccupancy, cool := c.fbCool, heat := c.fbHeat }

/-- R75, R88, R103: a setpoint clamped to 100 to 350 tenths °C. -/
def clampSetpoint (v : Int) : Nat := (max 100 (min 350 v)).toNat

/-- R75: the applied cool and heat setpoints from the chosen ones. -/
def applySetpoints (deadband cool heat : Nat) : Nat × Nat :=
  let sc := clampSetpoint cool
  let sh := clampSetpoint heat
  if sc < sh + deadband then if 350 < sh + deadband then (350, 350 - deadband) else (sh + deadband, sh) else (sc, sh)

/-- R75: the applied setpoints of a zone, from its override where it carries them and its current cell otherwise. -/
def Zone.chosenSetpoints (r : Zone) : Nat × Nat :=
  applySetpoints r.config.deadband ((r.forced.bind Override.cool).getD r.cell.cool)
    ((r.forced.bind Override.heat).getD r.cell.heat)

/-- The zone with its applied setpoints formed again. -/
def Zone.withSetpoints (r : Zone) : Zone :=
  { r with appliedCool := r.chosenSetpoints.1, appliedHeat := r.chosenSetpoints.2 }

/-- R74: with the clock invalid the current cell becomes the fallback cell at the start of an evaluation. -/
def State.refreshCell (z : Nat) (s : State) : State :=
  if s.timeOfDay.isSome then s else s.onZone z fun r => { r with cell := r.config.fallbackCell }

/-! ### Mode (R76, R77) -/

/-- R76: the override's mode force. -/
def Zone.modeForce (r : Zone) : ModeForce := (r.forced.bind Override.modeForce).getD .auto

/-- R76: cooling is forced off by OFF and HEAT_ONLY, heating by OFF and COOL_ONLY. -/
def Zone.forcedOff (r : Zone) (heat : Bool) : Bool :=
  match r.modeForce with
  | .off => true
  | .heatOnly => !heat
  | .coolOnly => heat
  | .auto => false

/-- R79: the stages of a unit that count in a zone's capacity for a mode. -/
def BoundUnit.capacity (b : BoundUnit) (heat : Bool) : Nat :=
  if b.live.link = .lost then 0 else allStages.countP fun st => isHeat st == heat && b.stageIs (· ≠ .lockout) st

/-- R79: the part-wide outdoor value. -/
def State.outdoorValue (s : State) : Option Int :=
  roundedAverage
    (s.units.filterMap fun p => if p.2.live.link = .online then validReading p.2.live.outdoor else none)

/-- R79: whether the economizer is available to a zone in COOL. -/
def State.economizer (s : State) (r : Zone) : Bool :=
  r.config.econEnable &&
    (match s.outdoorValue with
      | none => false
      | some v => v ≤ r.config.econLimit) &&
    (s.zoneUnits r).any fun p => p.2.copy.econPresent

/-- R79: the stages that count in a zone's capacity for a mode. -/
def State.stageCapacity (s : State) (r : Zone) (heat : Bool) : Nat :=
  ((s.zoneUnits r).map fun p => p.2.capacity heat).sum

/-- R79: a zone's capacity for a mode, the economizer in COOL included. -/
def State.modeCapacity (s : State) (r : Zone) (heat : Bool) : Nat :=
  s.stageCapacity r heat + if !heat && s.economizer r then 1 else 0

/-- R77: whether a stage of a mode is engaged on a unit of the zone. -/
def State.zoneEngaged (s : State) (r : Zone) (heat : Bool) : Bool :=
  (s.zoneUnits r).any fun p => allStages.any fun st => isHeat st == heat && p.2.stageIs StageState.isEngaged st

/-- R77, R91, R92: the zone at its entry to IDLE, less its timer. -/
def Zone.toIdle (r : Zone) : Zone :=
  { r with
    mode := .idle, level := 0, capacity := 0, wanted := 0, econAvailable := false, econOn := false, stepOwed := false,
    holdOrder := [] }

/-- R76: the mode that a zone in IDLE enters, if any. -/
def State.modeEntry (s : State) (r : Zone) : Option Mode :=
  match r.temperature with
  | none => none
  | some t =>
    if r.sensorFault then none
    else if (r.config.modeDiff : Int) ≤ t - r.appliedCool && !r.forcedOff false && 0 < s.modeCapacity r false &&
        (!r.changeover.isRunning || r.lastMode != .heat) then some .cool
    else if (r.config.modeDiff : Int) ≤ r.appliedHeat - t && !r.forcedOff true && 0 < s.modeCapacity r true &&
        !r.changeover.isRunning then some .heat
    else none

/-- R77: whether a zone in COOL or HEAT goes to IDLE. -/
def State.modeExit (s : State) (r : Zone) (heat : Bool) : Bool := r.level = 0 && !r.econOn && !s.zoneEngaged r heat

/-- Step 3 of an evaluation (R76, R77): at most one change of mode. -/
def State.modeStep (z : Nat) (s : State) : State :=
  match s.zone z with
  | none => s
  | some r =>
    match r.mode with
    | .idle =>
      match s.modeEntry r with
      | some m => s.putZone z { r with mode := m, lastMode := m }
      | none => s
    | m =>
      if s.modeExit r (m = .heat) then
        (s.putZone z { r.toIdle with changeover := .start r.config.changeover }).withdrawMode z (m = .heat)
      else s

/-! ### Capacity, level and economizer (R78 to R81) -/

/-- R78: whether the level is forced to 0. -/
def Zone.levelForced (r : Zone) : Bool := r.sensorFault || r.temperature.isNone || r.forcedOff (r.mode = .heat)

/-- R80: the amount by which the temperature calls in the zone's mode. -/
def Zone.call (r : Zone) : Int :=
  match r.temperature with
  | none => 0
  | some t => if r.mode = .heat then r.appliedHeat - t else t - r.appliedCool

/-- R80: U, the level that the call asks for. -/
def Zone.askedLevel (cap : Nat) (r : Zone) : Nat :=
  if (r.config.stageDiff : Int) ≤ r.call then min cap (r.call.toNat / r.config.stageDiff) else 0

/-- R80: the level with its stamps before the clip. -/
def Zone.moveLevel (now : Word) (cap : Nat) (r : Zone) : Zone :=
  let n := r.level
  if n < r.askedLevel cap ∧ delayPassed now r.config.upDelay r.lastIncrease then
    { r with level := n + 1, lastIncrease := some now, stepOwed := true }
  else if 0 < n ∧ r.call ≤ (((n - 1) * r.config.stageDiff : Nat) : Int) ∧
      delayPassed now r.config.downDelay r.lastDecrease then
    { r with level := n - 1, lastDecrease := some now }
  else r

/-- R81: the economizer flag and the wanted stages from the level. -/
def Zone.economize (available : Bool) (r : Zone) : Zone :=
  { r with
    econAvailable := available
    econOn := available && 0 < r.level
    wanted := if available then r.level - 1 else r.level }

/-- R78, R80, R81: a zone in COOL or HEAT after its level step, with capacity `cap`. -/
def Zone.levelStep (now : Word) (cap : Nat) (available : Bool) (r : Zone) : Zone :=
  let r' := if r.levelForced then { r with level := 0 } else r.moveLevel now cap
  ({ r' with level := min r'.level cap, capacity := cap }).economize available

/-- Step 4 of an evaluation: in IDLE level, capacity and wanted stages are 0 (R79, R80). -/
def State.levelStep (z : Nat) (s : State) : State :=
  s.onZone z fun r =>
    match r.mode with
    | .idle => { r with level := 0, capacity := 0, wanted := 0, econAvailable := false, econOn := false }
    | .cool => r.levelStep s.uptime (s.modeCapacity r false) (s.economizer r)
    | .heat => r.levelStep s.uptime (s.modeCapacity r true) false

/-! ### Matching (R82 to R85) -/

/-- R82: a unit's stages of a mode in QUEUED, PROVING or RUN. -/
def BoundUnit.activeCount (b : BoundUnit) (heat : Bool) : Nat :=
  allStages.countP fun st => isHeat st == heat && b.stageIs StageState.isCounted st

/-- R84: a unit's engaged stages of a mode. -/
def BoundUnit.engagedCount (b : BoundUnit) (heat : Bool) : Nat :=
  allStages.countP fun st => isHeat st == heat && b.stageIs StageState.isEngaged st

/-- R82: the active count A of a zone; 0 in IDLE. -/
def State.activeCount (s : State) (r : Zone) : Nat :=
  if r.mode = .idle then 0 else ((s.zoneUnits r).map fun p => p.2.activeCount (r.mode = .heat)).sum

/-- R83: whether a stage of the hold order may still be reclaimed. DESIGN CHOICE (log 32): the zone to which the unit is bound
is not looked at, so a place kept through a UNIT.FREE can reclaim the stage of a unit bound to another zone since. -/
def State.reclaimable (s : State) (p : Nat × StageName) : Bool :=
  match s.unit p.1 with
  | none => false
  | some b =>
    match b.stages.get p.2 with
    | none => false
    | some r => r.state = .hold && r.pendingCause = some .satisfied

/-- R83: the hold order without the stages no longer in HOLD for SATISFIED, reclaiming the newest `short` of the rest. -/
def State.reclaimStep (z : Nat) (short : Nat) (s : State) : State :=
  match s.zone z with
  | none => s
  | some r =>
    let held := r.holdOrder.filter s.reclaimable
    let keep := held.length - short
    let taken := (held.drop keep).reverse
    let s := s.putZone z { r with holdOrder := held.take keep, stepOwed := r.stepOwed && taken.isEmpty }
    taken.foldl (fun s p => s.onUnit p.1 (BoundUnit.onStage p.2 StageRec.reclaim)) s

/-- R84: a unit that may take the zone's request, with what the choice compares. -/
structure RequestCandidate where
  engaged : Nat
  runtime : Nat
  unit : Nat
  stage : StageName
deriving DecidableEq, Repr

/-- R84: whether `a` is chosen before `b`. -/
def RequestCandidate.before (a b : RequestCandidate) : Bool :=
  a.engaged < b.engaged || (a.engaged = b.engaged &&
    (a.runtime < b.runtime || (a.runtime = b.runtime && a.unit < b.unit)))

/-- R84: a unit of the list as a candidate of the request, if it is eligible. -/
def BoundUnit.requestCandidate (u : Nat) (heat : Bool) (b : BoundUnit) : Option RequestCandidate :=
  if b.live.link = .online ∧ b.softLimited heat = false ∧ b.engagedCount (!heat) = 0 then
    match stageOf heat (b.engagedCount heat + 1) with
    | none => none
    | some st =>
      match b.stages.get st with
      | none => none
      | some r =>
        if r.state = .off then some { engaged := b.engagedCount heat, runtime := r.runtime, unit := u, stage := st }
        else none
  else none

/-- R84: the stage that the zone requests. -/
def State.requestChoice (s : State) (r : Zone) : Option RequestCandidate :=
  choose RequestCandidate.before ((s.zoneUnits r).filterMap fun p => p.2.requestCandidate p.1 (r.mode = .heat))

/-- R84: the request of a zone whose wanted stages still exceed its active count. -/
def State.requestStep (z : Nat) (s : State) : State :=
  match s.zone z with
  | none => s
  | some r =>
    if r.stepOwed || delayPassed s.uptime r.config.upDelay r.lastIncrease then
      match s.requestChoice r with
      | none => s
      | some c =>
        if s.canJoin c.unit c.stage then (s.request c.unit c.stage).putZone z { r with stepOwed := false } else s
    else s

/-- R85: a unit with a stage of the mode in RUN, with what the choice of a stop compares. -/
structure StopCandidate where
  active : Nat
  runtime : Nat
  unit : Nat
  stage : StageName
deriving DecidableEq, Repr

/-- R85: whether `a` is chosen before `b`. -/
def StopCandidate.before (a b : StopCandidate) : Bool :=
  b.active < a.active || (a.active = b.active &&
    (b.runtime < a.runtime || (a.runtime = b.runtime && b.unit < a.unit)))

/-- R85: the highest-numbered stage of a mode in RUN on a unit. -/
def BoundUnit.topRunning (b : BoundUnit) (heat : Bool) : Option StageName :=
  (allStages.filter fun st => isHeat st == heat && b.stageIs (· = .run) st).getLast?

/-- R85: a unit of the list as a candidate of the stop. -/
def BoundUnit.stopCandidate (u : Nat) (heat : Bool) (b : BoundUnit) : Option StopCandidate :=
  match b.topRunning heat with
  | none => none
  | some st =>
    (b.stages.get st).map fun r => { active := b.activeCount heat, runtime := r.runtime, unit := u, stage := st }

/-- R85: the stage that the zone stops. -/
def State.stopChoice (s : State) (r : Zone) : Option StopCandidate :=
  choose StopCandidate.before ((s.zoneUnits r).filterMap fun p => p.2.stopCandidate p.1 (r.mode = .heat))

/-- R83: a stage that a SATISFIED stop left in HOLD joins the end of the hold order, any earlier place removed. -/
def joinHoldOrder (u : Nat) (st : StageName) (l : List (Nat × StageName)) : List (Nat × StageName) :=
  (l.filter fun p => !(p.1 == u && p.2 == st)) ++ [(u, st)]

/-- R85: gives up a stage: the zone's newest entry, or else one running stage. -/
def State.giveUpStep (z : Nat) (s : State) : State :=
  match s.zone z with
  | none => s
  | some r =>
    match s.newestEntry z with
    | some e => s.withdraw e.unit e.stage
    | none =>
      match s.stopChoice r with
      | none => s
      | some c =>
        let s' := s.takeStop c.unit c.stage .satisfied
        if s'.reclaimable (c.unit, c.stage) then
          s'.putZone z { r with holdOrder := joinHoldOrder c.unit c.stage r.holdOrder }
        else s'

/-- Step 5 of an evaluation (R82): wanted stages against active stages. -/
def State.matchStep (z : Nat) (s : State) : State :=
  match s.zone z with
  | none => s
  | some r =>
    if r.mode = .idle then s
    else
      let active := s.activeCount r
      if active < r.wanted then
        let s := s.reclaimStep z (r.wanted - active)
        if s.activeCount r < r.wanted then s.requestStep z else s
      else if r.wanted < active then s.giveUpStep z
      else s

/-! ### Channel targets (R86, R87) -/

/-- R86: the fan target of a zone's units. -/
def Zone.fanTarget (r : Zone) : Nat :=
  match r.occupancy with
  | .unoccupied => if 0 < r.level then r.config.occFan else 0
  | _ => r.config.occFan

/-- R86: the damper target of a unit of the zone. -/
def Zone.damperTarget (r : Zone) (d : Descriptor) : Nat :=
  if r.econOn && d.econPresent then d.econPosition else if r.occupancy = .occupied then d.minVent else 0

/-- R86, R87: a unit that takes its zone's fan, damper and gas targets. -/
def BoundUnit.takeTargets (r : Zone) (b : BoundUnit) : BoundUnit :=
  let b := { b with
    fan := { b.fan with target := r.fanTarget }
    damper := { b.damper with target := r.damperTarget b.copy } }
  b.rederiveGas

/-- Step 6 of an evaluation: targets for every unit of the list. -/
def State.channelStep (z : Nat) (s : State) : State :=
  match s.zone z with
  | none => s
  | some r => r.units.foldl (fun s u => s.onUnit u (BoundUnit.takeTargets r)) s

/-! ### The evaluation event (R71) and the zone's other events -/

/-- R71: the evaluation of a zone; in SHUTDOWN only the temperature and the setpoints. -/
def State.evaluate (z : Nat) (s : State) : State :=
  let s := ((s.refreshCell z).temperatureStep z).onZone z Zone.withSetpoints
  if s.host.run = .normal then (((s.modeStep z).levelStep z).matchStep z).channelStep z else s

/-- ZONE_EVALUATION (R71): the evaluation timer expires, starts again, and the zone takes its evaluation. -/
def execZoneEvaluation (zone : Nat) (s : State) : Host.Outcome State Fault Refusal :=
  .next <|
    match s.zone zone with
    | none => s
    | some r =>
      if r.evaluation.isDue then
        (s.putZone zone { r with evaluation := .start r.config.period }).evaluate zone
      else s

/-- CHANGEOVER_EXPIRY (R77): the changeover timer stops. -/
def execChangeoverExpiry (zone : Nat) (s : State) : Host.Outcome State Fault Refusal :=
  .next (s.onZone zone fun r => if r.changeover.isDue then { r with changeover := .stopped } else r)

/-- OVERRIDE_END (R89): at its expiry uptime an override is removed, with its notice. -/
def execOverrideEnd (zone : Nat) (s : State) : Host.Outcome State Fault Refusal :=
  .next <|
    match s.zone zone with
    | none => s
    | some r =>
      match r.forced with
      | none => s
      | some o =>
        if reached s.uptime o.expiry then
          (s.putZone zone { r with forced := none }).raise .overrideEnd none none (some zone) none
        else s

/-! ### Zones at definition, restart and shutdown (R68, R91, R92) -/

/-- R68: the live state of a zone at power-on and at its definition, with its current cell. -/
def Zone.make (c : ZoneConfig) (now : Word) (cell : Cell) (units : List Nat) : Zone :=
  Zone.withSetpoints
    { config := c, units, mode := .idle, lastMode := .idle, level := 0, capacity := 0, wanted := 0, econAvailable := false,
      econOn := false, temperature := none, derivedAt := now, sensorFault := false, changeover := .stopped,
      lastIncrease := none, lastDecrease := none, stepOwed := false, holdOrder := [], cell, appliedCool := 0,
      appliedHeat := 0, evaluation := .start c.period, forced := none }

/-- R91: a zone at PART.RESTART. -/
def Zone.restart (r : Zone) : Zone :=
  { r.toIdle with
    forced := none, changeover := .stopped, lastMode := .idle, lastIncrease := none, lastDecrease := none,
    evaluation := .start r.config.period }

/-- R92: a zone at an entry into SHUTDOWN (log 19). -/
def Zone.enterShutdown (r : Zone) : Zone :=
  { r.toIdle with
    lastMode := if r.mode = .idle then r.lastMode else r.mode
    changeover := if r.mode = .idle then r.changeover else .start r.config.changeover
    lastIncrease := none
    lastDecrease := none }

end Sys2Proof.Machine
end

