-- ==== Sys2Proof/Machine/Schedule.lean ====
section
/-! DEFINITION. The schedule table (chapter 5): the clock, delivery of cells, the window writer and their requests. -/

namespace Sys2Proof.Machine

/-! ### Clock and delivery (R94 to R99) -/

/-- R94: the current slot of a time. -/
def TimeOfDay.slot (t : TimeOfDay) : Nat := t.minute / 15

/-- R96: the seconds to the next slot boundary. -/
def TimeOfDay.toBoundary (t : TimeOfDay) : Nat := 900 - t.seconds % 900

/-- R99: the cell of the grid for a time and a zone. -/
def Schedule.cellAt (c : Schedule) (t : TimeOfDay) (z : Nat) : Cell := gridRead (cellIndex t.day z t.slot) c.grid

/-- R99: every defined zone takes the cell of the clock's day type and slot. -/
def State.deliver (s : State) : State :=
  match s.timeOfDay with
  | none => s
  | some t => s.setZones (Table.update (fun z r => { r with cell := s.schedule.cellAt t z }) s.zones)

/-- R95: the day type and the holiday mark after midnight. -/
def Clock.nextDay (c : Clock) (day : Nat) : Nat × Bool :=
  if c.holiday then (8, false)
  else if day = 8 then (c.weekdayAfter.getD 1, false)
  else if day = 7 then (1, false)
  else (day + 1, false)

/-- R95: the clock one second later. -/
def Clock.advance (c : Clock) (t : TimeOfDay) : Clock :=
  if t.second < 59 then { c with time := some { t with second := t.second + 1 } }
  else if t.minute < 1439 then { c with time := some { t with second := 0, minute := t.minute + 1 } }
  else { c with time := some { day := (c.nextDay t.day).1, minute := 0, second := 0 }, holiday := (c.nextDay t.day).2 }

/-- R95: whether a time is at a slot boundary. -/
def TimeOfDay.atBoundary (t : TimeOfDay) : Bool := t.seconds % 900 = 0

/-- CLOCK_TICK (R95): a valid clock advances by one second; at a slot boundary the new slot's cells are delivered. -/
def execClockTick (s : State) : Host.Outcome State Fault Refusal :=
  .next <|
    match s.timeOfDay with
    | none => s
    | some t =>
      let s := s.setSchedule { s.schedule with clock := s.schedule.clock.advance t }
      if s.timeOfDay.any TimeOfDay.atBoundary then s.deliver else s

/-- R96: the ceiling in force when the meter takes a CLOCK.SET: that before the delivery or that after it. Where the two
differ, a free order decides (log 8). -/
def freeCeiling (n before after : Nat) : Nat :=
  if before = after then after else if Config.freeOrder n % 2 = 0 then before else after

/-- CLOCK.SET (R96): the clock is written, the cells are delivered, and the meter closes its interval (R55). -/
def serveClockSet (day : Byte) (minute : Half) (second mark weekday : Byte) (s : State) : State × Answer :=
  match firstFailing [(1, within 1 8 day.toNat), (2, minute.toNat ≤ 1439), (3, second.toNat ≤ 59),
      (4, mark.toNat ≤ 1), (5, within 1 7 weekday.toNat)] with
  | some n => refuseRange s n
  | none =>
    let t : TimeOfDay := { day := day.toNat, minute := minute.toNat, second := second.toNat }
    let set := s.setSchedule
      { s.schedule with clock := { time := some t, holiday := mark.toNat = 1, weekdayAfter := some weekday.toNat } }
    let delivered := set.deliver
    let done := (delivered.meterClockSet (freeCeiling s.freeCount set.ceiling delivered.ceiling)).useFree 1
    accept done (encTime t ++ [mark, weekday] ++ enc8 t.slot ++ enc16 t.toBoundary)

/-- CLOCK.GET (R98). -/
def serveClockGet (s : State) : State × Answer :=
  let t := s.timeOfDay
  accept s
    (encFlag t.isSome ++ encOption enc8 (t.map TimeOfDay.day) ++ encOption enc16 (t.map TimeOfDay.minute) ++
      encOption enc8 (t.map TimeOfDay.second) ++ encFlag s.schedule.clock.holiday ++
      encOption enc8 s.schedule.clock.weekdayAfter ++ encOption enc8 (t.map TimeOfDay.slot) ++
      encOption enc16 (t.map TimeOfDay.toBoundary) ++ encWord s.uptime)

/-! ### The window writer (R100 to R108) -/

/-- R108: an open window is closed without totals. -/
def State.closeWindow (s : State) : State := s.setSchedule { s.schedule with window := none }

/-- R101: the first field of SCHED.WINDOW outside its range. -/
def windowFailure (day zLo zHi sLo sHi order direction mask compare occupancy : Nat) : Option Nat :=
  firstFailing [(1, within 1 8 day), (2, within 1 12 zLo), (3, within 1 12 zHi && zLo ≤ zHi), (4, sLo ≤ 95),
    (5, sHi ≤ 95 && sLo ≤ sHi), (6, order ≤ 1), (7, direction ≤ 1), (8, within 1 7 mask), (9, compare ≤ 2),
    (10, compare = 0 || occupancy ≤ 2)]

/-- SCHED.WINDOW (R101): opens a window with its cursor at the first cell. -/
def serveSchedWindow (day zLo zHi sLo sHi order direction mask compare occupancy : Byte) (s : State) : State × Answer :=
  if s.schedule.window.isSome then refuse s .windowed
  else
    match windowFailure day.toNat zLo.toNat zHi.toNat sLo.toNat sHi.toNat order.toNat direction.toNat mask.toNat
        compare.toNat occupancy.toNat with
    | some n => refuseRange s n
    | none =>
      let descending := direction.toNat = 1
      let w : Window :=
        { day := day.toNat, zLo := zLo.toNat, zHi := zHi.toNat, sLo := sLo.toNat, sHi := sHi.toNat,
          zonesFirst := order.toNat = 1, descending, maskOcc := mask.getLsbD 0, maskCool := mask.getLsbD 1,
          maskHeat := mask.getLsbD 2, compare := compareOf compare.toNat,
          compareOcc := if compare.toNat = 0 then none else some (occupancyOf occupancy.toNat),
          cursorZone := if descending then zHi.toNat else zLo.toNat,
          cursorSlot := if descending then sHi.toNat else sLo.toNat, wraps := 0, taken := 0, written := 0, skipped := 0 }
      accept (s.setSchedule { s.schedule with window := some w })
        (enc16 ((zHi.toNat - zLo.toNat + 1) * (sHi.toNat - sLo.toNat + 1)) ++ enc8 w.cursorZone ++ enc8 w.cursorSlot)

/-- R104: an index one on within bounds, and whether it passed its last bound. -/
def advanceIndex (descending : Bool) (lo hi i : Nat) : Nat × Bool :=
  if descending then if i ≤ lo then (hi, true) else (i - 1, false)
  else if hi ≤ i then (lo, true) else (i + 1, false)

/-- R104: the cursor one cell on, with the wrap counted. -/
def Window.advance (w : Window) : Window :=
  let (s', sOver) := advanceIndex w.descending w.sLo w.sHi w.cursorSlot
  let (z', zOver) := advanceIndex w.descending w.zLo w.zHi w.cursorZone
  let moveZone := w.zonesFirst || sOver
  let moveSlot := !w.zonesFirst || zOver
  { w with
    cursorZone := if moveZone then z' else w.cursorZone
    cursorSlot := if moveSlot then s' else w.cursorSlot
    wraps := if sOver && zOver then min 65535 (w.wraps + 1) else w.wraps }

/-- R103: the compare test on the occupancy of a cell. -/
def Window.passes (w : Window) (o : Occupancy) : Bool :=
  match w.compare with
  | .none => true
  | .ifEqual => w.compareOcc == some o
  | .ifDifferent => w.compareOcc != some o

/-- R103: a cell with the fields of the mask written, its setpoints clamped. -/
def Window.apply (w : Window) (v : FillValue) (c : Cell) : Cell :=
  { occupancy := if w.maskOcc then occupancyOf v.occupancy.toNat else c.occupancy
    cool := if w.maskCool then clampSetpoint v.cool.toInt else c.cool
    heat := if w.maskHeat then clampSetpoint v.heat.toInt else c.heat }

/-- The index of the cell under a window's cursor. -/
def Window.here (w : Window) : Nat := cellIndex w.day w.cursorZone w.cursorSlot

/-- The state of a fill in progress: the grid, the window and the cells this request wrote so far. -/
structure FillProgress where
  grid : Table Cell
  window : Window
  cells : List Nat
deriving DecidableEq, Repr

/-- R103, R104: one value put to the compare test and written or skipped; the cursor advances. -/
def FillProgress.take (p : FillProgress) (v : FillValue) : FillProgress :=
  let w := { p.window with taken := min Config.countMax (p.window.taken + 1) }
  let c := gridRead w.here p.grid
  if w.passes c.occupancy then
    { grid := gridWrite w.here (w.apply v c) p.grid
      window := { w with written := min Config.countMax (w.written + 1) }.advance
      cells := p.cells ++ [w.here] }
  else { p with window := { w with skipped := min Config.countMax (w.skipped + 1) }.advance }

/-- R105: each zone whose cell in use a fill wrote takes that cell as it then stands. -/
def State.deliverWritten (cells : List Nat) (s : State) : State :=
  match s.timeOfDay with
  | none => s
  | some t =>
    s.setZones <| Table.update
      (fun z r => if cells.contains (cellIndex t.day z t.slot) then { r with cell := s.schedule.cellAt t z } else r) s.zones

/-- R102: the number of the first value whose occupancy is none of the three. -/
def fillFailure (w : Window) (values : List FillValue) : Option Nat :=
  if w.maskOcc then (values.findIdx? fun v => !decide (v.occupancy.toNat ≤ 2)).map (· + 1) else none

/-- R102: whether a request's mask is that of the window. -/
def Window.hasMask (w : Window) (mask : Byte) : Bool :=
  mask.toNat ≤ 7 && mask.getLsbD 0 == w.maskOcc && mask.getLsbD 1 == w.maskCool && mask.getLsbD 2 == w.maskHeat

/-- SCHED.FILL (R102, R105): the values are taken one by one through the window, and the cells in use are delivered. -/
def serveSchedFill (mask : Byte) (values : List FillValue) (s : State) : State × Answer :=
  match s.schedule.window with
  | none => refuse s .noWindow
  | some w =>
    if w.hasMask mask = false then refuseRange s 0
    else
      match fillFailure w values with
      | some n => refuseRange s n
      | none =>
        let p := values.foldl FillProgress.take { grid := s.schedule.grid, window := w, cells := [] }
        let s := s.setSchedule { s.schedule with grid := p.grid, window := some p.window }
        accept (s.deliverWritten p.cells)
          (enc32 p.cells.length ++ enc32 (values.length - p.cells.length) ++ enc16 p.window.wraps ++
            enc8 p.window.cursorZone ++ enc8 p.window.cursorSlot)

/-- SCHED.END (R107): closes the window with its totals. -/
def serveSchedEnd (s : State) : State × Answer :=
  match s.schedule.window with
  | none => refuse s .noWindow
  | some w =>
    accept s.closeWindow
      (enc32 w.taken ++ enc32 w.written ++ enc32 w.skipped ++ enc16 w.wraps ++ enc8 w.cursorZone ++ enc8 w.cursorSlot)

/-- A cell in a reply: its occupancy and both setpoints. -/
def encCell (c : Cell) : List Byte := enc8 c.occupancy.toCode ++ enc16 c.cool ++ enc16 c.heat

/-- SCHED.GET (R109): up to 16 cells along the slots of one zone. -/
def serveSchedGet (day zone slot count : Byte) (s : State) : State × Answer :=
  if within 1 8 day.toNat && within 1 12 zone.toNat && decide (slot.toNat ≤ 95) && within 1 16 count.toNat then
    let n := min count.toNat (96 - slot.toNat)
    accept s
      (encList encCell
        ((List.range n).map fun i => gridRead (cellIndex day.toNat zone.toNat (slot.toNat + i)) s.schedule.grid))
  else refuse s .index

end Sys2Proof.Machine
end

