-- ==== Sys2Proof/Machine/Limits.lean ====
section
/-! DEFINITION. Limits and smoke shutdown (chapter 7), with the shutdown, release and restart of every block. -/

namespace Sys2Proof.Machine

/-! ### Soft limits (R127 to R131) -/

/-- R129: whether a stage counts in the limited count. -/
def StageRec.isLimited (r : StageRec) : Bool :=
  match r.state with
  | .proving | .run => true
  | .hold => r.pendingCause == some .satisfied
  | _ => false

/-- R129: the limited stages of a mode, lowest number first. -/
def BoundUnit.limitedStages (b : BoundUnit) (heat : Bool) : List StageName :=
  allStages.filter fun st => isHeat st == heat && ((b.stages.get st).any StageRec.isLimited)

/-- R129: whether the soft-limit action is taken for a mode. -/
def BoundUnit.softActs (b : BoundUnit) (heat : Bool) : Bool :=
  b.softLimited heat && decide (b.copy.softCount ≤ (b.limitedStages heat).length) && !b.limit.holdOff.isRunning

/-- R131: whether the action backs off the gas instead of stopping a stage. -/
def BoundUnit.softBacksOff (b : BoundUnit) (heat : Bool) : Bool :=
  heat && b.copy.kind == .modulatingGas && decide (b.copy.gasLowFire < b.gas.position)

/-- R129 to R131: the soft-limit action of a mode, if it is taken; the hold-off timer starts. -/
def State.softLimitAction (u : Nat) (heat : Bool) (s : State) : State :=
  match s.unit u with
  | none => s
  | some b =>
    if b.softActs heat then
      let s := s.putUnit u { b with limit := { b.limit with holdOff := .start Config.holdOffTime } }
      if b.softBacksOff heat then s.onUnit u BoundUnit.backOffGas
      else
        match (b.limitedStages heat).getLast? with
        | some st => s.takeStop u st .softLimit
        | none => s
    else s

/-- HOLD_OFF_EXPIRY (R127): the hold-off timer stops, starting no action of its own. -/
def execHoldOffExpiry (unit : Nat) (s : State) : Host.Outcome State Fault Refusal :=
  .next <| s.onUnit unit fun b =>
    if b.limit.holdOff.isDue then { b with limit := { b.limit with holdOff := .stopped } } else b

/-! ### Stopping every stage (R23, R24) -/

/-- The stages of a unit that are on. -/
def BoundUnit.onStages (b : BoundUnit) : List StageName := allStages.filter b.isOn

/-- R23, R24: withdraws every entry and stops every stage that is on, with one cause. -/
def State.stopEverything (cause : StopCause) (s : State) : State :=
  let s := s.withdrawAll s.arbiter.queue
  s.units.foldl (fun s p => s.stopAll p.1 cause p.2.onStages) s

/-- The number of stages that are on. -/
def State.onCount (s : State) : Nat := (s.units.map fun p => p.2.onStages.length).sum

/-! ### Smoke (R136 to R139) -/

/-- R136: an entry into SHUTDOWN, in every block. The stages stop before the smoke action reaches their fans (R121). -/
def State.enterShutdown (s : State) : State :=
  let s := (s.setHost { s.host with run := .shutdown }).raise .shutdownOn none none none none
  let s := s.stopEverything .shutdown
  let s := s.setUnits (Table.update (fun _ b => b.smokeAction) s.units)
  let s := s.setZones (Table.update (fun _ r => r.enterShutdown) s.zones)
  s.closeWindow

/-- SMOKE_ASSERTED (R136): in NORMAL an entry into SHUTDOWN; in SHUTDOWN only the level changes. -/
def execSmokeAsserted (s : State) : Host.Outcome State Fault Refusal :=
  let s := s.setHost { s.host with smoke := true }
  .next (if s.host.run = .normal then s.enterShutdown else s)

/-- SMOKE_NEGATED (R136): changes only the level. -/
def execSmokeNegated (s : State) : Host.Outcome State Fault Refusal :=
  .next (s.setHost { s.host with smoke := false })

/-- SERVICE_LINE_CHANGE (R154): changes only the level. -/
def execServiceLineChange (level : Bool) (s : State) : Host.Outcome State Fault Refusal :=
  .next (s.setHost { s.host with service := level })

/-- PROTECT_LINE_CHANGE (R154): changes only the level. -/
def execProtectLineChange (level : Bool) (s : State) : Host.Outcome State Fault Refusal :=
  .next (s.setHost { s.host with protect := level })

/-- R138: the release from SHUTDOWN, in every block. -/
def State.release (s : State) : State :=
  let s := (s.setHost { s.host with run := .normal }).raise .shutdownOff none none none none
  let s := s.startStagger
  s.setUnits (Table.update (fun _ b => b.releaseParked) s.units)

/-- PART.RELEASE (R138). -/
def servePartRelease (s : State) : State × Answer :=
  if s.host.smoke then refuse s .state
  else
    let s := if s.host.run = .shutdown then s.release else s
    accept s (enc8 s.host.run.toCode)

/-! ### Restart (R171) -/

/-- R42: the arbiter after a restart's withdrawals. -/
def Arbiter.restart (spacing : Nat) (a : Arbiter) : Arbiter := { a with stagger := .start spacing, attempt := none }

/-- R171: the restart of every block. -/
def State.restart (s : State) : State :=
  let s := s.stopEverything .restart
  let s := s.setArbiter (s.arbiter.restart s.meter.limits.spacing)
  let s := s.setZones (Table.update (fun _ r => r.restart) s.zones)
  s.closeWindow

/-- PART.RESTART (R171): the reply carries the stages stopped and the entries withdrawn. -/
def servePartRestart (s : State) : State × Answer :=
  if s.store.saving then refuse s .busy
  else accept s.restart (enc8 s.onCount ++ enc8 s.arbiter.queue.length)

end Sys2Proof.Machine
end

