-- ==== Sys2Proof/Machine/Units.lean ====
section
/-! DEFINITION. The unit table and its requests (chapter 8), the requests on stages, zones and profiles, and what binding,
freeing and refreshing do in every block. -/

namespace Sys2Proof.Machine

/-! ### Stored descriptors (R140 to R143) -/

/-- R140: the default descriptor of a unit index. -/
def Descriptor.default (u : Nat) : Descriptor :=
  { busAddress := u, kind := .coolOnly, coolCount := 1, heatCount := 0, loads := Six.ofFn fun _ => 100, fanLoad := 50,
    minOn := 180, minOff := 300, provingTime := 60, proofLevel := 300, fanProfile := 0, damperProfile := 0,
    gasProfile := 0, gasLowFire := 300, econPresent := false, econPosition := 700, minVent := 150, softCount := 1,
    gasBackoff := 100, smokeAction := .fanOff, fallbackTime := 120, lockoutCount := 3, purgeTime := 60 }

/-- R140: the range of each field identifier; none for an identifier that names no field. -/
def fieldRange (id : Nat) : Option (Nat × Nat) :=
  match id with
  | 0 => some (0, 1)
  | 1 => some (1, 31)
  | 2 => some (0, 2)
  | 3 => some (0, 4)
  | 4 => some (0, 2)
  | 5 | 6 | 7 | 8 | 9 | 10 => some (0, 9999)
  | 11 => some (0, 999)
  | 12 => some (60, 1200)
  | 13 => some (120, 1800)
  | 14 => some (10, 300)
  | 15 => some (150, 1000)
  | 16 | 17 | 18 => some (0, 8)
  | 19 => some (100, 600)
  | 20 => some (0, 1)
  | 21 => some (200, 1000)
  | 22 => some (0, 500)
  | 23 => some (1, 4)
  | 24 => some (50, 300)
  | 25 => some (0, 1)
  | 26 => some (30, 600)
  | 27 => some (1, 5)
  | 28 => some (0, 600)
  | _ => none

/-- R140: whether an identifier names a field with the value in its range. -/
def fieldFits (id value : Nat) : Bool :=
  match fieldRange id with
  | none => false
  | some (lo, hi) => within lo hi value

/-- R140: the descriptor with one field written; field 0 and unknown identifiers write nothing. -/
def Descriptor.write (id v : Nat) (d : Descriptor) : Descriptor :=
  match id with
  | 1 => { d with busAddress := v }
  | 2 => { d with kind := kindOf v }
  | 3 => { d with coolCount := v }
  | 4 => { d with heatCount := v }
  | 5 => { d with loads := d.loads.set .c1 v }
  | 6 => { d with loads := d.loads.set .c2 v }
  | 7 => { d with loads := d.loads.set .c3 v }
  | 8 => { d with loads := d.loads.set .c4 v }
  | 9 => { d with loads := d.loads.set .h1 v }
  | 10 => { d with loads := d.loads.set .h2 v }
  | 11 => { d with fanLoad := v }
  | 12 => { d with minOn := v }
  | 13 => { d with minOff := v }
  | 14 => { d with provingTime := v }
  | 15 => { d with proofLevel := v }
  | 16 => { d with fanProfile := v }
  | 17 => { d with damperProfile := v }
  | 18 => { d with gasProfile := v }
  | 19 => { d with gasLowFire := v }
  | 20 => { d with econPresent := v = 1 }
  | 21 => { d with econPosition := v }
  | 22 => { d with minVent := v }
  | 23 => { d with softCount := v }
  | 24 => { d with gasBackoff := v }
  | 25 => { d with smokeAction := if v = 1 then .fanPurge else .fanOff }
  | 26 => { d with fallbackTime := v }
  | 27 => { d with lockoutCount := v }
  | 28 => { d with purgeTime := v }
  | _ => d

/-- R143: fields 1 to 28 in identifier order. -/
def encDescriptor (d : Descriptor) : List Byte :=
  enc8 d.busAddress ++ enc8 d.kind.toCode ++ enc8 d.coolCount ++ enc8 d.heatCount ++
    allStages.flatMap (fun st => enc16 (d.loads.get st)) ++ enc16 d.fanLoad ++ enc16 d.minOn ++ enc16 d.minOff ++
    enc16 d.provingTime ++ enc16 d.proofLevel ++ enc8 d.fanProfile ++ enc8 d.damperProfile ++ enc8 d.gasProfile ++
    enc16 d.gasLowFire ++ encFlag d.econPresent ++ enc16 d.econPosition ++ enc16 d.minVent ++ enc8 d.softCount ++
    enc16 d.gasBackoff ++ enc8 d.smokeAction.toCode ++ enc16 d.fallbackTime ++ enc8 d.lockoutCount ++ enc16 d.purgeTime

/-- R141: the identifier of the first pair that does not fit, in the order carried; `seen` are the earlier ones. -/
def pairFailure (seen : List Nat) : List (Byte × Half) → Option Nat
  | [] => none
  | (id, v) :: rest =>
    if fieldFits id.toNat v.toNat && !seen.contains id.toNat then pairFailure (id.toNat :: seen) rest else some id.toNat

/-- R141: whether a list sets present to 0. -/
def clearsPresent (pairs : List (Byte × Half)) : Bool := pairs.any fun p => p.1 == 0#8 && p.2 == 0#16

/-- R142: the pairs written over a descriptor. -/
def Descriptor.writeAll (pairs : List (Byte × Half)) (d : Descriptor) : Descriptor :=
  pairs.foldl (fun d p => d.write p.1.toNat p.2.toNat) d

/-- The stored descriptor of a unit index. -/
def State.descriptor (s : State) (u : Nat) : Option Descriptor := Table.find u s.table.descriptors

/-- R142: the stored descriptors after an accepted UNIT.PUT. -/
def UnitTable.putPairs (u : Nat) (pairs : List (Byte × Half)) (t : UnitTable) : UnitTable :=
  if clearsPresent pairs then { t with descriptors := Table.erase u t.descriptors }
  else
    { t with
      descriptors :=
        Table.put u (((Table.find u t.descriptors).getD (Descriptor.default u)).writeAll pairs) t.descriptors }

/-- R142: the differs flag of a bound unit; none for an unbound one. -/
def State.differs (s : State) (u : Nat) : Option Bool := (s.unit u).map fun b => s.descriptor u != some b.copy

/-- UNIT.PUT (R141, R142). -/
def serveUnitPut (unit : Byte) (pairs : List (Byte × Half)) (s : State) : State × Answer :=
  let u := unit.toNat
  if unitNumber u = false then refuse s .index
  else
    match pairFailure [] pairs with
    | some id => refuseRange s id
    | none =>
      if clearsPresent pairs && decide (pairs.length ≠ 1) then refuseRange s 0
      else if clearsPresent pairs && (s.unit u).isSome then refuse s .taken
      else
        let s := s.setTable (s.table.putPairs u pairs)
        accept s (enc8 u ++ encFlag (s.descriptor u).isSome ++ encOption encFlag (s.differs u))

/-- UNIT.GET (R143). -/
def serveUnitGet (unit selector : Byte) (s : State) : State × Answer :=
  let u := unit.toNat
  if unitNumber u = false then refuse s .index
  else if 1 < selector.toNat then refuseRange s 2
  else
    match if selector = 0#8 then s.descriptor u else (s.unit u).map BoundUnit.copy with
    | none => refuse s .absent
    | some d =>
      accept s
        (encDescriptor d ++ encOption enc8 ((s.unit u).map BoundUnit.zone) ++ encFlag ((s.differs u).getD false))

/-! ### Binding (R144 to R146) -/

/-- R144: whether a profile number names an undefined profile. -/
def profileMissing (profiles : Table (List Segment)) (k : Nat) : Bool := k != 0 && (Table.find k profiles).isNone

/-- R144: the identifier of the first field that keeps a descriptor from becoming an active copy. -/
def Descriptor.misfit (profiles : Table (List Segment)) (d : Descriptor) : Option Nat :=
  if (d.kind == .coolOnly) != (d.heatCount == 0) then some 4
  else if profileMissing profiles d.fanProfile then some 16
  else if profileMissing profiles d.damperProfile then some 17
  else if profileMissing profiles d.gasProfile then some 18
  else none

/-- R145, R149: whether a bus address is that of another bound unit's active copy. -/
def State.addressTaken (s : State) (u address : Nat) : Bool :=
  s.units.any fun p => p.1 != u && p.2.copy.busAddress == address

/-- R145: the owner's checks of UNIT.BIND: the first that fails, with the field of a RANGE refusal. -/
def State.bindFailure (s : State) (u z : Nat) : Option (Result × Option Nat) :=
  if unitNumber u = false ∨ 12 < z then some (.index, none)
  else
    match s.descriptor u with
    | none => some (.absent, none)
    | some d =>
      if z ≠ 0 ∧ (s.zone z).isNone then some (.absent, none)
      else if (s.unit u).isSome then some (.taken, none)
      else if z ≠ 0 ∧ Config.zoneUnits ≤ ((s.zone z).map fun r => r.units.length).getD 0 then some (.full, none)
      else
        match d.misfit s.profiles with
        | some id => some (.range, some id)
        | none => if s.addressTaken u d.busAddress then some (.conflict, none) else none

/-- R127: the limit record at its making. -/
def LimitRecord.fresh : LimitRecord :=
  { coolLimited := false, heatLimited := false, coilLow := false, headHigh := false, datHigh := false,
    holdOff := .stopped, trips := noStages, flameFail := false, fanFail := false }

/-- R147: the live record at its making. -/
def LiveRecord.fresh : LiveRecord :=
  { link := .unknown, lastGood := none, space := none, discharge := none, outdoor := none, running := noStages,
    unexpected := noStages }

/-- R146: a unit as its owners make it at a binding, with the start count and runtime of each stage. -/
def BoundUnit.make (z : Nat) (d : Descriptor) (counters : StageName → Nat × Nat) : BoundUnit :=
  { zone := z, copy := d, live := .fresh, limit := .fresh,
    stages := Six.ofFn fun st =>
      if d.names st then some (StageRec.make d (counters st).1 (counters st).2) else none
    fan := { position := 0, target := 0, profile := d.fanProfile }
    damper := { position := 0, target := 0, profile := d.damperProfile }
    gas := { position := 0, target := 0, profile := d.gasProfile }
    purge := .stopped, fanHold := false, gasReduction := 0, lostOn := noStages, misses := 0, fallbackTaken := false }

/-- R146: binds a unit: its owners make their parts, and its zone's list gets it at the end. -/
def State.bindUnit (u z : Nat) (d : Descriptor) (counters : StageName → Nat × Nat) (s : State) : State :=
  (s.putUnit u (BoundUnit.make z d counters)).onZone z fun r => { r with units := r.units ++ [u] }

/-- UNIT.BIND (R145, R146). -/
def serveUnitBind (unit zone : Byte) (s : State) : State × Answer :=
  match s.bindFailure unit.toNat zone.toNat with
  | some (_, some id) => refuseRange s id
  | some (r, none) => refuse s r
  | none =>
    match s.descriptor unit.toNat with
    | none => refuse s .absent
    | some d =>
      accept (s.bindUnit unit.toNat zone.toNat d fun _ => (0, 0))
        ([unit, zone] ++ enc8 (allStages.countP d.names))

/-! ### Freeing and refreshing (R148, R149) -/

/-- R157: the cycle record once a unit's link record is discarded. -/
def Roof.dropUnit (u : Nat) (r : Roof) : Roof :=
  { r with
    places := r.places.map fun p => if p.unit = u then { p with live := false } else p
    visit := r.visit.map fun v => if v.unit = u then { v with live := false } else v }

/-- R148: frees a unit: every owner discards its part, and its zone's list loses it. DESIGN CHOICE (log 32): the stages of the
unit keep their places in the zone's hold order until the zone looks through it; R148 and R83 do not say. -/
def State.freeUnit (u : Nat) (s : State) : State :=
  match s.unit u with
  | none => s
  | some b =>
    let s := (s.setUnits (Table.erase u s.units)).setRoof (s.roof.dropUnit u)
    s.onZone b.zone fun r => { r with units := r.units.filter (· ≠ u) }

/-- UNIT.FREE (R148). -/
def serveUnitFree (unit : Byte) (s : State) : State × Answer :=
  if unitNumber unit.toNat = false then refuse s .index
  else
    match s.unit unit.toNat with
    | none => refuse s .absent
    | some b => if b.anyEngaged then refuse s .state else accept (s.freeUnit unit.toNat) (enc8 b.zone)

/-- R149, R25, R119, R124, R147: a unit that takes a new active copy. DEDUCED (log 30): R149's "except for discarded stage
names" is read of both records, so the limit record loses them from its trip set and is kept otherwise (R127). -/
def BoundUnit.refresh (d : Descriptor) (b : BoundUnit) : BoundUnit :=
  let modulating := d.kind = .modulatingGas
  { b with
    copy := d
    stages := Six.ofFn fun st => refreshStage d (b.stages.get st) st
    live := { b.live with running := b.live.running.keep d.names, unexpected := b.live.unexpected.keep d.names }
    limit := { b.limit with trips := b.limit.trips.keep d.names }
    lostOn := b.lostOn.keep d.names
    fan := { b.fan with profile := d.fanProfile }
    damper := { b.damper with profile := d.damperProfile }
    gas := if modulating then { b.gas with profile := d.gasProfile } else { position := 0, target := 0, profile := d.gasProfile }
    gasReduction := if modulating then b.gasReduction else 0
    purge := if d.purgeTime = 0 then .stopped else b.purge.shorten d.purgeTime }

/-! ### Fallback (R162) -/

/-- R162: whether the fallback expiry of a unit is due. -/
def BoundUnit.fallbackDue (now : Word) (b : BoundUnit) : Bool :=
  b.live.link = .lost && !b.fallbackTaken &&
    match b.live.lastGood with
    | none => false
    | some t => b.copy.fallbackTime ≤ since now t

/-- R162, R52, R125: the unit once its stages have stopped at fallback expiry. -/
def BoundUnit.fallBack (b : BoundUnit) : BoundUnit :=
  { b with
    lostOn := noStages
    fallbackTaken := true
    fan := { b.fan with position := 0 }
    damper := { b.damper with position := 0 }
    gas := { b.gas with position := 0 }
    gasReduction := 0 }

/-- R162: the fallback expiry of a LOST unit, if it is due. -/
def State.takeFallback (u : Nat) (s : State) : State :=
  match s.unit u with
  | none => s
  | some b =>
    if b.fallbackDue s.uptime then (s.stopAll u .unitLost b.onStages).onUnit u BoundUnit.fallBack else s

/-- FALLBACK_EXPIRY (R162). -/
def execFallbackExpiry (unit : Nat) (s : State) : Host.Outcome State Fault Refusal := .next (s.takeFallback unit)

/-- UNIT.REFRESH (R149). -/
def serveUnitRefresh (unit : Byte) (s : State) : State × Answer :=
  let u := unit.toNat
  if unitNumber u = false then refuse s .index
  else
    match s.unit u, s.descriptor u with
    | some b, some d =>
      if b.anyEngaged then refuse s .state
      else
        match d.misfit s.profiles with
        | some id => refuseRange s id
        | none =>
          if s.addressTaken u d.busAddress then refuse s .conflict
          else
            let s' := s.putUnit u (b.refresh d)
            accept (if d.fallbackTime ≠ b.copy.fallbackTime then s'.takeFallback u else s') (enc8 u ++ encFlag false)
    | _, _ => refuse s .absent

/-! ### Reading a unit and its stages (R20, R151) -/

/-- R113, R151: a channel in a reply. -/
def encChannel (c : Channel) (effective : Nat) : List Byte :=
  enc16 c.position ++ enc16 c.target ++ enc16 effective ++
    enc8 (match channelState c.position effective with
      | .still => 0
      | .rising => 1
      | .falling => 2) ++ enc8 c.profile

/-- UNIT.READINGS (R151). -/
def serveUnitReadings (unit : Byte) (s : State) : State × Answer :=
  if unitNumber unit.toNat = false then refuse s .index
  else
    match s.unit unit.toNat with
    | none => refuse s .absent
    | some b =>
      accept s
        (enc8 b.zone ++ enc8 b.live.link.toCode ++ enc8 b.misses ++ encOption encWord b.live.lastGood ++
          encOption (fun t => enc32 (since s.uptime t)) b.live.lastGood ++ encTemp b.live.space ++
          encTemp b.live.discharge ++ encTemp b.live.outdoor ++ [setByte b.live.running, setByte b.live.unexpected,
            setByte b.lostOn] ++ encFlag b.limit.coolLimited ++ encFlag b.limit.heatLimited ++
          [softByte b.limit.coilLow b.limit.headHigh b.limit.datHigh, setByte b.limit.trips] ++
          encFlag b.limit.flameFail ++ encFlag b.limit.fanFail ++ enc16 b.limit.holdOff.remaining ++
          encChannel b.fan (b.fanEffective s.host.run) ++ encChannel b.damper b.damperEffective ++
          encChannel b.gas b.gasEffective ++ enc16 b.purge.remaining ++ encFlag b.fanHold ++ enc16 b.gasReduction ++
          enc16 b.fanLoad)

/-- R20: a stage report. -/
def encStageReport (st : StageName) (r : StageRec) : List Byte :=
  enc8 (stageCode st) ++ enc8 r.state.toCode ++ enc16 r.minOn.remaining ++ enc16 r.minOff.remaining ++
    enc16 r.proving.remaining ++ encFlag r.overdue ++ enc8 r.trips ++
    encOption (fun c => enc8 (StopCause.toCode c)) r.pendingCause ++
    encOption (fun c => enc8 (StopCause.toCode c)) r.lastCause ++ encOption encWord r.lastStart ++
    encOption encWord r.lastStop ++ encOption encWord r.lastRun ++ enc24 r.starts ++ enc24 r.runtime ++ enc8 r.carry

/-- R20: the stages of a unit with their records, in order. -/
def BoundUnit.records (b : BoundUnit) : List (StageName × StageRec) :=
  allStages.filterMap fun st => (b.stages.get st).map fun r => (st, r)

/-- STAGE.GET (R20). -/
def serveStageGet (unit : Byte) (s : State) : State × Answer :=
  if unitNumber unit.toNat = false then refuse s .index
  else
    match s.unit unit.toNat with
    | none => refuse s .absent
    | some b => accept s (enc8 b.zone ++ encList (fun p => encStageReport p.1 p.2) b.records)

/-- R18: a stage released from LOCKOUT. -/
def StageRec.unlock (d : Descriptor) (r : StageRec) : StageRec := { r.toRest d with trips := 0 }

/-- STAGE.UNLOCK (R18). -/
def serveStageUnlock (unit stage : Byte) (s : State) : State × Answer :=
  match unitNumber unit.toNat, stageOfCode stage.toNat with
  | true, some st =>
    match s.unit unit.toNat with
    | none => refuse s .absent
    | some b =>
      match b.stages.get st with
      | none => refuse s .absent
      | some r =>
        if r.state = .lockout then
          accept (s.putUnit unit.toNat { b with stages := b.stages.set st (some (r.unlock b.copy)) }) []
        else refuse s .state
  | _, _ => refuse s .index

/-! ### The grant queue (R40) -/

/-- R39: the attempt record in a reply. -/
def encAttempt (a : AttemptRec) : List Byte :=
  encWord a.uptime ++ enc8 a.cause.toCode ++ enc8 a.outcome.toCode ++ encOption enc8 (a.candidate.map Prod.fst) ++
    encStage (a.candidate.map Prod.snd) ++ encOption (fun f => [failedByte f]) a.failed ++ enc8 a.skipped ++
    encOption (fun k => enc8 (SkipReason.toCode k)) a.firstSkip

/-- R40: an entry with its position. -/
def encEntry (p : Nat × Entry) : List Byte :=
  enc8 p.1 ++ enc8 p.2.unit ++ enc8 (stageCode p.2.stage) ++ enc8 p.2.zone ++ enc8 p.2.priority ++ enc16 p.2.load ++
    encFlag p.2.compressor ++ encWord p.2.joinUptime

/-- R29: entries with their positions, counted from `n`. -/
def numbered : Nat → List Entry → List (Nat × Entry)
  | _, [] => []
  | n, e :: l => (n, e) :: numbered (n + 1) l

/-- QUEUE.GET (R40). -/
def serveQueueGet (first : Byte) (s : State) : State × Answer :=
  if within 1 32 first.toNat then
    accept s
      (enc8 s.arbiter.queue.length ++ enc16 s.arbiter.stagger.remaining ++ encOption encAttempt s.arbiter.attempt ++
        encList encEntry (((numbered 1 s.arbiter.queue).drop (first.toNat - 1)).take 16))
  else refuse s .index

/-! ### Zones (R69, R70, R88) -/

/-- R69: the first field of ZONE.PUT outside its range in R67. -/
def zoneFieldFailure (f : ZoneFields) : Option Nat :=
  firstFailing [(1, f.priority.toNat ≤ 3), (2, within 5 60 f.period.toNat), (3, within 2 30 f.modeDiff.toNat),
    (4, within 3 50 f.stageDiff.toNat), (5, within 5 50 f.deadband.toNat), (6, within 60 1800 f.upDelay.toNat),
    (7, within 30 900 f.downDelay.toNat), (8, within 120 1800 f.changeover.toNat), (9, f.econEnable.toNat ≤ 1),
    (10, withinInt 50 250 f.econLimit.toInt), (11, within 200 1000 f.occFan.toNat), (12, f.fbOccupancy.toNat ≤ 2),
    (13, withinInt 100 350 f.fbCool.toInt), (14, withinInt 100 350 f.fbHeat.toInt), (15, within 60 900 f.staleTime.toNat)]

/-- R67: the configured fields that ZONE.PUT writes. -/
def ZoneConfig.ofFields (f : ZoneFields) : ZoneConfig :=
  { priority := f.priority.toNat, period := f.period.toNat, modeDiff := f.modeDiff.toNat,
    stageDiff := f.stageDiff.toNat, deadband := f.deadband.toNat, upDelay := f.upDelay.toNat,
    downDelay := f.downDelay.toNat, changeover := f.changeover.toNat, econEnable := f.econEnable.toNat = 1,
    econLimit := f.econLimit.toInt, occFan := f.occFan.toNat, fbOccupancy := occupancyOf f.fbOccupancy.toNat,
    fbCool := f.fbCool.toNat, fbHeat := f.fbHeat.toNat, staleTime := f.staleTime.toNat }

/-- R74: the current cell of a zone at its definition. -/
def State.cellAtDefinition (s : State) (z : Nat) (c : ZoneConfig) : Cell :=
  match s.timeOfDay with
  | none => c.fallbackCell
  | some t => s.schedule.cellAt t z

/-- R69: an accepted ZONE.PUT with the defined flag 1. -/
def State.defineZone (z : Nat) (c : ZoneConfig) (s : State) : State :=
  match s.zone z with
  | some r => s.putZone z { r with config := c }
  | none => s.putZone z (Zone.make c s.uptime (s.cellAtDefinition z c) [])

/-- ZONE.PUT (R69). -/
def serveZonePut (zone flag : Byte) (fields : ZoneFields) (s : State) : State × Answer :=
  let z := zone.toNat
  if zoneNumber z = false then refuse s .index
  else if flag = 1#8 then
    match zoneFieldFailure fields with
    | some n => refuseRange s n
    | none => accept (s.defineZone z (ZoneConfig.ofFields fields)) []
  else if flag = 0#8 then
    if ((s.zone z).map fun r => r.units.isEmpty).getD true then accept (s.undefineZone z) []
    else refuse s .state
  else refuseRange s 0

/-- R70: the fifteen fields in a reply. -/
def encZoneConfig (c : ZoneConfig) : List Byte :=
  enc8 c.priority ++ enc16 c.period ++ enc8 c.modeDiff ++ enc8 c.stageDiff ++ enc8 c.deadband ++ enc16 c.upDelay ++
    enc16 c.downDelay ++ enc16 c.changeover ++ encFlag c.econEnable ++ encTemp (some c.econLimit) ++ enc16 c.occFan ++
    enc8 c.fbOccupancy.toCode ++ enc16 c.fbCool ++ enc16 c.fbHeat ++ enc16 c.staleTime

/-- R70: the override in a reply. -/
def encOverride (o : Override) : List Byte :=
  encTemp (o.cool.map Int.ofNat) ++ encTemp (o.heat.map Int.ofNat) ++
    encOption (fun m => enc8 (ModeForce.toCode m)) o.modeForce ++
    encOption (fun c => enc8 (Occupancy.toCode c)) o.occForce ++ encWord o.expiry

/-- ZONE.GET (R70). DESIGN CHOICE (log 29): the age sent while the zone temperature is absent is the time since the derivation
uptime, which R68 keeps in either case. -/
def serveZoneGet (zone : Byte) (s : State) : State × Answer :=
  if zoneNumber zone.toNat = false then refuse s .index
  else
    match s.zone zone.toNat with
    | none => refuse s .absent
    | some r =>
      accept s
        (encZoneConfig r.config ++ encList enc8 r.units ++ encOption encOverride r.forced ++ enc8 r.mode.toCode ++
          enc8 r.lastMode.toCode ++ enc8 r.level ++ enc8 r.capacity ++ enc8 r.wanted ++ enc8 (s.activeCount r) ++
          encFlag r.econAvailable ++ encFlag r.econOn ++ encTemp r.temperature ++ enc32 (since s.uptime r.derivedAt) ++
          encFlag r.sensorFault ++ enc16 r.changeover.remaining ++ enc16 r.evaluation.remaining ++
          encOption encWord r.lastIncrease ++ encOption encWord r.lastDecrease ++ encFlag r.stepOwed ++ encCell r.cell ++
          enc16 r.appliedCool ++ enc16 r.appliedHeat ++ enc8 r.occupancy.toCode)

/-- R88: the override that a request places. -/
def Override.make (now : Word) (duration : Nat) (cool heat : Half) (modeForce occForce : Option Byte) : Override :=
  { cool := (optionalTemp cool).map clampSetpoint
    heat := (optionalTemp heat).map clampSetpoint
    modeForce := modeForce.map fun m => modeForceOf m.toNat
    occForce := occForce.map fun c => occupancyOf c.toNat
    expiry := now + BitVec.ofNat 32 (duration * 60) }

/-- ZONE.OVERRIDE (R88). -/
def serveZoneOverride (zone : Byte) (duration cool heat : Half) (modeForce occForce : Option Byte) (s : State) :
    State × Answer :=
  let z := zone.toNat
  if zoneNumber z = false then refuse s .index
  else
    match s.zone z with
    | none => refuse s .absent
    | some r =>
      match firstFailing [(2, duration.toNat ≤ 720), (5, modeForce.all fun m => m.toNat ≤ 3),
          (6, occForce.all fun c => c.toNat ≤ 2)] with
      | some n => refuseRange s n
      | none =>
        if duration = 0#16 then accept (s.putZone z { r with forced := none }) (encOption encWord none)
        else
          let o := Override.make s.uptime duration.toNat cool heat modeForce occForce
          accept (s.putZone z { r with forced := some o }) (encOption encWord (some o.expiry))

/-! ### Profiles (R111, R112) -/

/-- R111: whether an active copy names a profile in any of its three profile fields. -/
def Descriptor.usesProfile (k : Nat) (d : Descriptor) : Bool :=
  d.fanProfile == k || d.damperProfile == k || d.gasProfile == k

/-- R111: the number of bound units whose active copy names a profile. -/
def State.profileUsers (s : State) (k : Nat) : Nat := s.units.countP fun p => p.2.copy.usesProfile k

/-- R111: the number of the first segment with a width or rate outside 1 to 1000. -/
def segmentFailure (segments : List (Half × Half)) : Option Nat :=
  (segments.findIdx? fun g => !(within 1 1000 g.1.toNat && within 1 1000 g.2.toNat)).map (· + 1)

/-- R110: the segments of a profile. -/
def segmentsMade (segments : List (Half × Half)) : List Segment :=
  segments.map fun g => { width := g.1.toNat, rate := g.2.toNat }

/-- PROFILE.PUT (R111). -/
def serveProfilePut (profile : Byte) (segments : List (Half × Half)) (s : State) : State × Answer :=
  let k := profile.toNat
  if within 1 8 k = false then refuse s .index
  else
    match segmentFailure segments with
    | some n => refuseRange s n
    | none =>
      if segments.isEmpty then
        if 0 < s.profileUsers k then refuse s .state
        else accept (s.setProfiles (Table.erase k s.profiles)) (enc8 k ++ enc8 (s.profileUsers k))
      else if ((segmentsMade segments).map Segment.width).sum ≠ 1000 then refuseRange s 0
      else accept (s.setProfiles (Table.put k (segmentsMade segments) s.profiles)) (enc8 k ++ enc8 (s.profileUsers k))

/-- PROFILE.GET (R112). -/
def serveProfileGet (profile : Byte) (s : State) : State × Answer :=
  let k := profile.toNat
  if within 1 8 k = false then refuse s .index
  else
    match Table.find k s.profiles with
    | none => refuse s .absent
    | some segments =>
      accept s (encList (fun g => enc16 g.width ++ enc16 g.rate) segments ++ enc8 (s.profileUsers k))

end Sys2Proof.Machine
end

