-- ==== Sys2Proof/Machine/Roof.lean ====
section
/-! DEFINITION. The roof bus master (chapter 9): the poll cycle, visits, link states and the delivery of a good reply. -/

namespace Sys2Proof.Machine

/-! ### Frames of the roof bus (12.4) -/

/-- R158: the stages commanded on. -/
def BoundUnit.onSet (b : BoundUnit) : StageSet := Six.ofFn b.isOn

/-- 12.4, R158: the command frame for a unit. -/
def commandFrame (run : RunState) (b : BoundUnit) : List Byte :=
  let body := enc8 b.copy.busAddress ++ [0x51#8, setByte b.onSet, if run = .shutdown then 1#8 else 0#8] ++
    enc16 b.fan.position ++ enc16 b.damper.position ++ enc16 b.gas.position
  0xA5#8 :: body ++ halfBytes (crc16 body)

/-- R159: the contents of a good reply. -/
structure BoardReply where
  running : Byte
  trips : Byte
  flags : Byte
  space : Option Int
  discharge : Option Int
  outdoor : Option Int
deriving DecidableEq, Repr

/-- The data bytes of a reply frame: address, kind and the rest up to the CRC (12.4). -/
def replyBody (r : BoardReply) (address : Nat) : List Byte :=
  enc8 address ++ [0x52#8, r.running, r.trips, r.flags] ++ encTemp r.space ++ encTemp r.discharge ++ encTemp r.outdoor

/-- 12.4: the bytes of a board's reply frame. -/
def replyFrame (r : BoardReply) (address : Nat) : List Byte :=
  0xA5#8 :: replyBody r address ++ halfBytes (crc16 (replyBody r address))

/-- R159: the bytes from the first start byte on. -/
def fromStart : List Byte → List Byte
  | [] => []
  | b :: bs => if b = 0xA5#8 then b :: bs else fromStart bs

/-- R159: the judgement of the bytes that arrived in a visit's wait: a good reply, or none for a miss. -/
def judgeReply (address : Nat) (received : List Byte) : Option BoardReply :=
  match (fromStart received).take 14 with
  | [_, a, k, running, trips, flags, s1, s0, d1, d0, o1, o0, c1, c0] =>
    if a.toNat = address ∧ k = 0x52#8 ∧
        crc16 [a, k, running, trips, flags, s1, s0, d1, d0, o1, o0] = half c1 c0 then
      some { running, trips, flags, space := optionalTemp (half s1 s0), discharge := optionalTemp (half d1 d0),
             outdoor := optionalTemp (half o1 o0) }
    else none
  | _ => none

/-- 12.4: the flags of a reply. -/
def BoardReply.coilLow (r : BoardReply) : Bool := r.flags.getLsbD 0
/-- 12.4: the flags of a reply. -/
def BoardReply.headHigh (r : BoardReply) : Bool := r.flags.getLsbD 1
/-- 12.4: the flags of a reply. -/
def BoardReply.datHigh (r : BoardReply) : Bool := r.flags.getLsbD 2
/-- 12.4: the flags of a reply. -/
def BoardReply.flameFail (r : BoardReply) : Bool := r.flags.getLsbD 3
/-- 12.4: the flags of a reply. -/
def BoardReply.fanFail (r : BoardReply) : Bool := r.flags.getLsbD 4

/-! ### Misses (R160, R161) -/

/-- R155: the miss count after one more miss. -/
def BoundUnit.countMiss (b : BoundUnit) : BoundUnit := { b with misses := min 255 (b.misses + 1) }

/-- The unit with another link state. -/
def BoundUnit.setLink (l : LinkState) (b : BoundUnit) : BoundUnit := { b with live := { b.live with link := l } }

/-- Seconds since the unit's last good reply, as a notice's value. -/
def BoundUnit.sinceGood (now : Word) (b : BoundUnit) : Option Int := b.live.lastGood.map fun t => (since now t : Int)

/-- R161: a unit declared LOST at its fourth consecutive miss. -/
def State.declareLost (u : Nat) (b : BoundUnit) (s : State) : State :=
  let s := s.putUnit u { b.setLink .lost with lostOn := b.onSet }
  let s := s.raise .unitLost (some u) none (noticeZone b.zone) (b.sinceGood s.uptime)
  (s.withdrawUnit u).takeFallback u

/-- R160: a miss. -/
def State.miss (u : Nat) (s : State) : State :=
  match s.unit u with
  | none => s
  | some b =>
    let b := b.countMiss
    match b.live.link with
    | .unknown | .lost => s.putUnit u b
    | .online => s.putUnit u { b.setLink .missing with misses := 1 }
    | .missing => if b.misses < 4 then s.putUnit u b else s.declareLost u b

/-! ### Good replies (R160, R163, R164) -/

/-- R160, R163: the link state, the miss count and the last good reply uptime at a good reply. -/
def BoundUnit.found (now : Word) (b : BoundUnit) : BoundUnit :=
  { b with
    live := { b.live with link := .online, lastGood := some now }
    misses := 0
    fallbackTaken := false
    lostOn := if b.live.link = .lost then noStages else b.lostOn }

/-- R164, R127, R128, R147: the readings and flags of a reply in the live record and the limit record; the fan-fail hold
(R120) and the gas reduction (R123) that end when their flag is no longer reported. -/
def BoundUnit.takeReply (r : BoardReply) (b : BoundUnit) : BoundUnit :=
  { b with
    live := { b.live with space := r.space, discharge := r.discharge, outdoor := r.outdoor,
                          running := namedSet b.names r.running }
    limit := { b.limit with
      coolLimited := r.coilLow || r.headHigh
      heatLimited := r.datHigh
      coilLow := r.coilLow
      headHigh := r.headHigh
      datHigh := r.datHigh
      trips := namedSet b.names r.trips
      flameFail := r.flameFail
      fanFail := r.fanFail }
    fanHold := b.fanHold && r.fanFail
    gasReduction := if b.limit.heatLimited && !r.datHigh then 0 else b.gasReduction }

/-- R135: the contents of one reply that the stage controller and the soft-limit action take, each as its own event. -/
inductive ReplyEvent where
  /-- R6, R7: proof of a stage, or the judgement of its proof overdue. -/
  | proof (st : StageName)
  /-- R132: a stage's trip bit. -/
  | trip (st : StageName)
  /-- R133: FLAME_FAIL on a heat stage. -/
  | flame (st : StageName)
  /-- R134: FAN_FAIL on a stage. -/
  | fan (st : StageName)
  /-- R129: the soft-limit action of a mode. -/
  | soft (heat : Bool)
deriving DecidableEq, Repr

/-- R6, R7: proof takes a PROVING stage to RUN; one with proof overdue that the running set leaves out stops with NO_PROOF. -/
def State.takeProof (u : Nat) (st : StageName) (s : State) : State :=
  match s.unit u with
  | none => s
  | some b =>
    if b.live.running.get st then s.putUnit u (b.onStage st StageRec.prove)
    else if (b.stages.get st).any fun r => r.state == .proving && r.overdue then s.takeStop u st .noProof
    else s

/-- One content of a reply taken by its owner. -/
def State.takeEvent (u : Nat) (e : ReplyEvent) (s : State) : State :=
  match e with
  | .proof st => s.takeProof u st
  | .trip st => s.takeStop u st .hardLimit
  | .flame st => s.takeStop u st .hardLimit
  | .fan st => s.takeStop u st .fanFail
  | .soft heat => s.softLimitAction u heat

/-- R6, R7: whether the proof of a reply has something to do on a stage. -/
def BoundUnit.proofActs (b : BoundUnit) (st : StageName) : Bool :=
  (b.stages.get st).any fun r => r.state == .proving && (b.live.running.get st || r.overdue)

/-- R164: the stage controller's part of a reply: proof, the trip set, FLAME_FAIL and FAN_FAIL, each content on each stage that
it reaches as the reply finds the unit (R135); the others change nothing in any order. -/
def BoundUnit.stageEvents (b : BoundUnit) : List ReplyEvent :=
  (allStages.filter b.proofActs).map .proof ++
    (allStages.filter fun st => b.limit.trips.get st && b.isOn st).map .trip ++
    (allStages.filter fun st => b.limit.flameFail && isHeat st && b.isOn st).map .flame ++
    (allStages.filter fun st => b.limit.fanFail && b.isOn st).map .fan

/-- R164, R129: the soft-limit action's part of a reply. -/
def BoundUnit.softEvents (b : BoundUnit) : List ReplyEvent := ([false, true].filter b.softActs).map .soft

/-- R164, R135: the contents of a reply in the order in which they are taken: the stage controller's part whole and the
soft-limit action's part whole, either first. DEDUCED (log 31): proof and stops are one part, that of the stage controller in
R164's table, so the soft-limit action does not fall between them; within the part any content is taken first on any stage. -/
def BoundUnit.replyEvents (n : Nat) (b : BoundUnit) : List ReplyEvent := arrangeParts n b.stageEvents b.softEvents

/-- R165: the unexpected-run set that the unit's running set and stage states give. -/
def BoundUnit.unexpectedNow (b : BoundUnit) : StageSet := Six.ofFn fun st => b.live.running.get st && b.names st && !b.isOn st

/-- R165: the unexpected-run set rebuilt, with a notice for each stage that joins it. -/
def State.rebuildUnexpected (u : Nat) (s : State) : State :=
  match s.unit u with
  | none => s
  | some b =>
    let joined := allStages.filter fun st => b.unexpectedNow.get st && !b.live.unexpected.get st
    let s' := s.putUnit u { b with live := { b.live with unexpected := b.unexpectedNow } }
    ((arrange s.freeCount joined).foldl
      (fun s st => s.raise .unexpectedRun (some u) (some st) (noticeZone b.zone) none) s').useFree joined.length

/-- R134: the fan hard stop of a reply that reports FAN_FAIL. -/
def BoundUnit.fanFailStop (b : BoundUnit) : BoundUnit := if b.limit.fanFail then b.fanHardStop else b

/-- R160, R163 to R165: a good reply. The stage controller and the soft-limit action each take their part whole, either first
(R164, R135); the fan hard stop comes after them (R134), and the unexpected-run set is rebuilt last (R165). -/
def State.goodReply (u : Nat) (r : BoardReply) (s : State) : State :=
  match s.unit u with
  | none => s
  | some b =>
    let s := if b.live.link = .lost then s.raise .unitFound (some u) none (noticeZone b.zone) (b.sinceGood s.uptime) else s
    let b := (b.found s.uptime).takeReply r
    let s := s.putUnit u b
    let events := b.replyEvents s.freeCount
    let s := (events.foldl (fun s e => s.takeEvent u e) s).useFree (events.length + 2)
    (s.onUnit u BoundUnit.fanFailStop).rebuildUnexpected u

/-! ### The poll cycle (R155 to R159) -/

/-- R158: the first place from the next one on that is not skipped: how many places it takes up, and its unit. -/
def takeUp (s : State) : List Place → Option (Nat × Nat × BoundUnit)
  | [] => none
  | p :: rest =>
    match p.live, s.unit p.unit with
    | true, some b => some (1, p.unit, b)
    | _, _ => (takeUp s rest).map fun (n, u) => (n + 1, u)

/-- R158: the next visit begins, with its command frame built from the state as it stands; with no place left the cycle
has ended. -/
def State.nextVisit (s : State) : State :=
  match takeUp s (s.roof.places.drop s.roof.next) with
  | none => s.setRoof { s.roof with next := s.roof.places.length, visit := none }
  | some (n, u, b) =>
    s.setRoof { s.roof with
      next := s.roof.next + n
      visit := some { unit := u, address := b.copy.busAddress, live := true }
      lastCommand := commandFrame s.host.run b }

/-- A unit placed by bus address, ascending. -/
def placeByAddress (u : Nat) (address : Nat) : List (Nat × Nat) → List (Nat × Nat)
  | [] => [(u, address)]
  | p :: l => if address < p.2 then (u, address) :: p :: l else p :: placeByAddress u address l

/-- R156: the cycle list: every bound unit, by ascending bus address. -/
def State.cyclePlaces (s : State) : List Place :=
  (s.units.foldl (fun l p => placeByAddress p.1 p.2.copy.busAddress l) []).map fun p => { unit := p.1, live := true }

/-- R155: the moment `ms` of the present second, in milliseconds of part time. -/
def State.moment (s : State) (ms : Nat) : Nat := s.uptime.toNat * 1000 + ms % 1000

/-- R156: whether the next cycle may start at a moment: no visit is in progress, and the cycle has not yet begun (after
power-on) or 1,000 ms have passed since its start. Part time wraps with the uptime (log 11). DESIGN CHOICE (log 12): the spec
gives the power-on load no length; after a load that re-makes no binding the first cycle, whose list is empty, counts as begun
and ended at 0 ms of part time. -/
def State.cycleDue (s : State) (at' : Nat) : Bool :=
  s.roof.visit.isNone &&
    (decide (s.roof.next < s.roof.places.length) ||
      decide (Config.cycleTime ≤ (at' + 4294967296000 - s.roof.start) % 4294967296000))

/-- POLL_CYCLE_START (R156): the cycle list is formed and the first visit begins. -/
def execPollCycleStart (ms : Nat) (s : State) : Host.Outcome State Fault Refusal :=
  .next <|
    if s.cycleDue (s.moment ms) then
      (s.setRoof { s.roof with places := s.cyclePlaces, next := 0, start := s.moment ms, visit := none }).nextVisit
    else s

/-- VISIT_END (R159): the visit in progress is judged, unless its unit was freed (R157), and the next one begins. -/
def execVisitEnd (received : List Byte) (s : State) : Host.Outcome State Fault Refusal :=
  .next <|
    match s.roof.visit with
    | none => s
    | some v =>
      let s :=
        if v.live then
          match judgeReply v.address received with
          | some r => s.goodReply v.unit r
          | none => s.miss v.unit
        else s
      s.nextVisit

end Sys2Proof.Machine
end

