-- ==== Sys2Proof/Machine/Store.lean ====
section
/-! DEFINITION. The settings store (chapter 11): save, completion, clear, and the power-on load; the meter's requests. -/

namespace Sys2Proof.Machine

/-! ### Saving (R176 to R178) -/

/-- R176: what the image holds of a bound unit. -/
def BoundUnit.saved (b : BoundUnit) : SavedBinding :=
  { zone := b.zone, counters := Six.ofFn fun st => (b.stages.get st).map fun r => (r.starts, r.runtime) }

/-- R176: the contents of the image, taken from the tables as they stand. -/
def State.contents (s : State) : Contents :=
  { descriptors := s.table.descriptors
    zones := s.zones.map fun p => (p.1, p.2.config)
    bindings := s.units.map fun p => (p.1, p.2.saved)
    grid := s.schedule.grid
    profiles := s.profiles
    limits := s.meter.limits
    level := s.table.level
    hold := s.table.hold }

/-- STORE.SAVE (R177): the contents are taken and the write starts; its mark is FAILED until the completion (R178). -/
def serveStoreSave (s : State) : State × Answer :=
  if s.schedule.window.isSome then refuse s .windowed
  else
    accept
      (s.setStore { s.store with
        image := { contents := s.contents, mark := .failed, format := Config.imageFormat, crcRight := false }
        saving := true })
      (enc8 s.store.state.toCode)

/-- R178: the completion of a save; the read-back CRC-32 equals the one written, or differs. -/
def State.completeSave (equal : Bool) (s : State) : State :=
  let count := s.store.image.contents.bindings.length
  let s := s.setStore
    { image := { s.store.image with mark := if equal then .clean else .failed, crcRight := equal }
      state := if equal then .valid else .failed
      saving := false }
  if equal then s.raise .storeDone none none none (some count) else s.raise .storeFailed none none none none

/-- SAVE_COMPLETION (R178): the end of the save in progress. -/
def execSaveCompletion (equal : Bool) (s : State) : Host.Outcome State Fault Refusal :=
  .next (if s.store.saving then s.completeSave equal else s)

/-! ### Clearing (R179) -/

/-- R179: whether a stage of any bound unit is engaged. -/
def State.anyEngaged (s : State) : Bool := s.units.any fun p => p.2.anyEngaged

/-- R179: every unit unbound, every table at its default, the image erased. The default limits are applied as R47 says, a
fresh site load that has reached the default site-stale time going stale at once (R45); R179 raises no notice (log 16). -/
def State.clear (s : State) : State :=
  let s := s.units.foldl (fun s p => s.freeUnit p.1) s
  let s := s.setTable { descriptors := [], level := 0, hold := false }
  let s := s.setZones []
  let s := s.setSchedule { s.schedule with grid := [], window := none }
  let s := s.setProfiles []
  let s := s.setMeter (s.meter.apply .default)
  s.setStore { s.store with image := .erased, state := .empty }

/-- STORE.CLEAR (R179). -/
def serveStoreClear (s : State) : State × Answer :=
  if 0 < s.table.level then refuse s .locked
  else if s.anyEngaged then refuse s .state
  else accept s.clear (enc8 s.units.length)

/-! ### The power-on load (R180) -/

/-- R180: the store state that the image gives. -/
def Image.judge (i : Image) : StoreState :=
  match i.mark with
  | .failed => .failed
  | .erased => .empty
  | .clean => if i.format = Config.imageFormat ∧ i.crcRight then .valid else .empty

/-- R180: the tables that the image gives: its contents when it is valid, the defaults otherwise. -/
def Image.load (i : Image) : Contents := if i.judge = .valid then i.contents else .defaults

/-- R180: the saved counters of a stage, 0 where the image holds none for it. -/
def SavedBinding.counter (b : SavedBinding) (st : StageName) : Nat × Nat := (b.counters.get st).getD (0, 0)

/-- R121: a unit that is bound at power-on with SMOKE asserted takes its smoke action. -/
def State.smokeAtBinding (u : Nat) (s : State) : State :=
  if s.host.run = .shutdown then s.onUnit u BoundUnit.smokeAction else s

/-- R180: one stored binding re-made through the checks of UNIT.BIND, or dropped with its notice. -/
def State.remake (s : State) (p : Nat × SavedBinding) : State :=
  match s.bindFailure p.1 p.2.zone, s.descriptor p.1 with
  | none, some d => (s.bindUnit p.1 p.2.zone d p.2.counter).smokeAtBinding p.1
  | some (r, _), _ => s.raise .bindDropped (some p.1) none (noticeZone p.2.zone) (some r.toCode)
  | none, none => s

/-- R180, R139, R154: the part at power-on before its bindings are re-made. The image, and the model's own queue and
counter, go through. -/
def State.loaded (smoke service protect : Bool) (s : State) : State :=
  let c := s.store.image.load
  let base : State :=
    { State.reset with
      pending := s.pending
      freeCount := s.freeCount
      host := { State.reset.host with
        run := if smoke then .shutdown else .normal, smoke := smoke, service := service, protect := protect }
      table := { descriptors := c.descriptors, level := c.level, hold := c.hold }
      arbiter := { State.reset.arbiter with stagger := .start c.limits.spacing }
      meter := { State.reset.meter with
        limits := c.limits
        siteLoad := c.limits.fallback
        interval := { State.reset.meter.interval with length := c.limits.length, effective := c.limits.length } }
      zones := c.zones.map fun p => (p.1, Zone.make p.2 0#32 p.2.fallbackCell [])
      schedule := { State.reset.schedule with grid := c.grid }
      profiles := c.profiles
      store := { image := s.store.image, state := s.store.image.judge, saving := false } }
  if smoke then base.raise .shutdownOn none none none none else base

/-- POWER_ON (R180): the levels of the three lines are read, the image is loaded, and the stored bindings are re-made in
ascending unit index; the first cycle list holds them (R155). -/
def execPowerOn (smoke service protect : Bool) (s : State) : Host.Outcome State Fault Refusal :=
  let loaded := s.loaded smoke service protect
  let bound := s.store.image.load.bindings.foldl State.remake loaded
  .next (bound.setRoof { bound.roof with places := bound.cyclePlaces })

/-! ### The meter's requests (R46, R48, R64, R65) -/

/-- R45: the first limits field outside its range. -/
def limitsFailure (l : Limits) : Option Nat :=
  firstFailing [(1, within 100 65000 l.ceiling), (2, within 100 65000 l.recovery),
    (3, decide (l.ceiling ≤ l.cap) && decide (l.recovery ≤ l.cap) && decide (l.cap ≤ 65535)),
    (4, [300, 600, 900, 1800, 3600].contains l.length), (5, l.fallback ≤ 65535), (6, within 30 900 l.stale),
    (7, within 10 120 l.spacing)]

/-- DEMAND.LIMITS (R46, R47). -/
def serveDemandLimits (ceiling recovery cap length fallback stale spacing : Half) (s : State) : State × Answer :=
  let l : Limits :=
    { ceiling := ceiling.toNat, recovery := recovery.toNat, cap := cap.toNat, length := length.toNat,
      fallback := fallback.toNat, stale := stale.toNat, spacing := spacing.toNat }
  match limitsFailure l with
  | some n => refuseRange s n
  | none =>
    let s := s.applyLimits l
    accept s (enc16 s.ceiling ++ enc16 s.meter.nextLength)

/-- DEMAND.SITE (R48): the site load is taken, clamped, and becomes fresh. -/
def serveDemandSite (load : Word) (s : State) : State × Answer :=
  let s := s.setMeter { s.meter with siteLoad := min Config.loadMax load.toNat, siteAge := some 0, siteStale := false }
  accept s (enc16 s.presentLoad ++ enc16 s.ceiling ++ enc16 s.meter.interval.left)

/-- R54, R63: the start of an interval in a reply: day type and minute, absent with the clock invalid. -/
def encStart : Option (Nat × Nat) → List Byte := encOption fun p => enc8 p.1 ++ enc16 p.2

/-- The limits record in a reply. -/
def encLimits (l : Limits) : List Byte :=
  enc16 l.ceiling ++ enc16 l.recovery ++ enc16 l.cap ++ enc16 l.length ++ enc16 l.fallback ++ enc16 l.stale ++
    enc16 l.spacing

/-- R65: the interval group of a reply. -/
def encInterval (i : Interval) : List Byte :=
  encStart i.start ++ encWord i.startUptime ++ enc16 i.effective ++ enc16 i.elapsed ++ enc16 i.left ++ enc32 i.energy ++
    enc16 i.peak ++ enc16 i.sheds ++ encFlag i.clipped ++ encFlag i.unaligned ++ encFlag i.overrun

/-- DEMAND.GET (R65). -/
def serveDemandGet (s : State) : State × Answer :=
  let i := s.meter.interval
  accept s
    (encLimits s.meter.limits ++ encOption enc16 s.meter.pendingLength ++ enc16 s.ceiling ++
      encFlag (0 < s.recoveryZones) ++ enc8 s.recoveryZones ++ enc16 s.presentLoad ++ enc16 s.meter.siteLoad ++
      encFlag s.meter.siteStale ++ encOption enc32 s.meter.siteAge ++ enc16 (min Config.loadMax s.hvacLoad) ++
      enc16 (min Config.loadMax s.fanShare) ++ encInterval i ++ enc16 (i.projected s.presentLoad / i.effective) ++
      enc32 s.allowedEnergy ++ enc8 s.meter.history.length ++ encWord s.meter.closeCount)

/-- R63, R64: an interval record in a reply. -/
def encHistory (h : HistoryRec) : List Byte :=
  encStart h.start ++ encWord h.startUptime ++ enc16 h.length ++ enc16 h.average ++ enc16 h.peak ++ enc16 h.ceiling ++
    enc16 h.sheds ++ encFlag h.clipped ++ encFlag h.unaligned ++ encFlag h.aboveCeiling ++ encFlag h.overrun

/-- DEMAND.HISTORY (R64): records from the offset back toward the oldest. -/
def serveDemandHistory (offset count : Byte) (s : State) : State × Answer :=
  if offset.toNat ≤ 95 && within 1 10 count.toNat then
    accept s
      (enc8 s.meter.history.length ++ encWord s.meter.closeCount ++
        encList encHistory ((s.meter.history.reverse.drop offset.toNat).take count.toNat))
  else refuse s .index

end Sys2Proof.Machine
end

