-- ==== Sys2Proof/Machine/HostLink.lean ====
section
/-! DEFINITION. The host link (chapter 10): the common checks, dispatch and reply of a request, the receiver and the holding
buffer, and the part-wide requests. -/

namespace Sys2Proof.Machine

/-! ### Part-wide requests (R153, R172, R175) -/

/-- PART.STATUS (R172): family code 0x72 and revision 3 first. -/
def servePartStatus (s : State) : State × Answer :=
  accept s
    ([0x72#8, 3#8] ++ enc8 s.host.run.toCode ++ encWord s.uptime ++ enc8 s.store.state.toCode ++ encFlag s.store.saving ++
      encFlag s.timeOfDay.isSome ++ enc8 s.table.level ++ encFlag s.table.hold ++ encFlag s.host.smoke ++
      encFlag s.host.protect ++ encFlag s.host.service ++ enc8 s.host.notices.length ++ encFlag s.host.dropped ++
      encFlag s.schedule.window.isSome ++ enc8 s.units.length ++ enc8 s.arbiter.queue.length)

/-- PART.PROTECT (R153). -/
def servePartProtect (level hold : Byte) (s : State) : State × Answer :=
  if s.table.hold && s.host.protect then refuse s .locked
  else if 3 < level.toNat then refuseRange s 1
  else if 1 < hold.toNat then refuseRange s 2
  else accept (s.setTable { s.table with level := level.toNat, hold := hold = 1#8 }) [level, hold]

/-- 12.2: a notice record in a reply. -/
def encNotice (n : Notice) : List Byte :=
  enc8 n.kind.toCode ++ encWord n.uptime ++ encOption encTime n.time ++ enc8 (n.unit.getD 0) ++ encStage n.stage ++
    enc8 (n.zone.getD 0) ++ encOption (fun v => wordBytes (BitVec.ofInt 32 v)) n.value

/-- R175, R174: the notice queue after a NOTE.TAKE. -/
def HostLink.takeNotices (h : HostLink) : HostLink :=
  let rest := h.notices.drop Config.takeSize
  if rest.isEmpty then { h with notices := [], dropped := false, note := false } else { h with notices := rest }

/-- NOTE.TAKE (R175). -/
def serveNoteTake (s : State) : State × Answer :=
  accept (s.setHost s.host.takeNotices)
    (encFlag s.host.dropped ++ enc8 (s.host.notices.length - Config.takeSize) ++
      encList encNotice (s.host.notices.take Config.takeSize))

/-! ### The common checks (R170, R137, R152) -/

/-- R140: the identifiers of the safety fields. -/
def isSafetyField (id : Nat) : Bool := within 5 15 id || id == 19 || within 26 28 id

/-- R141: whether a list of pairs names a safety field. -/
def namesSafety (pairs : List (Byte × Half)) : Bool := pairs.any fun p => isSafetyField p.1.toNat

/-- R170, R102, R111, R141: counts and masks that fit no payload. -/
def requestMalformed : Request → Bool
  | .unitPut _ pairs => !within 1 40 pairs.length
  | .schedFill mask values => !within 1 16 values.length || mask = 0#8
  | .profilePut _ segments => 8 < segments.length
  | .partStatus | .partRestart | .partProtect .. | .partRelease | .noteTake | .clockSet .. | .clockGet
  | .unitGet .. | .unitBind .. | .unitFree .. | .unitRefresh .. | .unitReadings .. | .stageGet ..
  | .stageUnlock .. | .queueGet .. | .zonePut .. | .zoneGet .. | .zoneOverride .. | .schedWindow .. | .schedEnd
  | .schedGet .. | .profileGet .. | .demandLimits .. | .demandSite .. | .demandGet | .demandHistory ..
  | .storeSave | .storeClear => false

/-- R170, R154: the service-only requests. -/
def requestServiceOnly : Request → Bool
  | .partProtect .. | .storeClear | .profilePut .. | .stageUnlock .. => true
  | .unitPut _ pairs => namesSafety pairs
  | .partStatus | .partRestart | .partRelease | .noteTake | .clockSet .. | .clockGet | .unitGet ..
  | .unitBind .. | .unitFree .. | .unitRefresh .. | .unitReadings .. | .stageGet .. | .queueGet .. | .zonePut ..
  | .zoneGet .. | .zoneOverride .. | .schedWindow .. | .schedFill .. | .schedEnd | .schedGet .. | .profileGet ..
  | .demandLimits .. | .demandSite .. | .demandGet | .demandHistory .. | .storeSave => false

/-- R137: the requests refused in SHUTDOWN. -/
def requestHalted : Request → Bool
  | .partRestart | .partProtect .. | .unitPut .. | .unitBind .. | .unitFree .. | .unitRefresh .. | .stageUnlock ..
  | .zonePut .. | .zoneOverride .. | .schedWindow .. | .schedFill .. | .schedEnd | .profilePut .. | .demandLimits ..
  | .storeSave | .storeClear => true
  | .partStatus | .partRelease | .noteTake | .clockSet .. | .clockGet | .unitGet .. | .unitReadings ..
  | .stageGet .. | .queueGet .. | .zoneGet .. | .schedGet .. | .profileGet .. | .demandSite .. | .demandGet
  | .demandHistory .. => false

/-- R170: the table-changing requests. -/
def requestTableChanging : Request → Bool
  | .unitPut .. | .unitBind .. | .unitFree .. | .unitRefresh .. | .zonePut .. | .schedWindow .. | .schedFill ..
  | .profilePut .. | .demandLimits .. | .partProtect .. | .storeSave | .storeClear => true
  | .partStatus | .partRestart | .partRelease | .noteTake | .clockSet .. | .clockGet | .unitGet ..
  | .unitReadings .. | .stageGet .. | .stageUnlock .. | .queueGet .. | .zoneGet .. | .zoneOverride ..
  | .schedEnd | .schedGet .. | .profileGet .. | .demandSite .. | .demandGet | .demandHistory .. => false

/-- R152: whether a protect level refuses a request. -/
def requestLocked (level : Nat) : Request → Bool
  | .unitPut _ pairs => decide (2 ≤ level) || (decide (1 ≤ level) && namesSafety pairs)
  | .profilePut .. | .zonePut .. | .unitBind .. | .unitFree .. | .unitRefresh .. => 2 ≤ level
  | .demandLimits .. | .schedWindow .. | .schedFill .. => 3 ≤ level
  | .partStatus | .partRestart | .partProtect .. | .partRelease | .noteTake | .clockSet .. | .clockGet
  | .unitGet .. | .unitReadings .. | .stageGet .. | .stageUnlock .. | .queueGet .. | .zoneGet ..
  | .zoneOverride .. | .schedEnd | .schedGet .. | .profileGet .. | .demandSite .. | .demandGet
  | .demandHistory .. | .storeSave | .storeClear => false

/-- R170: the result of the first common check after UNKNOWN that refuses a request. -/
def State.commonCheck (s : State) (r : Request) : Option Result :=
  if requestMalformed r then some .malformed
  else if requestServiceOnly r && !s.host.service then some .service
  else if s.host.run == .shutdown && requestHalted r then some .halted
  else if requestTableChanging r && s.store.saving then some .busy
  else if requestLocked s.table.level r then some .locked
  else none

/-! ### Taking a request (R168, R169) -/

/-- R168: a request that passes the common checks goes to its owner. -/
def serve (r : Request) (s : State) : State × Answer :=
  match r with
  | .partStatus => servePartStatus s
  | .partRestart => servePartRestart s
  | .partProtect level hold => servePartProtect level hold s
  | .partRelease => servePartRelease s
  | .noteTake => serveNoteTake s
  | .clockSet day minute second mark weekday => serveClockSet day minute second mark weekday s
  | .clockGet => serveClockGet s
  | .unitPut unit pairs => serveUnitPut unit pairs s
  | .unitGet unit selector => serveUnitGet unit selector s
  | .unitBind unit zone => serveUnitBind unit zone s
  | .unitFree unit => serveUnitFree unit s
  | .unitRefresh unit => serveUnitRefresh unit s
  | .unitReadings unit => serveUnitReadings unit s
  | .stageGet unit => serveStageGet unit s
  | .stageUnlock unit stage => serveStageUnlock unit stage s
  | .queueGet first => serveQueueGet first s
  | .zonePut zone flag fields => serveZonePut zone flag fields s
  | .zoneGet zone => serveZoneGet zone s
  | .zoneOverride zone duration cool heat modeForce occForce =>
    serveZoneOverride zone duration cool heat modeForce occForce s
  | .schedWindow day zLo zHi sLo sHi order direction mask compare occupancy =>
    serveSchedWindow day zLo zHi sLo sHi order direction mask compare occupancy s
  | .schedFill mask values => serveSchedFill mask values s
  | .schedEnd => serveSchedEnd s
  | .schedGet day zone slot count => serveSchedGet day zone slot count s
  | .profilePut profile segments => serveProfilePut profile segments s
  | .profileGet profile => serveProfileGet profile s
  | .demandLimits ceiling recovery cap length fallback stale spacing =>
    serveDemandLimits ceiling recovery cap length fallback stale spacing s
  | .demandSite load => serveDemandSite load s
  | .demandGet => serveDemandGet s
  | .demandHistory offset count => serveDemandHistory offset count s
  | .storeSave => serveStoreSave s
  | .storeClear => serveStoreClear s

/-- R170: a request checked and served, or refused by the first common check that holds. -/
def State.answerTo (r : Request) (s : State) : State × Answer :=
  match s.commonCheck r with
  | some why => refuse s why
  | none => serve r s

/-- R169: the reply to a request code and tag; the host link is ANSWERING until it has been sent (R168). -/
def State.reply (code tag : Byte) (a : Answer) (s : State) : State :=
  s.setHost { s.host with
    phase := .answering
    reply := some { code := code ||| 0x80#8, tag, result := a.result, payload := a.payload } }

/-- R168: the taking of a request: checked, dispatched to its owner, and answered, as one event. -/
def State.takeRequest (tag : Byte) (r : Request) (s : State) : State :=
  let (s', a) := s.answerTo r
  s'.reply r.code tag a

/-- R168 to R170: the taking of a frame. -/
def State.takeFrame (f : Frame) (s : State) : State :=
  match parseRequest f.code f.payload with
  | .unknown => s.reply f.code f.tag { result := .unknown, payload := [] }
  | .malformed => s.reply f.code f.tag { result := .malformed, payload := [] }
  | .request r => s.takeRequest f.tag r

/-- R168: a frame that completes while ANSWERING is held when the buffer is empty, and discarded otherwise. -/
def State.holdFrame (f : Frame) (s : State) : State :=
  if s.host.holding.isNone then s.setHost { s.host with holding := some f } else s

/-- R168: a complete frame is taken when the host link is IDLE, and held or discarded while it is ANSWERING. -/
def State.offerFrame (f : Frame) (s : State) : State :=
  match s.host.phase with
  | .idle => s.takeFrame f
  | .answering => s.holdFrame f

/-- R168: the frame of a request is offered by the receiver, complete: taken, held or discarded (log 4). -/
def State.offerRequest (tag : Byte) (r : Request) (s : State) : State :=
  match s.host.phase with
  | .idle => s.takeRequest tag r
  | .answering => s.holdFrame { code := r.code, tag, payload := r.payload }

/-! ### The receiver (R167) -/

/-- R167: whether a length byte is 2 to 242. -/
def lengthFits (b : Byte) : Bool := within 2 242 b.toNat

/-- 12.1: the frame that a length byte and the bytes after it make, if its CRC is right. -/
def frameOf (bytes : List Byte) : Option Frame :=
  match bytes with
  | len :: code :: tag :: rest =>
    let payload := rest.take (len.toNat - 2)
    if rest.drop (len.toNat - 2) = halfBytes (crc16 (len :: code :: tag :: payload)) then some { code, tag, payload }
    else none
  | _ => none

/-- The state with another receiver. -/
def State.setReceiver (r : Receiver) (s : State) : State := s.setHost { s.host with receiver := r }

/-- R167: a byte taken while COLLECTING, after the bytes so far. -/
def State.collect (bytes : List Byte) (b : Byte) (s : State) : State :=
  match bytes with
  | [] => s.setReceiver (if lengthFits b then .collecting [b] else .hunting)
  | len :: _ =>
    let all := bytes ++ [b]
    if all.length < len.toNat + 3 then s.setReceiver (.collecting all)
    else
      match frameOf all with
      | none => s.setReceiver .hunting
      | some f => (s.setReceiver .hunting).offerFrame f

/-- HOST_BYTE_RECEIVED (R167). -/
def execHostByteReceived (byte : Byte) (s : State) : Host.Outcome State Fault Refusal :=
  .next <|
    match s.host.receiver with
    | .hunting => if byte = 0xB6#8 then s.setReceiver (.collecting []) else s
    | .collecting bytes => s.collect bytes byte

/-- RECEIVE_GAP_TIMEOUT (R167): a partial frame is discarded. -/
def execReceiveGapTimeout (s : State) : Host.Outcome State Fault Refusal := .next (s.setReceiver .hunting)

/-- REPLY_SENT (R168): a held frame is taken, or the host link becomes IDLE. -/
def execReplySent (s : State) : Host.Outcome State Fault Refusal :=
  .next <|
    match s.host.phase with
    | .idle => s
    | .answering =>
      match s.host.holding with
      | none => s.setHost { s.host with phase := .idle, reply := none }
      | some f => (s.setHost { s.host with phase := .idle, reply := none, holding := none }).takeFrame f

/-! ### The request rows: each is the frame of its request, offered complete (log 4) -/

/-- PART_STATUS (R172). -/
def execPartStatus (tag : Byte) (s : State) : Host.Outcome State Fault Refusal := .next (s.offerRequest tag .partStatus)

/-- PART_RESTART (R171). -/
def execPartRestart (tag : Byte) (s : State) : Host.Outcome State Fault Refusal := .next (s.offerRequest tag .partRestart)

/-- PART_PROTECT (R153). -/
def execPartProtect (tag level hold : Byte) (s : State) : Host.Outcome State Fault Refusal :=
  .next (s.offerRequest tag (.partProtect level hold))

/-- PART_RELEASE (R138). -/
def execPartRelease (tag : Byte) (s : State) : Host.Outcome State Fault Refusal := .next (s.offerRequest tag .partRelease)

/-- NOTE_TAKE (R175). -/
def execNoteTake (tag : Byte) (s : State) : Host.Outcome State Fault Refusal := .next (s.offerRequest tag .noteTake)

/-- CLOCK_SET (R96). -/
def execClockSet (tag day : Byte) (minute : Half) (second mark weekday : Byte) (s : State) :
    Host.Outcome State Fault Refusal := .next (s.offerRequest tag (.clockSet day minute second mark weekday))

/-- CLOCK_GET (R98). -/
def execClockGet (tag : Byte) (s : State) : Host.Outcome State Fault Refusal := .next (s.offerRequest tag .clockGet)

/-- UNIT_PUT (R141). -/
def execUnitPut (tag unit : Byte) (pairs : List (Byte × Half)) (s : State) : Host.Outcome State Fault Refusal :=
  .next (s.offerRequest tag (.unitPut unit pairs))

/-- UNIT_GET (R143). -/
def execUnitGet (tag unit selector : Byte) (s : State) : Host.Outcome State Fault Refusal :=
  .next (s.offerRequest tag (.unitGet unit selector))

/-- UNIT_BIND (R145). -/
def execUnitBind (tag unit zone : Byte) (s : State) : Host.Outcome State Fault Refusal :=
  .next (s.offerRequest tag (.unitBind unit zone))

/-- UNIT_FREE (R148). -/
def execUnitFree (tag unit : Byte) (s : State) : Host.Outcome State Fault Refusal :=
  .next (s.offerRequest tag (.unitFree unit))

/-- UNIT_REFRESH (R149). -/
def execUnitRefresh (tag unit : Byte) (s : State) : Host.Outcome State Fault Refusal :=
  .next (s.offerRequest tag (.unitRefresh unit))

/-- UNIT_READINGS (R151). -/
def execUnitReadings (tag unit : Byte) (s : State) : Host.Outcome State Fault Refusal :=
  .next (s.offerRequest tag (.unitReadings unit))

/-- STAGE_GET (R20). -/
def execStageGet (tag unit : Byte) (s : State) : Host.Outcome State Fault Refusal :=
  .next (s.offerRequest tag (.stageGet unit))

/-- STAGE_UNLOCK (R18). -/
def execStageUnlock (tag unit stage : Byte) (s : State) : Host.Outcome State Fault Refusal :=
  .next (s.offerRequest tag (.stageUnlock unit stage))

/-- QUEUE_GET (R40). -/
def execQueueGet (tag first : Byte) (s : State) : Host.Outcome State Fault Refusal :=
  .next (s.offerRequest tag (.queueGet first))

/-- ZONE_PUT (R69). -/
def execZonePut (tag zone flag : Byte) (fields : ZoneFields) (s : State) : Host.Outcome State Fault Refusal :=
  .next (s.offerRequest tag (.zonePut zone flag fields))

/-- ZONE_GET (R70). -/
def execZoneGet (tag zone : Byte) (s : State) : Host.Outcome State Fault Refusal :=
  .next (s.offerRequest tag (.zoneGet zone))

/-- ZONE_OVERRIDE (R88). -/
def execZoneOverride (tag zone : Byte) (duration cool heat : Half) (modeForce occForce : Option Byte) (s : State) :
    Host.Outcome State Fault Refusal :=
  .next (s.offerRequest tag (.zoneOverride zone duration cool heat modeForce occForce))

/-- SCHED_WINDOW (R101). -/
def execSchedWindow (tag day zLo zHi sLo sHi order direction mask compare occupancy : Byte) (s : State) :
    Host.Outcome State Fault Refusal :=
  .next (s.offerRequest tag (.schedWindow day zLo zHi sLo sHi order direction mask compare occupancy))

/-- SCHED_FILL (R102). -/
def execSchedFill (tag mask : Byte) (values : List FillValue) (s : State) : Host.Outcome State Fault Refusal :=
  .next (s.offerRequest tag (.schedFill mask values))

/-- SCHED_END (R107). -/
def execSchedEnd (tag : Byte) (s : State) : Host.Outcome State Fault Refusal := .next (s.offerRequest tag .schedEnd)

/-- SCHED_GET (R109). -/
def execSchedGet (tag day zone slot count : Byte) (s : State) : Host.Outcome State Fault Refusal :=
  .next (s.offerRequest tag (.schedGet day zone slot count))

/-- PROFILE_PUT (R111). -/
def execProfilePut (tag profile : Byte) (segments : List (Half × Half)) (s : State) : Host.Outcome State Fault Refusal :=
  .next (s.offerRequest tag (.profilePut profile segments))

/-- PROFILE_GET (R112). -/
def execProfileGet (tag profile : Byte) (s : State) : Host.Outcome State Fault Refusal :=
  .next (s.offerRequest tag (.profileGet profile))

/-- DEMAND_LIMITS (R46). -/
def execDemandLimits (tag : Byte) (ceiling recovery cap length fallback stale spacing : Half) (s : State) :
    Host.Outcome State Fault Refusal :=
  .next (s.offerRequest tag (.demandLimits ceiling recovery cap length fallback stale spacing))

/-- DEMAND_SITE (R48). -/
def execDemandSite (tag : Byte) (load : Word) (s : State) : Host.Outcome State Fault Refusal :=
  .next (s.offerRequest tag (.demandSite load))

/-- DEMAND_GET (R65). -/
def execDemandGet (tag : Byte) (s : State) : Host.Outcome State Fault Refusal := .next (s.offerRequest tag .demandGet)

/-- DEMAND_HISTORY (R64). -/
def execDemandHistory (tag offset count : Byte) (s : State) : Host.Outcome State Fault Refusal :=
  .next (s.offerRequest tag (.demandHistory offset count))

/-- STORE_SAVE (R177). -/
def execStoreSave (tag : Byte) (s : State) : Host.Outcome State Fault Refusal := .next (s.offerRequest tag .storeSave)

/-- STORE_CLEAR (R179). -/
def execStoreClear (tag : Byte) (s : State) : Host.Outcome State Fault Refusal := .next (s.offerRequest tag .storeClear)

/-! ### Part time (R2, R48; log 1) -/

/-- R2: one second for the timers of a stage. -/
def StageRec.tick (r : StageRec) : StageRec :=
  { r with minOn := r.minOn.tick, minOff := r.minOff.tick, proving := r.proving.tick }

/-- R2, R113, R127: one second for the timers of a bound unit. -/
def BoundUnit.tick (b : BoundUnit) : BoundUnit :=
  { b with
    stages := Six.ofFn fun st => (b.stages.get st).map StageRec.tick
    purge := b.purge.tick
    limit := { b.limit with holdOff := b.limit.holdOff.tick } }

/-- R68: one second for the timers of a zone. -/
def Zone.tick (r : Zone) : Zone := { r with changeover := r.changeover.tick, evaluation := r.evaluation.tick }

/-- R48: the site age one second later, saturating. -/
def Meter.tick (m : Meter) : Meter := { m with siteAge := m.siteAge.map fun a => min Config.countMax (a + 1) }

/-- One second of part time: the uptime rises, every running timer counts down, and the site age rises. What becomes due
is taken by the commands for it (log 1 to log 3). -/
def secondPasses (s : State) : State :=
  { s with
    uptime := s.uptime + 1#32
    units := Table.update (fun _ b => b.tick) s.units
    arbiter := { s.arbiter with stagger := s.arbiter.stagger.tick }
    meter := s.meter.tick
    zones := Table.update (fun _ r => r.tick) s.zones }

end Sys2Proof.Machine
end

