-- ==== Sys2Proof/Machine/Dispatch.lean ====
section
/-! DEFINITION. The dispatch: one arm per command, each one call of its meaning. -/

namespace Sys2Proof.Machine

/-- The effect of a command on everything but the queue of waiting commands. -/
def exec (i : Instr) (s : State) : Host.Outcome State Fault Refusal :=
  match i with
  | .powerOn smoke service protect => Sys2Proof.Machine.execPowerOn smoke service protect s
  | .smokeAsserted => Sys2Proof.Machine.execSmokeAsserted s
  | .smokeNegated => Sys2Proof.Machine.execSmokeNegated s
  | .serviceLineChange level => Sys2Proof.Machine.execServiceLineChange level s
  | .protectLineChange level => Sys2Proof.Machine.execProtectLineChange level s
  | .hostByteReceived byte => Sys2Proof.Machine.execHostByteReceived byte s
  | .receiveGapTimeout => Sys2Proof.Machine.execReceiveGapTimeout s
  | .replySent => Sys2Proof.Machine.execReplySent s
  | .partStatus tag => Sys2Proof.Machine.execPartStatus tag s
  | .partRestart tag => Sys2Proof.Machine.execPartRestart tag s
  | .partProtect tag level hold => Sys2Proof.Machine.execPartProtect tag level hold s
  | .partRelease tag => Sys2Proof.Machine.execPartRelease tag s
  | .noteTake tag => Sys2Proof.Machine.execNoteTake tag s
  | .clockSet tag day minute second mark weekday => Sys2Proof.Machine.execClockSet tag day minute second mark weekday s
  | .clockGet tag => Sys2Proof.Machine.execClockGet tag s
  | .unitPut tag unit pairs => Sys2Proof.Machine.execUnitPut tag unit pairs s
  | .unitGet tag unit selector => Sys2Proof.Machine.execUnitGet tag unit selector s
  | .unitBind tag unit zone => Sys2Proof.Machine.execUnitBind tag unit zone s
  | .unitFree tag unit => Sys2Proof.Machine.execUnitFree tag unit s
  | .unitRefresh tag unit => Sys2Proof.Machine.execUnitRefresh tag unit s
  | .unitReadings tag unit => Sys2Proof.Machine.execUnitReadings tag unit s
  | .stageGet tag unit => Sys2Proof.Machine.execStageGet tag unit s
  | .stageUnlock tag unit stage => Sys2Proof.Machine.execStageUnlock tag unit stage s
  | .queueGet tag first => Sys2Proof.Machine.execQueueGet tag first s
  | .zonePut tag zone flag fields => Sys2Proof.Machine.execZonePut tag zone flag fields s
  | .zoneGet tag zone => Sys2Proof.Machine.execZoneGet tag zone s
  | .zoneOverride tag zone duration cool heat modeForce occForce => Sys2Proof.Machine.execZoneOverride tag zone duration cool heat modeForce occForce s
  | .schedWindow tag day zLo zHi sLo sHi order direction mask compare occupancy => Sys2Proof.Machine.execSchedWindow tag day zLo zHi sLo sHi order direction mask compare occupancy s
  | .schedFill tag mask values => Sys2Proof.Machine.execSchedFill tag mask values s
  | .schedEnd tag => Sys2Proof.Machine.execSchedEnd tag s
  | .schedGet tag day zone slot count => Sys2Proof.Machine.execSchedGet tag day zone slot count s
  | .profilePut tag profile segments => Sys2Proof.Machine.execProfilePut tag profile segments s
  | .profileGet tag profile => Sys2Proof.Machine.execProfileGet tag profile s
  | .demandLimits tag ceiling recovery cap length fallback stale spacing => Sys2Proof.Machine.execDemandLimits tag ceiling recovery cap length fallback stale spacing s
  | .demandSite tag load => Sys2Proof.Machine.execDemandSite tag load s
  | .demandGet tag => Sys2Proof.Machine.execDemandGet tag s
  | .demandHistory tag offset count => Sys2Proof.Machine.execDemandHistory tag offset count s
  | .storeSave tag => Sys2Proof.Machine.execStoreSave tag s
  | .storeClear tag => Sys2Proof.Machine.execStoreClear tag s
  | .saveCompletion equal => Sys2Proof.Machine.execSaveCompletion equal s
  | .minOnExpiry unit stage => Sys2Proof.Machine.execMinOnExpiry unit stage s
  | .minOffExpiry unit stage => Sys2Proof.Machine.execMinOffExpiry unit stage s
  | .provingExpiry unit stage => Sys2Proof.Machine.execProvingExpiry unit stage s
  | .tripCountClear unit stage => Sys2Proof.Machine.execTripCountClear unit stage s
  | .staggerExpiry => Sys2Proof.Machine.execStaggerExpiry s
  | .accumulationEvent => Sys2Proof.Machine.execAccumulationEvent s
  | .siteStale => Sys2Proof.Machine.execSiteStale s
  | .zoneEvaluation zone => Sys2Proof.Machine.execZoneEvaluation zone s
  | .changeoverExpiry zone => Sys2Proof.Machine.execChangeoverExpiry zone s
  | .overrideEnd zone => Sys2Proof.Machine.execOverrideEnd zone s
  | .clockTick => Sys2Proof.Machine.execClockTick s
  | .rampStep => Sys2Proof.Machine.execRampStep s
  | .purgeExpiry unit => Sys2Proof.Machine.execPurgeExpiry unit s
  | .holdOffExpiry unit => Sys2Proof.Machine.execHoldOffExpiry unit s
  | .pollCycleStart ms => Sys2Proof.Machine.execPollCycleStart ms s
  | .visitEnd received => Sys2Proof.Machine.execVisitEnd received s
  | .fallbackExpiry unit => Sys2Proof.Machine.execFallbackExpiry unit s

end Sys2Proof.Machine
end

