-- ==== Sys2Proof/Safety.lean ====
section
/-! DEFINITION. What the claims are stated in: the command of a request, a reply, the bytes of a frame arriving, the rules' own
wording of a grant attempt, and the laws of the part. -/

namespace Sys2Proof.Machine

/-! ### Requests and replies -/

/-- The command row of a request with a tag. -/
def requestCommand (tag : Byte) : Request → Instr
  | .partStatus => .partStatus tag
  | .partRestart => .partRestart tag
  | .partProtect level hold => .partProtect tag level hold
  | .partRelease => .partRelease tag
  | .noteTake => .noteTake tag
  | .clockSet day minute second mark weekday => .clockSet tag day minute second mark weekday
  | .clockGet => .clockGet tag
  | .unitPut unit pairs => .unitPut tag unit pairs
  | .unitGet unit selector => .unitGet tag unit selector
  | .unitBind unit zone => .unitBind tag unit zone
  | .unitFree unit => .unitFree tag unit
  | .unitRefresh unit => .unitRefresh tag unit
  | .unitReadings unit => .unitReadings tag unit
  | .stageGet unit => .stageGet tag unit
  | .stageUnlock unit stage => .stageUnlock tag unit stage
  | .queueGet first => .queueGet tag first
  | .zonePut zone flag fields => .zonePut tag zone flag fields
  | .zoneGet zone => .zoneGet tag zone
  | .zoneOverride zone duration cool heat modeForce occForce => .zoneOverride tag zone duration cool heat modeForce occForce
  | .schedWindow day zLo zHi sLo sHi order direction mask compare occupancy =>
    .schedWindow tag day zLo zHi sLo sHi order direction mask compare occupancy
  | .schedFill mask values => .schedFill tag mask values
  | .schedEnd => .schedEnd tag
  | .schedGet day zone slot count => .schedGet tag day zone slot count
  | .profilePut profile segments => .profilePut tag profile segments
  | .profileGet profile => .profileGet tag profile
  | .demandLimits ceiling recovery cap length fallback stale spacing =>
    .demandLimits tag ceiling recovery cap length fallback stale spacing
  | .demandSite load => .demandSite tag load
  | .demandGet => .demandGet tag
  | .demandHistory offset count => .demandHistory tag offset count
  | .storeSave => .storeSave tag
  | .storeClear => .storeClear tag

/-- R169: the state while the reply with a result and a payload to the request `code`, `tag` is being sent. -/
def State.answering (code tag : Byte) (result : Result) (payload : List Byte) (s : State) : State :=
  { s with
    host := { s.host with phase := .answering, reply := some { code := code ||| 0x80#8, tag, result, payload } } }

/-- The part after the bytes arrive one after another on the host link. -/
def receiveAll : List Byte → State → Host.Outcome State Fault Refusal
  | [], s => .next s
  | b :: bs, s =>
    match exec (.hostByteReceived b) s with
    | .next t => receiveAll bs t
    | o => o

/-- R137: the requests served in SHUTDOWN, as the rule's first row lists them. -/
def servedInShutdown : Request → Bool
  | .partStatus | .partRelease | .noteTake | .clockSet .. | .clockGet | .unitGet .. | .unitReadings .. | .stageGet ..
  | .queueGet .. | .zoneGet .. | .schedGet .. | .profileGet .. | .demandSite .. | .demandGet | .demandHistory .. => true
  | .partRestart | .partProtect .. | .unitPut .. | .unitBind .. | .unitFree .. | .unitRefresh .. | .stageUnlock ..
  | .zonePut .. | .zoneOverride .. | .schedWindow .. | .schedFill .. | .schedEnd | .profilePut .. | .demandLimits ..
  | .storeSave | .storeClear => false

/-- 12.3: the 31 request codes. -/
def Rule.requestCodes : List Byte :=
  [0x01, 0x02, 0x03, 0x04, 0x05, 0x06, 0x07, 0x10, 0x11, 0x12, 0x13, 0x14, 0x15, 0x18, 0x19, 0x1A, 0x20, 0x21, 0x22, 0x28,
    0x29, 0x2A, 0x2B, 0x30, 0x31, 0x38, 0x39, 0x3A, 0x3B, 0x40, 0x41]

/-- R169, R170: a code and a payload that make no request, with the result of the check that refuses them: UNKNOWN where the
code is none of the 31, MALFORMED where the payload is that of no request with the code. -/
def Rule.FrameRefused (code : Byte) (payload : List Byte) (why : Result) : Prop :=
  (code ∉ Rule.requestCodes ∧ why = .unknown) ∨
    (code ∈ Rule.requestCodes ∧ (∀ r : Request, r.wellFormed = true → r.code = code → r.payload ≠ payload) ∧
      why = .malformed)

/-! ### Descriptors field by field (R140) -/

/-- R140: the field identifiers with their ranges, as its table lists them. -/
def Rule.fieldBounds : List (Nat × Nat × Nat) :=
  [(0, 0, 1), (1, 1, 31), (2, 0, 2), (3, 0, 4), (4, 0, 2), (5, 0, 9999), (6, 0, 9999), (7, 0, 9999), (8, 0, 9999),
    (9, 0, 9999), (10, 0, 9999), (11, 0, 999), (12, 60, 1200), (13, 120, 1800), (14, 10, 300), (15, 150, 1000)] ++
  [(16, 0, 8), (17, 0, 8), (18, 0, 8), (19, 100, 600), (20, 0, 1), (21, 200, 1000), (22, 0, 500), (23, 1, 4),
    (24, 50, 300), (25, 0, 1), (26, 30, 600), (27, 1, 5), (28, 0, 600)]

/-- R140, R141: a pair whose identifier names a field and whose value lies in the field's range. -/
def Rule.PairFits (p : Byte × Half) : Prop :=
  ∃ lo hi, (p.1.toNat, lo, hi) ∈ Rule.fieldBounds ∧ lo ≤ p.2.toNat ∧ p.2.toNat ≤ hi

/-- R140: a pair that names a safety field, one marked (S). -/
def Rule.NamesSafety (p : Byte × Half) : Prop :=
  5 ≤ p.1.toNat ∧ p.1.toNat ≤ 15 ∨ p.1.toNat = 19 ∨ 26 ≤ p.1.toNat ∧ p.1.toNat ≤ 28

/-- R140: the value of the field with an identifier, enumerations and flags as their codes. -/
def fieldOf (d : Descriptor) : Nat → Nat
  | 1 => d.busAddress
  | 2 => d.kind.toCode
  | 3 => d.coolCount
  | 4 => d.heatCount
  | 5 => d.loads.c1
  | 6 => d.loads.c2
  | 7 => d.loads.c3
  | 8 => d.loads.c4
  | 9 => d.loads.h1
  | 10 => d.loads.h2
  | 11 => d.fanLoad
  | 12 => d.minOn
  | 13 => d.minOff
  | 14 => d.provingTime
  | 15 => d.proofLevel
  | 16 => d.fanProfile
  | 17 => d.damperProfile
  | 18 => d.gasProfile
  | 19 => d.gasLowFire
  | 20 => if d.econPresent then 1 else 0
  | 21 => d.econPosition
  | 22 => d.minVent
  | 23 => d.softCount
  | 24 => d.gasBackoff
  | 25 => d.smokeAction.toCode
  | 26 => d.fallbackTime
  | 27 => d.lockoutCount
  | 28 => d.purgeTime
  | _ => 0

/-- R140: the column of defaults, with the unit's index; enumerations and flags as their codes. -/
def Rule.fieldDefault (unit : Nat) : Nat → Nat
  | 1 => unit
  | 3 => 1
  | 5 | 6 | 7 | 8 | 9 | 10 => 100
  | 11 => 50
  | 12 => 180
  | 13 => 300
  | 14 => 60
  | 15 => 300
  | 19 => 300
  | 21 => 700
  | 22 => 150
  | 23 => 1
  | 24 => 100
  | 26 => 120
  | 27 => 3
  | 28 => 60
  | _ => 0

/-! ### The common checks (R170, R152, R154) -/

/-- R141, R102, R111: counts and masks that the three requests' own rules refuse MALFORMED. -/
def Rule.CountsMalformed : Request → Prop
  | .unitPut _ pairs => ¬(1 ≤ pairs.length ∧ pairs.length ≤ 40)
  | .schedFill mask values => ¬(1 ≤ values.length ∧ values.length ≤ 16) ∨ mask = 0#8
  | .profilePut _ segments => 8 < segments.length
  | .partStatus | .partRestart | .partProtect .. | .partRelease | .noteTake | .clockSet .. | .clockGet
  | .unitGet .. | .unitBind .. | .unitFree .. | .unitRefresh .. | .unitReadings .. | .stageGet ..
  | .stageUnlock .. | .queueGet .. | .zonePut .. | .zoneGet .. | .zoneOverride .. | .schedWindow .. | .schedEnd
  | .schedGet .. | .profileGet .. | .demandLimits .. | .demandSite .. | .demandGet | .demandHistory ..
  | .storeSave | .storeClear => False

/-- R154, R170: the service-only requests. -/
def Rule.ServiceOnly : Request → Prop
  | .partProtect .. | .storeClear | .profilePut .. | .stageUnlock .. => True
  | .unitPut _ pairs => ∃ p ∈ pairs, Rule.NamesSafety p
  | .partStatus | .partRestart | .partRelease | .noteTake | .clockSet .. | .clockGet | .unitGet ..
  | .unitBind .. | .unitFree .. | .unitRefresh .. | .unitReadings .. | .stageGet .. | .queueGet .. | .zonePut ..
  | .zoneGet .. | .zoneOverride .. | .schedWindow .. | .schedFill .. | .schedEnd | .schedGet .. | .profileGet ..
  | .demandLimits .. | .demandSite .. | .demandGet | .demandHistory .. | .storeSave => False

/-- R170: the table-changing requests. -/
def Rule.TableChanging : Request → Prop
  | .unitPut .. | .unitBind .. | .unitFree .. | .unitRefresh .. | .zonePut .. | .schedWindow .. | .schedFill ..
  | .profilePut .. | .demandLimits .. | .partProtect .. | .storeSave | .storeClear => True
  | .partStatus | .partRestart | .partRelease | .noteTake | .clockSet .. | .clockGet | .unitGet ..
  | .unitReadings .. | .stageGet .. | .stageUnlock .. | .queueGet .. | .zoneGet .. | .zoneOverride ..
  | .schedEnd | .schedGet .. | .profileGet .. | .demandSite .. | .demandGet | .demandHistory .. => False

/-- R152: the requests that a protect level refuses, as its table lists them. -/
def Rule.Locked (level : Nat) : Request → Prop
  | .unitPut _ pairs => (1 ≤ level ∧ ∃ p ∈ pairs, Rule.NamesSafety p) ∨ 2 ≤ level
  | .profilePut .. | .zonePut .. | .unitBind .. | .unitFree .. | .unitRefresh .. => 2 ≤ level
  | .demandLimits .. | .schedWindow .. | .schedFill .. => 3 ≤ level
  | .partStatus | .partRestart | .partProtect .. | .partRelease | .noteTake | .clockSet .. | .clockGet
  | .unitGet .. | .unitReadings .. | .stageGet .. | .stageUnlock .. | .queueGet .. | .zoneGet ..
  | .zoneOverride .. | .schedEnd | .schedGet .. | .profileGet .. | .demandSite .. | .demandGet
  | .demandHistory .. | .storeSave | .storeClear => False

/-- R170: the common checks of a request after UNKNOWN, each with its result, in the order of the table. -/
def Rule.commonChecks (s : State) (r : Request) : List (Result × Prop) :=
  [(.malformed, Rule.CountsMalformed r), (.service, Rule.ServiceOnly r ∧ s.host.service = false),
    (.halted, s.host.run = .shutdown ∧ servedInShutdown r = false),
    (.busy, Rule.TableChanging r ∧ s.store.saving = true), (.locked, Rule.Locked s.table.level r)]

/-! ### Binding (R144 to R146) -/

/-- R144: whether a descriptor may become an active copy. -/
def FitsBinding (profiles : Table (List Segment)) (d : Descriptor) : Prop :=
  (d.kind = .coolOnly ↔ d.heatCount = 0) ∧
    ∀ k, (k = d.fanProfile ∨ k = d.damperProfile ∨ k = d.gasProfile) → k ≠ 0 → (Table.find k profiles).isSome = true

/-- R144: the first field that keeps a descriptor from becoming an active copy: 4, then 16, 17 and 18. -/
def Rule.Misfit (profiles : Table (List Segment)) (d : Descriptor) (id : Nat) : Prop :=
  (id = 4 ∧ ¬(d.kind = .coolOnly ↔ d.heatCount = 0)) ∨
    ((d.kind = .coolOnly ↔ d.heatCount = 0) ∧
      ((id = 16 ∧ d.fanProfile ≠ 0 ∧ Table.find d.fanProfile profiles = none) ∨
        ((d.fanProfile = 0 ∨ Table.find d.fanProfile profiles ≠ none) ∧
          ((id = 17 ∧ d.damperProfile ≠ 0 ∧ Table.find d.damperProfile profiles = none) ∨
            ((d.damperProfile = 0 ∨ Table.find d.damperProfile profiles ≠ none) ∧
              id = 18 ∧ d.gasProfile ≠ 0 ∧ Table.find d.gasProfile profiles = none)))))

/-- R145, R149: whether no other bound unit has a bus address in its active copy. -/
def AddressFree (s : State) (u address : Nat) : Prop := ∀ p ∈ s.units, p.1 ≠ u → p.2.copy.busAddress ≠ address

/-- R145: the state in which every check of the table from INDEX onward passes for a unit, a zone and a stored descriptor. -/
def Rule.Bindable (s : State) (u z : Nat) (d : Descriptor) : Prop :=
  1 ≤ u ∧ u ≤ 24 ∧ z ≤ 12 ∧ Table.find u s.table.descriptors = some d ∧ s.unit u = none ∧
    (z ≠ 0 → ∃ r, s.zone z = some r ∧ r.units.length < 4) ∧ FitsBinding s.profiles d ∧ AddressFree s u d.busAddress

/-- R145: the first check that fails, in the order of the table, and the field that a RANGE names. -/
def Rule.BindRefused (s : State) (u z : Nat) (why : Result) (field : Option Nat) : Prop :=
  (¬(1 ≤ u ∧ u ≤ 24 ∧ z ≤ 12) → why = .index ∧ field = none) ∧
    (1 ≤ u → u ≤ 24 → z ≤ 12 →
      (Table.find u s.table.descriptors = none ∨ (z ≠ 0 ∧ s.zone z = none) → why = .absent ∧ field = none) ∧
      ∀ d, Table.find u s.table.descriptors = some d → (z ≠ 0 → s.zone z ≠ none) →
        (s.unit u ≠ none → why = .taken ∧ field = none) ∧
        (s.unit u = none →
          ((∃ r, z ≠ 0 ∧ s.zone z = some r ∧ 4 ≤ r.units.length) → why = .full ∧ field = none) ∧
          ((∀ r, z ≠ 0 → s.zone z = some r → r.units.length < 4) →
            (∀ id, Rule.Misfit s.profiles d id → why = .range ∧ field = some id) ∧
            (FitsBinding s.profiles d → ¬AddressFree s u d.busAddress → why = .conflict ∧ field = none))))

/-! ### Stops and records (R13, R16) -/

/-- R13: what every stop of a stage that is on leaves in its record. -/
def StopRecorded (now : Word) (cause : StopCause) (r r' : StageRec) : Prop :=
  r'.lastStop = some now ∧ r'.lastCause = some cause ∧ r'.lastStart = r.lastStart ∧ r'.starts = r.starts ∧
    ∀ start, r.lastStart = some start →
      r'.lastRun = some (now - start) ∧
        r'.runtime = min 16777215 (r.runtime + (r.carry + (now - start).toNat) / 60) ∧
        r'.carry = (r.carry + (now - start).toNat) % 60

/-- R9 to R13, R16: a stage that has gone to REST at a stop, with its min-off timer started and its run recorded. -/
def StoppedToRest (d : Descriptor) (now : Word) (cause : StopCause) (r r' : StageRec) : Prop :=
  r'.state = .rest ∧ r'.minOff = .running d.minOff ∧ StopRecorded now cause r r'

/-- R9, R10: what a stop that is not immediate leaves as it was in a stage record. DEDUCED (log 10): that a PROVING stage keeps
its min-on timer and its proof overdue is read from R2, "Each timer is cancelled at the transitions that the following rules
name"; R9 names the proving timer alone. -/
def MarksKept (r r' : StageRec) : Prop :=
  r'.minOn = r.minOn ∧ r'.overdue = r.overdue ∧ r'.trips = r.trips ∧ r'.pendingCause = r.pendingCause

/-- R12: a stage that was on after an immediate stop that is no trip: in REST with its run recorded, its min-on and proving
timers cancelled, its pending cause absent and its proof overdue no; the trip count stays. -/
def StoppedAtOnce (d : Descriptor) (now : Word) (cause : StopCause) (r r' : StageRec) : Prop :=
  StoppedToRest d now cause r r' ∧ r'.trips = r.trips ∧ r'.minOn = .stopped ∧ r'.proving = .stopped ∧ r'.overdue = false ∧
    r'.pendingCause = none

/-- R14: a stage that has tripped: in LOCKOUT when its count reached the lockout count, in REST with a full min-off
otherwise; its min-on and proving timers stopped either way. -/
def Tripped (d : Descriptor) (now : Word) (cause : StopCause) (r r' : StageRec) : Prop :=
  StopRecorded now cause r r' ∧ r'.trips = r.trips + 1 ∧ r'.minOn = .stopped ∧ r'.proving = .stopped ∧
    r'.overdue = false ∧ r'.pendingCause = none ∧
    if d.lockoutCount ≤ r.trips + 1 then r'.state = .lockout ∧ r'.minOff = .stopped
    else r'.state = .rest ∧ r'.minOff = .running d.minOff

/-- R87, R122: the gas channel of a unit after an event that took heat stages into or out of the on set (`heat`), with the gas
reduction before it: a modulating unit of a zone has its target derived again, one that becomes 0 closes the valve and clears
the reduction, and a target that stays 0 has nothing to close. Any other gas channel stays. -/
def GasFollows (heat : Prop) (reduction : Nat) (b b' : BoundUnit) : Prop :=
  b'.gas.profile = b.gas.profile ∧
    (heat ∧ b.copy.kind = .modulatingGas ∧ b.zone ≠ 0 →
      b'.gas.target = (if b'.isOn .h2 then 1000 else if b'.isOn .h1 then b.copy.gasLowFire else 0) ∧
        (b'.gas.target = 0 → b.gas.target ≠ 0 → b'.gas.position = 0 ∧ b'.gasReduction = 0) ∧
        (b'.gas.target ≠ 0 → b'.gas.position = b.gas.position ∧ b'.gasReduction = reduction)) ∧
    (¬(heat ∧ b.copy.kind = .modulatingGas ∧ b.zone ≠ 0) → b'.gas = b.gas ∧ b'.gasReduction = reduction)

/-- Whether a heat stage is on in one of two states of a unit and not in the other. -/
def HeatMoved (b b' : BoundUnit) : Prop := b'.isOn .h1 ≠ b.isOn .h1 ∨ b'.isOn .h2 ≠ b.isOn .h2

/-- R119: the purge timer after stops with a cause: it runs once no stage of the unit is on, except in SHUTDOWN, for SHUTDOWN
or with a purge time of 0. -/
def PurgeFollows (run : RunState) (cause : StopCause) (b b' : BoundUnit) : Prop :=
  b'.purge = if b.anyOn = true ∧ b'.anyOn = false ∧ run = .normal ∧ cause ≠ .shutdown ∧ 0 < b.copy.purgeTime then
    .running b.copy.purgeTime else b.purge

/-- What else a stop of a stage that was on leaves in its unit (R119, R87, R122); nothing else changes but the stages. -/
def StopFollows (run : RunState) (cause : StopCause) (b b' : BoundUnit) : Prop :=
  b' = { b with stages := b'.stages, purge := b'.purge, gas := b'.gas, gasReduction := b'.gasReduction } ∧
    PurgeFollows run cause b b' ∧ GasFollows (HeatMoved b b') b.gasReduction b b'

/-- A state in which one bound unit has changed and nothing else has. -/
def OnlyUnit (u : Nat) (b' : BoundUnit) (s t : State) : Prop :=
  t = { s with units := t.units } ∧ ∀ v, t.unit v = if v = u then some b' else s.unit v

/-- A state in which one zone has changed and nothing else has. -/
def OnlyZone (z : Nat) (r' : Zone) (s t : State) : Prop :=
  t = { s with zones := t.zones } ∧ ∀ y, t.zone y = if y = z then some r' else s.zone y

/-- R173, R174: the host link after one notice is raised: the notice is held, or dropped when 32 are held. -/
def noting (s : State) (kind : NoticeKind) (unit : Option Nat) (stage : Option StageName) (zone : Option Nat)
    (value : Option Int) : HostLink :=
  { s.host with
    notices := if s.host.notices.length < 32 then
      s.host.notices ++ [{ kind, uptime := s.uptime, time := s.schedule.clock.time, unit, stage, zone, value }]
      else s.host.notices
    note := if s.host.notices.length < 32 then true else s.host.note
    dropped := if s.host.notices.length < 32 then s.host.dropped else true }

/-- R21, R22: a stage record as it is made, with its counters. -/
def FreshStage (d : Descriptor) (counters : Nat × Nat) (r : StageRec) : Prop :=
  r = { state := .rest, minOn := .stopped, minOff := .running d.minOff, proving := .stopped, overdue := false, trips := 0,
        pendingCause := none, lastCause := none, lastStart := none, lastStop := none, lastRun := none,
        starts := counters.1, runtime := counters.2, carry := 0 }

/-- R146, R127, R147, R113: a bound unit as it is made at a binding, with the counters of its stages; `target` is 0, or 1000 for
a unit that takes FAN_PURGE as it is made (R121). -/
def FreshUnit (target z : Nat) (d : Descriptor) (counters : StageName → Nat × Nat) (b : BoundUnit) : Prop :=
  b = {
    zone := z, copy := d
    live := { link := .unknown, lastGood := none, space := none, discharge := none, outdoor := none, running := noStages,
              unexpected := noStages }
    limit := { coolLimited := false, heatLimited := false, coilLow := false, headHigh := false, datHigh := false,
               holdOff := .stopped, trips := noStages, flameFail := false, fanFail := false }
    stages := b.stages
    fan := { position := 0, target, profile := d.fanProfile }
    damper := { position := 0, target, profile := d.damperProfile }
    gas := { position := 0, target := 0, profile := d.gasProfile }
    purge := .stopped, fanHold := false, gasReduction := 0, lostOn := noStages, misses := 0, fallbackTaken := false } ∧
    ∀ st, if d.names st = true then ∃ r, b.stages.get st = some r ∧ FreshStage d (counters st) r
      else b.stages.get st = none

/-- R146: what a binding makes of a state: the unit, and its place at the end of its zone's list. -/
def Rule.Bound (target u z : Nat) (d : Descriptor) (counters : StageName → Nat × Nat) (s t : State) : Prop :=
  t = { s with units := t.units, zones := t.zones } ∧ (∃ b, t.unit u = some b ∧ FreshUnit target z d counters b) ∧
    (∀ v, v ≠ u → t.unit v = s.unit v) ∧
    ∀ y, t.zone y = (s.zone y).map fun r => if y = z then { r with units := r.units ++ [u] } else r

/-- R180, R145, R121: the stored bindings re-made one by one: one that passes R145's checks is made, with its smoke action in
SHUTDOWN and its saved counters; one that fails is dropped with a BIND_DROPPED notice whose value is the code of the check. -/
def Rule.Remade : List (Nat × SavedBinding) → State → State → Prop
  | [], s, t => t = s
  | (u, saved) :: rest, s, t => ∃ m, Rule.Remade rest m t ∧
      (∀ d, Rule.Bindable s u saved.zone d →
        Rule.Bound (if s.host.run = .shutdown ∧ d.smokeAction = .fanPurge then 1000 else 0) u saved.zone d
          (fun st => (saved.counters.get st).getD (0, 0)) s m) ∧
      ((∀ d, ¬Rule.Bindable s u saved.zone d) → ∃ why field, Rule.BindRefused s u saved.zone why field ∧
        m = { s with
          host := noting s .bindDropped (some u) none (if saved.zone = 0 then none else some saved.zone)
            (some (why.toCode : Int)) })

/-! ### Load, ceiling and the tests (R50 to R60) -/

/-- R50, R51: the load of every fan at its present position. -/
def Rule.fanLoads (s : State) : Nat :=
  (s.units.map fun p =>
    p.2.fan.position * p.2.fan.position / 1000 * p.2.fan.position / 1000 * p.2.copy.fanLoad / 1000).sum

/-- R50: P_hvac: the stages that count, each at most once, and the fans. -/
def Rule.hvacLoad (s : State) : Nat :=
  (s.units.map fun p => ([StageName.c1, .c2, .c3, .c4, .h1, .h2].map fun st =>
    if (if p.2.live.link = .lost then p.2.lostOn.get st
        else p.2.isOn st || (decide (p.2.live.link = .online) && p.2.live.unexpected.get st)) then p.2.copy.loads.get st
    else 0).sum).sum + Rule.fanLoads s

/-- R53: the present load P. -/
def Rule.presentLoad (s : State) : Nat := min 65535 (s.meter.siteLoad + Rule.hvacLoad s)

/-- R59, R74: the number of defined zones whose effective occupancy is RECOVERY. -/
def Rule.recoveryZones (s : State) : Nat :=
  (s.zones.filter fun p =>
    decide ((p.2.forced.bind Override.occForce).getD p.2.cell.occupancy = .recovery)).length

/-- R59: the ceiling in force. -/
def Rule.ceiling (s : State) : Nat :=
  if 0 < Rule.recoveryZones s then s.meter.limits.recovery else s.meter.limits.ceiling

/-- R60: P + k, saturated at 65,535. -/
def Rule.loadWith (s : State) (k : Nat) : Nat := min 65535 (Rule.presentLoad s + k)

/-- R60: the projection test fails: E + (P + k) × r is above C × T_eff. -/
def Rule.projectionFails (s : State) (k : Nat) : Bool :=
  decide (Rule.ceiling s * s.meter.interval.effective < s.meter.interval.energy +
    Rule.loadWith s k * (s.meter.interval.effective - s.meter.interval.elapsed))

/-- R60: the instant test fails: P + k is above Ci. -/
def Rule.instantFails (s : State) (k : Nat) : Bool := decide (s.meter.limits.cap < Rule.loadWith s k)

/-! ### A grant attempt in the words of R36 to R39 -/

/-- R36: the unit of an entry is soft-limited in the stage's mode. -/
def Rule.Soft (e : Entry) (b : BoundUnit) : Prop :=
  (isHeat e.stage = true ∧ b.limit.heatLimited = true) ∨ (isHeat e.stage = false ∧ b.limit.coolLimited = true)

/-- R36: an entry is skipped for a reason: that condition holds and none before it in the table does. -/
def Rule.Skips (s : State) (e : Entry) (why : SkipReason) : Prop :=
  ∃ b, s.unit e.unit = some b ∧
    match why with
    | .link => b.live.link ≠ .online
    | .soft => b.live.link = .online ∧ Rule.Soft e b
    | .airflow => b.live.link = .online ∧ ¬Rule.Soft e b ∧ b.fan.position < b.copy.proofLevel
    | .stagger => b.live.link = .online ∧ ¬Rule.Soft e b ∧ b.copy.proofLevel ≤ b.fan.position ∧ e.compressor = true ∧
        s.arbiter.stagger ≠ .stopped

/-- R36: an entry that no condition skips. -/
def Rule.Candidate (s : State) (e : Entry) : Prop :=
  ∃ b, s.unit e.unit = some b ∧ b.live.link = .online ∧ ¬Rule.Soft e b ∧ b.copy.proofLevel ≤ b.fan.position ∧
    (e.compressor = true → s.arbiter.stagger = .stopped)

/-- R36, R37, R39: `t` is what a grant attempt may leave of `s`. The entries before the candidate are all skipped; the
candidate is granted when both tests of R60 pass, and otherwise nothing but the attempt record changes. -/
def AttemptResult (cause : AttemptCause) (s t : State) : Prop :=
  ∃ (skipped : List Entry) (firstSkip : Option SkipReason),
    (∀ e ∈ skipped, ∃ why, Rule.Skips s e why) ∧ (skipped = [] → firstSkip = none) ∧
      (∀ e rest, skipped = e :: rest → ∃ why, firstSkip = some why ∧ Rule.Skips s e why) ∧
      ((s.arbiter.queue = skipped ∧
          t = { s with arbiter := { s.arbiter with attempt := some {
            uptime := s.uptime, cause, outcome := .none, candidate := none, failed := none,
            skipped := skipped.length, firstSkip } } }) ∨
        ∃ e behind, s.arbiter.queue = skipped ++ e :: behind ∧ Rule.Candidate s e ∧
          if Rule.projectionFails s e.load || Rule.instantFails s e.load then
            t = { s with arbiter := { s.arbiter with attempt := some {
              uptime := s.uptime, cause, outcome := .blocked, candidate := some (e.unit, e.stage),
              failed := some (Rule.projectionFails s e.load, Rule.instantFails s e.load), skipped := skipped.length,
              firstSkip } } }
          else
            t = { s with
              units := t.units
              arbiter := { s.arbiter with
                queue := s.arbiter.queue.filter fun f => !(f.unit == e.unit && f.stage == e.stage)
                stagger := if e.compressor then .running s.meter.limits.spacing else s.arbiter.stagger
                attempt := some {
                  uptime := s.uptime, cause, outcome := .granted, candidate := some (e.unit, e.stage), failed := none,
                  skipped := skipped.length, firstSkip } } } ∧
              (∀ u, u ≠ e.unit → t.unit u = s.unit u) ∧
              ∀ b r, s.unit e.unit = some b → b.stages.get e.stage = some r → r.state = .queued →
                ∃ b', t.unit e.unit = some b' ∧
                  b'.stages = b.stages.set e.stage (some { r with
                    state := .proving, minOn := .running b.copy.minOn, proving := .running b.copy.provingTime,
                    overdue := false, starts := (r.starts + 1) % 16777216, lastStart := some s.uptime }) ∧
                  b' = { b with stages := b'.stages, purge := .stopped, gas := b'.gas, gasReduction := b'.gasReduction } ∧
                  GasFollows (isHeat e.stage = true) b.gasReduction b b')

/-! ### Zones (R67, R68, R75, R79, R82, R84) -/

/-- R67: the value of a field of ZONE.PUT by its number. -/
def Rule.zoneField (f : ZoneFields) : Nat → Int
  | 1 => f.priority.toNat
  | 2 => f.period.toNat
  | 3 => f.modeDiff.toNat
  | 4 => f.stageDiff.toNat
  | 5 => f.deadband.toNat
  | 6 => f.upDelay.toNat
  | 7 => f.downDelay.toNat
  | 8 => f.changeover.toNat
  | 9 => f.econEnable.toNat
  | 10 => f.econLimit.toInt
  | 11 => f.occFan.toNat
  | 12 => f.fbOccupancy.toNat
  | 13 => f.fbCool.toInt
  | 14 => f.fbHeat.toInt
  | _ => f.staleTime.toNat

/-- R67: the fields of a zone record with their ranges, as its table lists them. -/
def Rule.zoneBounds : List (Nat × Int × Int) :=
  [(1, 0, 3), (2, 5, 60), (3, 2, 30), (4, 3, 50), (5, 5, 50), (6, 60, 1800), (7, 30, 900), (8, 120, 1800), (9, 0, 1),
    (10, 50, 250), (11, 200, 1000), (12, 0, 2), (13, 100, 350), (14, 100, 350), (15, 60, 900)]

/-- R67, R69: a field of ZONE.PUT that lies in its range. -/
def Rule.ZoneFieldFits (f : ZoneFields) (n : Nat) : Prop :=
  ∀ lo hi, (n, lo, hi) ∈ Rule.zoneBounds → lo ≤ Rule.zoneField f n ∧ Rule.zoneField f n ≤ hi

/-- R67: the configured fields hold what ZONE.PUT carried. -/
def Rule.ZoneWritten (f : ZoneFields) (c : ZoneConfig) : Prop :=
  c.priority = f.priority.toNat ∧ c.period = f.period.toNat ∧ c.modeDiff = f.modeDiff.toNat ∧
    c.stageDiff = f.stageDiff.toNat ∧ c.deadband = f.deadband.toNat ∧ c.upDelay = f.upDelay.toNat ∧
    c.downDelay = f.downDelay.toNat ∧ c.changeover = f.changeover.toNat ∧ (c.econEnable = true ↔ f.econEnable.toNat = 1) ∧
    c.econLimit = f.econLimit.toInt ∧ c.occFan = f.occFan.toNat ∧ c.fbOccupancy.toCode = f.fbOccupancy.toNat ∧
    c.fbCool = f.fbCool.toNat ∧ c.fbHeat = f.fbHeat.toNat ∧ c.staleTime = f.staleTime.toNat

/-- R67: the defaults of the fifteen fields, as its table lists them. -/
def Rule.zoneDefaults : ZoneConfig :=
  { priority := 1, period := 10, modeDiff := 5, stageDiff := 6, deadband := 10, upDelay := 300, downDelay := 120,
    changeover := 600, econEnable := false, econLimit := 150, occFan := 800, fbOccupancy := .occupied, fbCool := 240,
    fbHeat := 200, staleTime := 300 }

/-- R75: the applied setpoints from the chosen ones. -/
def Rule.applied (deadband cool heat : Nat) : Nat × Nat :=
  let sc := max 100 (min 350 cool)
  let sh := max 100 (min 350 heat)
  if sh + deadband ≤ sc then (sc, sh) else if sh + deadband ≤ 350 then (sh + deadband, sh) else (350, 350 - deadband)

/-- R68: a zone as it is at power-on and at its definition, with its current cell. -/
def FreshZone (c : ZoneConfig) (now : Word) (cell : Cell) (r : Zone) : Prop :=
  r = {
    config := c, units := [], mode := .idle, lastMode := .idle, level := 0, capacity := 0, wanted := 0
    econAvailable := false, econOn := false, temperature := none, derivedAt := now, sensorFault := false
    changeover := .stopped, lastIncrease := none, lastDecrease := none, stepOwed := false, holdOrder := [], cell
    appliedCool := (Rule.applied c.deadband cell.cool cell.heat).1
    appliedHeat := (Rule.applied c.deadband cell.cool cell.heat).2
    evaluation := .running c.period, forced := none }

/-- R79: the part-wide outdoor value. -/
def Rule.outdoor (s : State) : Option Int :=
  let readings := s.units.filterMap fun p =>
    if p.2.live.link = .online ∧ (p.2.live.outdoor.any fun v => decide (-400 ≤ v) && decide (v ≤ 850)) = true then
      p.2.live.outdoor else none
  if readings = [] then none else some ((2 * readings.sum + readings.length) / (2 * readings.length))

/-- R79: whether the economizer is available to a zone in COOL. -/
def Rule.economizer (s : State) (r : Zone) : Bool :=
  r.config.econEnable && ((Rule.outdoor s).any fun v => decide (v ≤ r.config.econLimit)) &&
    r.units.any fun u => (s.unit u).any fun b => b.copy.econPresent

/-- R79: a zone's capacity for a mode: every stage of the mode that is not in LOCKOUT on a unit of the list that is not LOST,
and the economizer in COOL. -/
def Rule.capacity (s : State) (r : Zone) (heat : Bool) : Nat :=
  (r.units.map fun u =>
    match s.unit u with
    | none => 0
    | some b =>
      if b.live.link = .lost then 0
      else [StageName.c1, .c2, .c3, .c4, .h1, .h2].countP fun st =>
        isHeat st == heat && (b.stages.get st).any fun q => decide (q.state ≠ .lockout)).sum +
    if heat = false ∧ Rule.economizer s r = true then 1 else 0

/-- R82: a unit's stages of a mode in QUEUED, PROVING or RUN. -/
def Rule.active (b : BoundUnit) (heat : Bool) : Nat :=
  [StageName.c1, .c2, .c3, .c4, .h1, .h2].countP fun st => isHeat st == heat && (b.stages.get st).any fun q =>
    decide (q.state = .queued ∨ q.state = .proving ∨ q.state = .run)

/-- R84, R1: a unit's stages of a mode in QUEUED, PROVING, RUN or HOLD. -/
def Rule.engaged (b : BoundUnit) (heat : Bool) : Nat :=
  [StageName.c1, .c2, .c3, .c4, .h1, .h2].countP fun st => isHeat st == heat && (b.stages.get st).any fun q =>
    decide (q.state = .queued ∨ q.state = .proving ∨ q.state = .run ∨ q.state = .hold)

/-- R77: whether a stage of a mode is engaged on a unit of the zone's list. -/
def Rule.zoneEngaged (s : State) (r : Zone) (heat : Bool) : Prop :=
  ∃ u ∈ r.units, ∃ b, s.unit u = some b ∧ 0 < Rule.engaged b heat

/-- R84: the five conditions under which a unit may take the zone's request, with its next stage and that stage's record. -/
def Rule.Eligible (b : BoundUnit) (heat : Bool) (st : StageName) (q : StageRec) : Prop :=
  b.live.link = .online ∧ (if heat then b.limit.heatLimited else b.limit.coolLimited) = false ∧
    Rule.engaged b (!heat) = 0 ∧ isHeat st = heat ∧ stageNumber st = Rule.engaged b heat + 1 ∧
    b.stages.get st = some q ∧ q.state = .off

/-! ### The roof bus (R157 to R162) -/

/-- 12.4, R158: the bytes of the command frame to a unit. -/
def Rule.CommandBytes (run : RunState) (b : BoundUnit) (bytes : List Byte) : Prop :=
  ∃ body, body = enc8 b.copy.busAddress ++ [0x51#8, setByte (Six.ofFn b.isOn), if run = .shutdown then 1#8 else 0#8] ++
      enc16 b.fan.position ++ enc16 b.damper.position ++ enc16 b.gas.position ∧
    bytes = [0xA5#8] ++ body ++ halfBytes (crc16 body)

/-- R156 to R158: `t` has begun the visit that follows the one ended in `s`: that of the first place not skipped, with its
command frame built from `t`, or none at the end of the cycle. A place is skipped once its link record has been discarded. -/
def Rule.NextVisit (s t : State) : Prop :=
  (∀ (skipped rest : List Place) (p : Place) (b : BoundUnit), s.roof.places.drop s.roof.next = skipped ++ p :: rest →
      (∀ q ∈ skipped, q.live = false) → p.live = true → t.unit p.unit = some b →
      t.roof = { s.roof with
        next := s.roof.next + skipped.length + 1
        visit := some { unit := p.unit, address := b.copy.busAddress, live := true }
        lastCommand := t.roof.lastCommand } ∧ Rule.CommandBytes t.host.run b t.roof.lastCommand) ∧
    ((∀ q ∈ s.roof.places.drop s.roof.next, q.live = false) →
      t.roof = { s.roof with next := s.roof.places.length, visit := none })

/-- R162, R52, R125: a LOST unit after its fallback expiry. -/
def Rule.FellBack (run : RunState) (now : Word) (b b' : BoundUnit) : Prop :=
  b' = { b with
    stages := b'.stages, purge := b'.purge, lostOn := noStages, fallbackTaken := true, gasReduction := 0
    fan := { b.fan with position := 0 }, damper := { b.damper with position := 0 }
    gas := { b.gas with
      position := 0
      target := if (b.isOn .h1 = true ∨ b.isOn .h2 = true) ∧ b.copy.kind = .modulatingGas ∧ b.zone ≠ 0 then 0
        else b.gas.target } } ∧
    PurgeFollows run .unitLost b b' ∧
    ∀ st, match b.stages.get st with
      | none => b'.stages.get st = none
      | some r => ∃ r', b'.stages.get st = some r' ∧
        if r.state.isOn = true then StoppedAtOnce b.copy now .unitLost r r' else r' = r

/-! ### Fields of the schedule's and the meter's requests (R101, R45) -/

/-- R101, R100: a field of SCHED.WINDOW, by its number, that lies in its range. -/
def Rule.WindowFieldFits (day zLo zHi sLo sHi order direction mask compare occupancy : Byte) : Nat → Prop
  | 1 => 1 ≤ day.toNat ∧ day.toNat ≤ 8
  | 2 => 1 ≤ zLo.toNat ∧ zLo.toNat ≤ 12
  | 3 => zLo.toNat ≤ zHi.toNat ∧ zHi.toNat ≤ 12
  | 4 => sLo.toNat ≤ 95
  | 5 => sLo.toNat ≤ sHi.toNat ∧ sHi.toNat ≤ 95
  | 6 => order.toNat ≤ 1
  | 7 => direction.toNat ≤ 1
  | 8 => 1 ≤ mask.toNat ∧ mask.toNat ≤ 7
  | 9 => compare.toNat ≤ 2
  | _ => compare.toNat ≠ 0 → occupancy.toNat ≤ 2

/-- R102: a request's mask that is the window's field mask (the bits are those of log 17). -/
def Rule.SameMask (mask : Byte) (w : Window) : Prop :=
  mask.toNat ≤ 7 ∧ mask.getLsbD 0 = w.maskOcc ∧ mask.getLsbD 1 = w.maskCool ∧ mask.getLsbD 2 = w.maskHeat

/-- R100: the cursor of a window stands in its ranges. -/
def Rule.CursorInWindow (w : Window) : Prop :=
  w.zLo ≤ w.cursorZone ∧ w.cursorZone ≤ w.zHi ∧ w.sLo ≤ w.cursorSlot ∧ w.cursorSlot ≤ w.sHi

/-- R104: the cursor and the wrap count of `w'` are those of `w` one cell on: the inner index moves, the outer index moves when
the inner one passes its bound, and a wrap is counted, saturating, when the outer one passes its own. An index is written as its
lower bound, its upper bound and its value. -/
def Rule.CursorMoves (w w' : Window) : Prop :=
  ∀ inner outer : Nat × Nat × Nat,
    inner = (if w.zonesFirst then (w.zLo, w.zHi, w.cursorZone) else (w.sLo, w.sHi, w.cursorSlot)) →
    outer = (if w.zonesFirst then (w.sLo, w.sHi, w.cursorSlot) else (w.zLo, w.zHi, w.cursorZone)) →
    ∃ inner' outer' wrapped,
      w'.cursorZone = (if w.zonesFirst then inner' else outer') ∧
      w'.cursorSlot = (if w.zonesFirst then outer' else inner') ∧
      w'.wraps = (if wrapped = true then min 65535 (w.wraps + 1) else w.wraps) ∧
      (w.descending = false →
        inner' = (if inner.2.2 = inner.2.1 then inner.1 else inner.2.2 + 1) ∧
        outer' = (if inner.2.2 = inner.2.1 then (if outer.2.2 = outer.2.1 then outer.1 else outer.2.2 + 1)
          else outer.2.2) ∧
        (wrapped = true ↔ inner.2.2 = inner.2.1 ∧ outer.2.2 = outer.2.1)) ∧
      (w.descending = true →
        inner' = (if inner.2.2 = inner.1 then inner.2.1 else inner.2.2 - 1) ∧
        outer' = (if inner.2.2 = inner.1 then (if outer.2.2 = outer.1 then outer.2.1 else outer.2.2 - 1)
          else outer.2.2) ∧
        (wrapped = true ↔ inner.2.2 = inner.1 ∧ outer.2.2 = outer.1))

/-- R45: the lengths an interval may have. -/
def IntervalLength (n : Nat) : Prop := n = 300 ∨ n = 600 ∨ n = 900 ∨ n = 1800 ∨ n = 3600

/-- R45, R46: a field of DEMAND.LIMITS, by its number, that lies in its range; field 5 takes every value. -/
def Rule.LimitFits (ceiling recovery cap length stale spacing : Half) : Nat → Prop
  | 1 => 100 ≤ ceiling.toNat ∧ ceiling.toNat ≤ 65000
  | 2 => 100 ≤ recovery.toNat ∧ recovery.toNat ≤ 65000
  | 3 => ceiling.toNat ≤ cap.toNat ∧ recovery.toNat ≤ cap.toNat
  | 4 => IntervalLength length.toNat
  | 6 => 30 ≤ stale.toNat ∧ stale.toNat ≤ 900
  | 7 => 10 ≤ spacing.toNat ∧ spacing.toNat ≤ 120
  | _ => True

/-! ### Ramps (R110, R111, R116) -/

/-- R110: the rate of the band in which a value lies; 1000 lies in the last band. -/
def RateAt (segments : List Segment) (x rate : Nat) : Prop :=
  ∃ before g after, segments = before ++ g :: after ∧ rate = g.rate ∧ (before.map Segment.width).sum ≤ x ∧
    (x < (before.map Segment.width).sum + g.width ∨ after = [])

/-- R111: a segment of PROFILE.PUT, a band width and a rate, both in their range. -/
def Rule.SegmentFits (g : Half × Half) : Prop :=
  1 ≤ g.1.toNat ∧ g.1.toNat ≤ 1000 ∧ 1 ≤ g.2.toNat ∧ g.2.toNat ≤ 1000

/-- R116: the position `p'` after one step of a channel from `p` toward `g` with profile number `k`. -/
def StepsTo (profiles : Table (List Segment)) (k p g p' : Nat) : Prop :=
  (p = g → p' = p) ∧ (p ≠ g → k = 0 → p' = g) ∧
    ∀ segments, k ≠ 0 → Table.find k profiles = some segments → segments ≠ [] →
      (p < g → ∃ rate, RateAt segments p rate ∧ p' = min g (p + rate)) ∧
      (g < p → ∃ rate, RateAt segments (p - 1) rate ∧ p' = max g (p - rate))

/-! ### The laws of the part -/

/-- R173 to R175: the notice queue, NOTE and the dropped flag. -/
structure NoticeLaw (s : State) : Prop where
  held : s.host.notices.length ≤ 32
  line : s.host.note = !s.host.notices.isEmpty
  dropped : s.host.dropped = true → s.host.notices ≠ []

/-- R54, R57, R63: the current interval and the history ring keep their ranges, so that E cannot overflow. -/
structure MeterLaw (s : State) : Prop where
  history : s.meter.history.length ≤ 96
  length : IntervalLength s.meter.limits.length
  pending : ∀ n, s.meter.pendingLength = some n → IntervalLength n
  image : IntervalLength s.store.image.contents.limits.length
  interval : s.meter.interval.elapsed < s.meter.interval.effective ∧ s.meter.interval.effective ≤ 3600
  energy : s.meter.interval.energy ≤ 65535 * s.meter.interval.elapsed
  peak : s.meter.interval.peak ≤ 65535

/-- R26, R27, R136: the grant queue and the stage states agree, and in SHUTDOWN nothing waits or runs. -/
structure QueueLaw (s : State) : Prop where
  units : Table.wf s.units = true
  size : s.arbiter.queue.length ≤ 32
  kinds : ∀ e ∈ s.arbiter.queue, e.compressor = !isHeat e.stage
  single : s.arbiter.queue.Pairwise fun e f => ¬(e.unit = f.unit ∧ e.stage = f.stage)
  waiting : ∀ u st, (∃ b r, s.unit u = some b ∧ b.stages.get st = some r ∧ r.state = .queued) ↔
    ∃ e ∈ s.arbiter.queue, e.unit = u ∧ e.stage = st
  shutdown : s.host.run = .shutdown →
    s.arbiter.queue = [] ∧ ∀ u b, s.unit u = some b → b.anyEngaged = false

/-- R118: the fan of a unit with a stage on stands at or above its proof level; a held fan stands at 0 (R120); and every
proof level is at least 150 (R140). -/
structure FanLaw (s : State) : Prop where
  units : Table.wf s.units = true
  floor : ∀ u b, s.unit u = some b → b.anyOn = true → b.copy.proofLevel ≤ b.fan.position
  held : ∀ u b, s.unit u = some b → b.fanHold = true → b.fan.position = 0
  copies : ∀ u b, s.unit u = some b → 150 ≤ b.copy.proofLevel
  stored : ∀ p ∈ s.table.descriptors, 150 ≤ p.2.proofLevel
  saved : ∀ p ∈ s.store.image.contents.descriptors, 150 ≤ p.2.proofLevel

/-- R146, R140, R176: bindings, live and saved, unit lists and bus addresses. -/
structure BindingLaw (s : State) : Prop where
  units : Table.wf s.units = true
  zones : Table.wf s.zones = true
  saved : Table.wf s.store.image.contents.zones = true
  numbers : ∀ u b, s.unit u = some b → u ≤ 24 ∧ b.zone ≤ 12
  listed : ∀ u z, (z ≠ 0 ∧ ∃ b, s.unit u = some b ∧ b.zone = z) ↔ ∃ r, s.zone z = some r ∧ u ∈ r.units
  lists : ∀ z r, s.zone z = some r → r.units.length ≤ 4 ∧ r.units.Nodup
  bindings : ∀ p ∈ s.store.image.contents.bindings, p.1 ≤ 24 ∧ p.2.zone ≤ 12
  rising : Table.wf s.store.image.contents.bindings = true
  addresses : ∀ u v b c, s.unit u = some b → s.unit v = some c → b.copy.busAddress = c.copy.busAddress → u = v

/-- The form of every table and of the grid, live and saved: indices rising, no default cell listed. -/
structure TableLaw (s : State) : Prop where
  units : Table.wf s.units = true
  zones : Table.wf s.zones = true
  descriptors : Table.wf s.table.descriptors = true
  profiles : Table.wf s.profiles = true
  grid : gridWf s.schedule.grid = true
  savedZones : Table.wf s.store.image.contents.zones = true
  savedDescriptors : Table.wf s.store.image.contents.descriptors = true
  savedProfiles : Table.wf s.store.image.contents.profiles = true
  savedGrid : gridWf s.store.image.contents.grid = true

end Sys2Proof.Machine
end

