-- ==== Sys2Proof/Certificates/Slice0/Obligations.lean ====
section
/-! DEFINITION. The statements for the provers. -/

open Sys2Proof Sys2Proof.Machine

/-! ### Steps, reset and power-on -/

/-- The form of a step that the row's task names: the command at the front is run on the queue's rest. -/
def Obligations.StepRunsTheFrontCommand : Prop :=
  ∀ (c : Instr) (rest : List Instr) (s : State), step { s with pending := c :: rest } = exec c { s with pending := rest }

/-- R2, R48, with the model's choice of log 1 that a step on an empty queue is one second of part time: the uptime rises by
1, every running timer loses 1 s, the site age rises by 1 and saturates, and nothing else changes. -/
def Obligations.EmptyQueueStepPassesOneSecond : Prop :=
  ∀ s : State, s.pending = [] → ∃ t, step s = .next t ∧
    t.uptime = s.uptime + 1#32 ∧ t.pending = [] ∧ t.freeCount = s.freeCount ∧ t.host = s.host ∧ t.table = s.table ∧
    t.schedule = s.schedule ∧ t.profiles = s.profiles ∧ t.roof = s.roof ∧ t.store = s.store ∧
    t.arbiter = { s.arbiter with stagger := s.arbiter.stagger.tick } ∧
    t.meter = { s.meter with siteAge := s.meter.siteAge.map fun a => min 4294967295 (a + 1) } ∧
    (∀ u, t.unit u = (s.unit u).map fun b =>
      { b with
        stages := Six.ofFn fun st => (b.stages.get st).map fun r =>
          { r with minOn := r.minOn.tick, minOff := r.minOff.tick, proving := r.proving.tick }
        purge := b.purge.tick
        limit := { b.limit with holdOff := b.limit.holdOff.tick } }) ∧
    (∀ z, t.zone z = (s.zone z).map fun r =>
      { r with changeover := r.changeover.tick, evaluation := r.evaluation.tick }) ∧
    Timer.stopped.tick = .stopped ∧ ∀ n, (Timer.running (n + 1)).tick = .running n

/-- What the reset state holds: R41, R45, R48, R54, R67, R94, R136, R139, R152, R155, R168, R173, R180 on an erased image,
with the three lines negated (log 5). Every law of the part holds in it. -/
def Obligations.ResetStateHoldsThePowerOnValues : Prop :=
  State.reset.pending = [] ∧ State.reset.uptime = 0#32 ∧ State.reset.host.run = .normal ∧
    State.reset.host.receiver = .hunting ∧ State.reset.host.phase = .idle ∧ State.reset.host.holding = none ∧
    State.reset.host.notices = [] ∧ State.reset.host.dropped = false ∧ State.reset.host.note = false ∧
    State.reset.units = [] ∧ State.reset.table.descriptors = [] ∧ State.reset.table.level = 0 ∧
    State.reset.table.hold = false ∧ State.reset.arbiter.queue = [] ∧ State.reset.arbiter.stagger = .running 30 ∧
    State.reset.arbiter.joinRank = 0#32 ∧ State.reset.arbiter.attempt = none ∧
    State.reset.meter.limits =
      { ceiling := 65000, recovery := 65000, cap := 65535, length := 900, fallback := 65535, stale := 120, spacing := 30 } ∧
    State.reset.meter.pendingLength = none ∧ State.reset.meter.siteLoad = 65535 ∧ State.reset.meter.siteAge = none ∧
    State.reset.meter.siteStale = true ∧ State.reset.meter.interval.effective = 900 ∧
    State.reset.meter.interval.unaligned = true ∧ State.reset.meter.interval.energy = 0 ∧
    State.reset.meter.interval.elapsed = 0 ∧ State.reset.meter.history = [] ∧ State.reset.meter.closeCount = 0#32 ∧
    State.reset.zones = [] ∧ (∀ z, State.reset.zoneConfig z = Rule.zoneDefaults) ∧
    State.reset.schedule.clock = { time := none, holiday := false, weekdayAfter := none } ∧
    State.reset.schedule.window = none ∧ State.reset.profiles = [] ∧ State.reset.roof.visit = none ∧
    State.reset.store.state = .empty ∧ State.reset.store.saving = false ∧
    (∀ i, gridRead i State.reset.schedule.grid = { occupancy := .unoccupied, cool := 290, heat := 150 }) ∧
    TableLaw State.reset ∧ NoticeLaw State.reset ∧ MeterLaw State.reset ∧ QueueLaw State.reset ∧ FanLaw State.reset ∧
    BindingLaw State.reset

/-- R180, R139, R154: power-on with an image that is not valid sets every block to its defaults, whatever the part held. The
model's own queue and counter go through (log 9). -/
def Obligations.PowerOnWithoutAValidImageSetsTheDefaults : Prop :=
  ∀ (smoke service protect : Bool) (s : State),
    s.store.image.mark ≠ .clean ∨ s.store.image.format ≠ 4 ∨ s.store.image.crcRight = false →
    exec (.powerOn smoke service protect) s = .next
      { State.reset with
        pending := s.pending
        freeCount := s.freeCount
        host := { State.reset.host with
          run := if smoke then .shutdown else .normal
          smoke := smoke, service := service, protect := protect
          notices := if smoke then
            [{ kind := .shutdownOn, uptime := 0#32, time := none, unit := none, stage := none, zone := none, value := none }]
            else []
          note := smoke }
        store := {
          image := s.store.image
          state := if s.store.image.mark = .failed then .failed else .empty
          saving := false } }

/-- R180, R176, R22, R90, R121, R139, R145, R146, R154, R155: power-on with a valid image, in every block. The tables are
loaded, SMOKE asserted starts the part in SHUTDOWN with its notice, and the saved bindings are re-made one by one (`Rule.Remade`):
one that passes the checks of R145 is made with its saved counters, joins its zone's list and takes its smoke action in
SHUTDOWN, and one that fails is dropped with its notice. The first cycle list holds every unit then bound. The model's own queue
and counter go through (log 9). -/
def Obligations.PowerOnLoadsAValidImage : Prop :=
  ∀ (smoke service protect : Bool) (s : State),
    s.store.image.mark = .clean → s.store.image.format = 4 → s.store.image.crcRight = true →
    ∃ loaded bound t, exec (.powerOn smoke service protect) s = .next t ∧
      loaded = { State.reset with
        pending := s.pending
        freeCount := s.freeCount
        host := { State.reset.host with
          run := if smoke then .shutdown else .normal
          smoke := smoke, service := service, protect := protect
          notices := if smoke then
            [{ kind := .shutdownOn, uptime := 0#32, time := none, unit := none, stage := none, zone := none, value := none }]
            else []
          note := smoke }
        table := { descriptors := s.store.image.contents.descriptors, level := s.store.image.contents.level
                   hold := s.store.image.contents.hold }
        arbiter := { State.reset.arbiter with stagger := .running s.store.image.contents.limits.spacing }
        meter := { State.reset.meter with
          limits := s.store.image.contents.limits
          siteLoad := s.store.image.contents.limits.fallback
          interval := { State.reset.meter.interval with
            length := s.store.image.contents.limits.length, effective := s.store.image.contents.limits.length } }
        zones := loaded.zones
        schedule := { State.reset.schedule with grid := s.store.image.contents.grid }
        profiles := s.store.image.contents.profiles
        store := { image := s.store.image, state := .valid, saving := false } } ∧
      (∀ z, match Table.find z s.store.image.contents.zones with
        | none => loaded.zone z = none
        | some c => ∃ r, loaded.zone z = some r ∧
            FreshZone c 0#32 { occupancy := c.fbOccupancy, cool := c.fbCool, heat := c.fbHeat } r) ∧
      Rule.Remade s.store.image.contents.bindings loaded bound ∧
      t = { bound with roof := { places := t.roof.places, next := 0, start := 0, visit := none, lastCommand := [] } } ∧
      (t.roof.places.map Place.unit).Perm (t.units.map Prod.fst) ∧ (∀ p ∈ t.roof.places, p.live = true) ∧
      t.roof.places.Pairwise fun p q => ∀ b c, t.unit p.unit = some b → t.unit q.unit = some c →
        b.copy.busAddress ≤ c.copy.busAddress

/-! ### The four input lines (R136, R154) -/

/-- R136, with R12, R24, R43, R66, R92, R108, R121 and R122 on the blocks: an assertion of SMOKE in NORMAL. That the economizer's
available flag goes with the economizer, and that the uptimes of the level steps become absent in zones that were in IDLE too,
is the model's reading of R92 (log 19). -/
def Obligations.SmokeAssertedEntersShutdown : Prop :=
  ∀ s : State, s.host.run = .normal → QueueLaw s → ∃ t, exec .smokeAsserted s = .next t ∧
    t.host = { noting s .shutdownOn none none none none with run := .shutdown, smoke := true } ∧
    t = { s with host := t.host, units := t.units, zones := t.zones, arbiter := { s.arbiter with queue := [] },
                 schedule := { s.schedule with window := none } } ∧
    (∀ z, t.zone z = (s.zone z).map fun r =>
      { r with
        mode := .idle, level := 0, capacity := 0, wanted := 0, econAvailable := false, econOn := false,
        stepOwed := false, holdOrder := [], lastIncrease := none, lastDecrease := none
        lastMode := if r.mode = .idle then r.lastMode else r.mode
        changeover := if r.mode = .idle then r.changeover else .running r.config.changeover }) ∧
    (∀ u, (t.unit u).isSome = (s.unit u).isSome) ∧
    ∀ u b, s.unit u = some b → ∃ b', t.unit u = some b' ∧ b'.anyEngaged = false ∧
      b' = { b with
        stages := b'.stages, purge := .stopped, gas := b'.gas, gasReduction := b'.gasReduction
        fan := if b.copy.smokeAction = .fanOff then { b.fan with target := 0, position := 0 }
          else { b.fan with target := 1000 }
        damper := { b.damper with target := if b.copy.smokeAction = .fanOff then 0 else 1000 } } ∧
      GasFollows (HeatMoved b b') b.gasReduction b b' ∧
      ∀ st, match b.stages.get st with
        | none => b'.stages.get st = none
        | some r => ∃ r', b'.stages.get st = some r' ∧
          if r.state = .queued then r' = { r with state := .off }
          else if r.state.isOn = true then StoppedAtOnce b.copy s.uptime .shutdown r r'
          else r' = r

/-- R136, R154: every other change of level of SMOKE, SERVICE and PROTECT sets the level and changes nothing else. -/
def Obligations.LineChangesSetOnlyTheirLevel : Prop :=
  ∀ s : State,
    (s.host.run = .shutdown → exec .smokeAsserted s = .next { s with host := { s.host with smoke := true } }) ∧
    exec .smokeNegated s = .next { s with host := { s.host with smoke := false } } ∧
    (∀ level, exec (.serviceLineChange level) s = .next { s with host := { s.host with service := level } }) ∧
    ∀ level, exec (.protectLineChange level) s = .next { s with host := { s.host with protect := level } }

/-! ### The host link (R167 to R170) -/

/-- R167 to R170, 12.1: the bytes of a request's frame, arriving while the receiver hunts, do what that request's command does:
the request is taken when the host link is IDLE, and held or discarded while it is ANSWERING. A frame that makes no request,
arriving while the host link is IDLE, is answered UNKNOWN or MALFORMED, and nothing else changes. -/
def Obligations.BytesOfAFrameTakeItsRequest : Prop :=
  (∀ (r : Request) (tag : Byte) (s : State), r.wellFormed = true → s.host.receiver = .hunting →
    receiveAll (requestFrame tag r) s = exec (requestCommand tag r) s) ∧
  ∀ (code tag : Byte) (payload : List Byte) (why : Result) (s : State), payload.length ≤ 240 →
    s.host.receiver = .hunting → s.host.phase = .idle → Rule.FrameRefused code payload why →
    receiveAll (hostFrame (code :: tag :: payload)) s = .next (s.answering code tag why [])

/-- R167: what the receiver discards: a byte other than 0xB6 while hunting, a length byte outside 2 to 242, a frame whose CRC
is wrong, and a partial frame at a gap. Nothing but the receiver changes. -/
def Obligations.DiscardedBytesChangeOnlyTheReceiver : Prop :=
  ∀ s : State,
    (∀ b, s.host.receiver = .hunting → b ≠ 0xB6#8 → exec (.hostByteReceived b) s = .next s) ∧
    (∀ b, s.host.receiver = .collecting [] → b.toNat < 2 ∨ 242 < b.toNat →
      exec (.hostByteReceived b) s = .next { s with host := { s.host with receiver := .hunting } }) ∧
    (∀ (len code tag c1 c0 : Byte) (payload : List Byte),
      s.host.receiver = .collecting (len :: code :: tag :: payload ++ [c1]) → len.toNat = payload.length + 2 →
      crc16 (len :: code :: tag :: payload) ≠ half c1 c0 →
      exec (.hostByteReceived c0) s = .next { s with host := { s.host with receiver := .hunting } }) ∧
    exec .receiveGapTimeout s = .next { s with host := { s.host with receiver := .hunting } }

/-- R168 to R170: a request whose frame completes while a reply is being sent, by its bytes or as its command, is held when the
buffer is empty and discarded when it is full; at the end of a reply the held frame is taken, or the host link becomes IDLE. A
frame that makes no request waits in the same way, and is answered UNKNOWN or MALFORMED when it is taken. -/
def Obligations.OneFrameWaitsInTheHoldingBuffer : Prop :=
  (∀ (s : State) (tag : Byte) (r : Request), r.wellFormed = true → s.host.phase = .answering →
    (s.host.holding = none →
      exec (requestCommand tag r) s =
        .next { s with host := { s.host with holding := some { code := r.code, tag, payload := r.payload } } }) ∧
    (∀ held, s.host.holding = some held → exec (requestCommand tag r) s = .next s) ∧
    (s.host.receiver = .hunting → receiveAll (requestFrame tag r) s = exec (requestCommand tag r) s) ∧
    (s.host.holding = some { code := r.code, tag, payload := r.payload } →
      exec .replySent s =
        exec (requestCommand tag r) { s with host := { s.host with phase := .idle, reply := none, holding := none } }) ∧
    (s.host.holding = none → exec .replySent s = .next { s with host := { s.host with phase := .idle, reply := none } })) ∧
  ∀ (s : State) (code tag : Byte) (payload : List Byte), payload.length ≤ 240 → s.host.phase = .answering →
    (s.host.receiver = .hunting →
      (s.host.holding = none → receiveAll (hostFrame (code :: tag :: payload)) s =
        .next { s with host := { s.host with holding := some { code, tag, payload } } }) ∧
      (∀ held, s.host.holding = some held → receiveAll (hostFrame (code :: tag :: payload)) s = .next s)) ∧
    ∀ why, s.host.holding = some { code, tag, payload } → Rule.FrameRefused code payload why →
      exec .replySent s =
        .next (State.answering code tag why [] { s with host := { s.host with holding := none } })

/-- 12.2, 12.3: the payload that carries a request is read back as that request, every field of it. -/
def Obligations.RequestPayloadsReadBack : Prop :=
  ∀ r : Request, r.wellFormed = true → parseRequest r.code r.payload = .request r

/-- R168, R169, R170, R152, R154: with the host link IDLE every request is taken at once, and gets one reply, with its code's top
bit set and its tag; a refused request changes nothing but the reply, which carries no payload, or one byte for RANGE. The
first of the common checks that holds refuses the request with its result; one that passes them all is refused UNKNOWN,
MALFORMED, SERVICE or HALTED by no owner, BUSY only where it is PART.RESTART, and LOCKED only where it is PART.PROTECT or
STORE.CLEAR. -/
def Obligations.EveryRequestIsAnsweredAndRefusalsChangeNothing : Prop :=
  ∀ (r : Request) (tag : Byte) (s : State), s.host.phase = .idle →
    (∀ before why refuses after, Rule.commonChecks s r = before ++ (why, refuses) :: after → refuses →
      (∀ c ∈ before, ¬c.2) → exec (requestCommand tag r) s = .next (s.answering r.code tag why [])) ∧
    ∃ t result payload, exec (requestCommand tag r) s = .next t ∧
      t.host.phase = .answering ∧ t.host.reply = some { code := r.code ||| 0x80#8, tag, result, payload } ∧
      t.pending = s.pending ∧ t.host.receiver = s.host.receiver ∧ t.host.holding = s.host.holding ∧
      (result ≠ .accepted → t = s.answering r.code tag result payload ∧
        payload.length = if result = .range then 1 else 0) ∧
      ((∀ c ∈ Rule.commonChecks s r, ¬c.2) →
        result ∉ [Result.unknown, .malformed, .service, .halted] ∧ (result = .busy → r = .partRestart) ∧
        (result = .locked → (∃ level hold, r = .partProtect level hold) ∨ r = .storeClear))

/-- R137, R170: in SHUTDOWN the requests of R137's second row are refused HALTED, after the checks for MALFORMED and SERVICE,
and those of its first row never are. -/
def Obligations.ShutdownRefusesTheRequestsOfR137 : Prop :=
  ∀ (r : Request) (tag : Byte) (s : State), s.host.phase = .idle → s.host.run = .shutdown →
    (Rule.CountsMalformed r → exec (requestCommand tag r) s = .next (s.answering r.code tag .malformed [])) ∧
    (¬Rule.CountsMalformed r → Rule.ServiceOnly r → s.host.service = false →
      exec (requestCommand tag r) s = .next (s.answering r.code tag .service [])) ∧
    (¬Rule.CountsMalformed r → (Rule.ServiceOnly r → s.host.service = true) → servedInShutdown r = false →
      exec (requestCommand tag r) s = .next (s.answering r.code tag .halted [])) ∧
    (servedInShutdown r = true → ∀ t p, exec (requestCommand tag r) s = .next t → t.host.reply = some p →
      p.result ≠ .halted)

/-! ### Requests that read

Here and below, a statement on a request has the host link IDLE. While it is ANSWERING, every request does what
`OneFrameWaitsInTheHoldingBuffer` says (R168). -/

/-- R172: the reply of PART.STATUS in every state in which the host link is IDLE; it changes nothing else. That a line asserted
is sent as 1 is log 21's choice, that the layout follows R172 and 12.2 against the 30 bytes that 10.6 speaks of is log 22's, and
the code of the store state (VALID 0, EMPTY 1, FAILED 2) is log 33's. -/
def Obligations.PartStatusReportsThePart : Prop :=
  ∀ (tag : Byte) (s : State), s.host.phase = .idle → exec (.partStatus tag) s = .next (s.answering 0x01#8 tag .accepted
    ([0x72#8, 3#8] ++ enc8 s.host.run.toCode ++ wordBytes s.uptime ++ enc8 s.store.state.toCode ++ encFlag s.store.saving ++
      encFlag s.schedule.clock.time.isSome ++ enc8 s.table.level ++ encFlag s.table.hold ++
      encFlag s.host.smoke ++ encFlag s.host.protect ++ encFlag s.host.service ++
      enc8 s.host.notices.length ++ encFlag s.host.dropped ++
      encFlag s.schedule.window.isSome ++ enc8 s.units.length ++ enc8 s.arbiter.queue.length))

/-- R98, R94: the reply of CLOCK.GET in every state in which the host link is IDLE, with the clock invalid and with it valid; it
changes nothing else. -/
def Obligations.ClockGetReportsTheClock : Prop :=
  ∀ (tag : Byte) (s : State), s.host.phase = .idle →
    (s.schedule.clock.time = none → exec (.clockGet tag) s = .next (s.answering 0x07#8 tag .accepted
      ([0#8, 0#8, 0#8, 0#8] ++ encFlag s.schedule.clock.holiday ++ encOption enc8 s.schedule.clock.weekdayAfter ++
        [0#8, 0#8] ++ wordBytes s.uptime))) ∧
    ∀ t : TimeOfDay, s.schedule.clock.time = some t → exec (.clockGet tag) s = .next (s.answering 0x07#8 tag .accepted
      ([1#8] ++ (1#8 :: enc8 t.day) ++ (1#8 :: enc16 t.minute) ++ (1#8 :: enc8 t.second) ++
        encFlag s.schedule.clock.holiday ++ encOption enc8 s.schedule.clock.weekdayAfter ++
        (1#8 :: enc8 (t.minute / 15)) ++ (1#8 :: enc16 (900 - (t.minute * 60 + t.second) % 900)) ++ wordBytes s.uptime))

/-- R143, R140: UNIT.GET returns the 28 fields of the stored descriptor or of the active copy in identifier order, then the
binding and the differs flag; one-byte fields are those whose whole range fits one byte (12.2). -/
def Obligations.UnitGetReturnsADescriptor : Prop :=
  ∀ (tag unit selector : Byte) (s : State), s.host.phase = .idle →
    (¬(1 ≤ unit.toNat ∧ unit.toNat ≤ 24) →
      exec (.unitGet tag unit selector) s = .next (s.answering 0x11#8 tag .index [])) ∧
    (1 ≤ unit.toNat → unit.toNat ≤ 24 → 1 < selector.toNat →
      exec (.unitGet tag unit selector) s = .next (s.answering 0x11#8 tag .range [2#8])) ∧
    (1 ≤ unit.toNat → unit.toNat ≤ 24 → selector.toNat ≤ 1 →
      ∀ record, record = (if selector = 0#8 then Table.find unit.toNat s.table.descriptors
        else (s.unit unit.toNat).map BoundUnit.copy) →
      (record = none → exec (.unitGet tag unit selector) s = .next (s.answering 0x11#8 tag .absent [])) ∧
      ∀ d, record = some d → exec (.unitGet tag unit selector) s = .next (s.answering 0x11#8 tag .accepted
        ((List.range 28).flatMap (fun i =>
            if i + 1 ∈ [1, 2, 3, 4, 16, 17, 18, 20, 23, 25, 27] then enc8 (fieldOf d (i + 1)) else enc16 (fieldOf d (i + 1))) ++
          (match s.unit unit.toNat with
            | none => [0#8, 0#8]
            | some b => 1#8 :: enc8 b.zone ++
                encFlag (decide (Table.find unit.toNat s.table.descriptors ≠ some b.copy))))))

/-- R151: UNIT.READINGS in every state in which the host link is IDLE; it changes nothing else. -/
def Obligations.UnitReadingsReportsABoundUnit : Prop :=
  ∀ (tag unit : Byte) (s : State), s.host.phase = .idle →
    (¬(1 ≤ unit.toNat ∧ unit.toNat ≤ 24) → exec (.unitReadings tag unit) s = .next (s.answering 0x15#8 tag .index [])) ∧
    (1 ≤ unit.toNat → unit.toNat ≤ 24 → s.unit unit.toNat = none →
      exec (.unitReadings tag unit) s = .next (s.answering 0x15#8 tag .absent [])) ∧
    ∀ b, 1 ≤ unit.toNat → unit.toNat ≤ 24 → s.unit unit.toNat = some b →
      exec (.unitReadings tag unit) s = .next (s.answering 0x15#8 tag .accepted
        (enc8 b.zone ++ enc8 b.live.link.toCode ++ enc8 b.misses ++
          (match b.live.lastGood with
            | none => [0#8, 0#8]
            | some t => (1#8 :: wordBytes t) ++ (1#8 :: wordBytes (s.uptime - t))) ++
          encTemp b.live.space ++ encTemp b.live.discharge ++ encTemp b.live.outdoor ++
          [setByte b.live.running, setByte b.live.unexpected, setByte b.lostOn] ++
          encFlag b.limit.coolLimited ++ encFlag b.limit.heatLimited ++
          [softByte b.limit.coilLow b.limit.headHigh b.limit.datHigh, setByte b.limit.trips] ++
          encFlag b.limit.flameFail ++ encFlag b.limit.fanFail ++ enc16 b.limit.holdOff.remaining ++
          ([(b.fan, b.fanEffective s.host.run), (b.damper, b.damperEffective), (b.gas, b.gasEffective)].flatMap fun p =>
            enc16 p.1.position ++ enc16 p.1.target ++ enc16 p.2 ++
              [if p.1.position = p.2 then 0#8 else if p.1.position < p.2 then 1#8 else 2#8] ++ enc8 p.1.profile) ++
          enc16 b.purge.remaining ++ encFlag b.fanHold ++ enc16 b.gasReduction ++
          enc16 (b.fan.position * b.fan.position / 1000 * b.fan.position / 1000 * b.copy.fanLoad / 1000)))

/-- R20 and R40, R29, R39: STAGE.GET and QUEUE.GET in every state in which the host link is IDLE. QUEUE.GET returns up to 16 entries
from the first position on, each with its position. -/
def Obligations.StageGetAndQueueGetReportTheirRecords : Prop :=
  (∀ (tag unit : Byte) (s : State), s.host.phase = .idle →
    (¬(1 ≤ unit.toNat ∧ unit.toNat ≤ 24) → exec (.stageGet tag unit) s = .next (s.answering 0x18#8 tag .index [])) ∧
    (1 ≤ unit.toNat → unit.toNat ≤ 24 → s.unit unit.toNat = none →
      exec (.stageGet tag unit) s = .next (s.answering 0x18#8 tag .absent [])) ∧
    ∀ b, 1 ≤ unit.toNat → unit.toNat ≤ 24 → s.unit unit.toNat = some b →
      exec (.stageGet tag unit) s = .next (s.answering 0x18#8 tag .accepted
        (enc8 b.zone ++ enc8 ([StageName.c1, .c2, .c3, .c4, .h1, .h2].countP fun st => (b.stages.get st).isSome) ++
          [StageName.c1, .c2, .c3, .c4, .h1, .h2].flatMap fun st =>
            match b.stages.get st with
            | none => []
            | some r =>
              enc8 (stageCode st) ++ enc8 r.state.toCode ++ enc16 r.minOn.remaining ++ enc16 r.minOff.remaining ++
                enc16 r.proving.remaining ++ encFlag r.overdue ++ enc8 r.trips ++
                encOption (fun c => enc8 (StopCause.toCode c)) r.pendingCause ++
                encOption (fun c => enc8 (StopCause.toCode c)) r.lastCause ++ encOption wordBytes r.lastStart ++
                encOption wordBytes r.lastStop ++ encOption wordBytes r.lastRun ++ enc24 r.starts ++ enc24 r.runtime ++
                enc8 r.carry))) ∧
  ∀ (tag first : Byte) (s : State), s.host.phase = .idle →
    (¬(1 ≤ first.toNat ∧ first.toNat ≤ 32) → exec (.queueGet tag first) s = .next (s.answering 0x1A#8 tag .index [])) ∧
    (1 ≤ first.toNat → first.toNat ≤ 32 → ∃ entries : List Entry,
      entries = (s.arbiter.queue.drop (first.toNat - 1)).take 16 ∧
      exec (.queueGet tag first) s = .next (s.answering 0x1A#8 tag .accepted
        (enc8 s.arbiter.queue.length ++ enc16 s.arbiter.stagger.remaining ++
          (match s.arbiter.attempt with
            | none => [0#8]
            | some a => 1#8 :: (wordBytes a.uptime ++ enc8 a.cause.toCode ++ enc8 a.outcome.toCode ++
                encOption enc8 (a.candidate.map Prod.fst) ++ encStage (a.candidate.map Prod.snd) ++
                encOption (fun f => [failedByte f]) a.failed ++ enc8 a.skipped ++
                encOption (fun k => enc8 (SkipReason.toCode k)) a.firstSkip)) ++
          enc8 entries.length ++ entries.zipIdx.flatMap fun p =>
            enc8 (first.toNat + p.2) ++ enc8 p.1.unit ++ enc8 (stageCode p.1.stage) ++ enc8 p.1.zone ++ enc8 p.1.priority ++
              enc16 p.1.load ++ encFlag p.1.compressor ++ wordBytes p.1.joinUptime)))

/-- R35, R34, R36, R37: the start spacing. A step turns at most one compressor stage on; it finds the stagger timer stopped, or
due at the very event of its expiry, and leaves it running with the start spacing in force. Whatever is commanded, the timer
changes only by its due expiry or by a start with the full spacing; seconds alone shorten it, one each (log 1). -/
def Obligations.CompressorStartsKeepTheStartSpacing : Prop :=
  ∀ s t : State, QueueLaw s → step s = .next t →
    (∀ u st b, isHeat st = false → t.unit u = some b → b.isOn st = true → (∀ c, s.unit u = some c → c.isOn st = false) →
      (s.arbiter.stagger = .stopped ∨
        s.arbiter.stagger = .running 0 ∧ s.pending.head? = some .staggerExpiry) ∧
      t.arbiter.stagger = .running s.meter.limits.spacing ∧
      ∀ v st' c, isHeat st' = false → t.unit v = some c → c.isOn st' = true →
        (∀ d, s.unit v = some d → d.isOn st' = false) → v = u ∧ st' = st) ∧
    (s.pending ≠ [] → t.arbiter.stagger = s.arbiter.stagger ∨ t.arbiter.stagger = .running t.meter.limits.spacing ∨
      (s.pending.head? = some .staggerExpiry ∧ s.arbiter.stagger = .running 0 ∧ t.arbiter.stagger = .stopped)) ∧
    (s.pending = [] → t.arbiter.stagger = s.arbiter.stagger.tick)

/-- R70, R82, R74: ZONE.GET in every state in which the host link is IDLE. The active count is counted when the request is
taken. The age sent for an absent temperature is the model's choice (log 29). -/
def Obligations.ZoneGetReportsAZone : Prop :=
  ∀ (tag zone : Byte) (s : State), s.host.phase = .idle →
    (¬(1 ≤ zone.toNat ∧ zone.toNat ≤ 12) → exec (.zoneGet tag zone) s = .next (s.answering 0x21#8 tag .index [])) ∧
    (1 ≤ zone.toNat → zone.toNat ≤ 12 → s.zone zone.toNat = none →
      exec (.zoneGet tag zone) s = .next (s.answering 0x21#8 tag .absent [])) ∧
    ∀ r, 1 ≤ zone.toNat → zone.toNat ≤ 12 → s.zone zone.toNat = some r →
      exec (.zoneGet tag zone) s = .next (s.answering 0x21#8 tag .accepted
        (enc8 r.config.priority ++ enc16 r.config.period ++ enc8 r.config.modeDiff ++ enc8 r.config.stageDiff ++
          enc8 r.config.deadband ++ enc16 r.config.upDelay ++ enc16 r.config.downDelay ++ enc16 r.config.changeover ++
          encFlag r.config.econEnable ++ encTemp (some r.config.econLimit) ++ enc16 r.config.occFan ++
          enc8 r.config.fbOccupancy.toCode ++ enc16 r.config.fbCool ++ enc16 r.config.fbHeat ++ enc16 r.config.staleTime ++
          enc8 r.units.length ++ r.units.flatMap enc8 ++
          (match r.forced with
            | none => [0#8]
            | some o => 1#8 :: (encTemp (o.cool.map Int.ofNat) ++ encTemp (o.heat.map Int.ofNat) ++
                encOption (fun m => enc8 (ModeForce.toCode m)) o.modeForce ++
                encOption (fun c => enc8 (Occupancy.toCode c)) o.occForce ++ wordBytes o.expiry)) ++
          enc8 r.mode.toCode ++ enc8 r.lastMode.toCode ++ enc8 r.level ++ enc8 r.capacity ++ enc8 r.wanted ++
          enc8 (if r.mode = .idle then 0 else (r.units.map fun u =>
            match s.unit u with
            | none => 0
            | some b => [StageName.c1, .c2, .c3, .c4, .h1, .h2].countP fun st =>
                isHeat st == decide (r.mode = .heat) && b.stageIs StageState.isCounted st).sum) ++
          encFlag r.econAvailable ++ encFlag r.econOn ++ encTemp r.temperature ++ wordBytes (s.uptime - r.derivedAt) ++
          encFlag r.sensorFault ++ enc16 r.changeover.remaining ++ enc16 r.evaluation.remaining ++
          encOption wordBytes r.lastIncrease ++ encOption wordBytes r.lastDecrease ++ encFlag r.stepOwed ++
          enc8 r.cell.occupancy.toCode ++ enc16 r.cell.cool ++ enc16 r.cell.heat ++ enc16 r.appliedCool ++
          enc16 r.appliedHeat ++ enc8 ((r.forced.bind Override.occForce).getD r.cell.occupancy).toCode))

/-- R109, R93: SCHED.GET in every state in which the host link is IDLE: the cells of one zone's slots from the first one to the count
or to slot 95. -/
def Obligations.SchedGetReturnsCells : Prop :=
  ∀ (tag day zone slot count : Byte) (s : State), s.host.phase = .idle →
    (¬(1 ≤ day.toNat ∧ day.toNat ≤ 8 ∧ 1 ≤ zone.toNat ∧ zone.toNat ≤ 12 ∧ slot.toNat ≤ 95 ∧ 1 ≤ count.toNat ∧
        count.toNat ≤ 16) →
      exec (.schedGet tag day zone slot count) s = .next (s.answering 0x2B#8 tag .index [])) ∧
    (1 ≤ day.toNat → day.toNat ≤ 8 → 1 ≤ zone.toNat → zone.toNat ≤ 12 → slot.toNat ≤ 95 → 1 ≤ count.toNat →
      count.toNat ≤ 16 → ∃ cells : List Cell,
      cells.length = min count.toNat (96 - slot.toNat) ∧
      (∀ i, i < cells.length → cells[i]? =
        some (gridRead (cellIndex day.toNat zone.toNat (slot.toNat + i)) s.schedule.grid)) ∧
      exec (.schedGet tag day zone slot count) s = .next (s.answering 0x2B#8 tag .accepted
        (enc8 cells.length ++ cells.flatMap fun c => enc8 c.occupancy.toCode ++ enc16 c.cool ++ enc16 c.heat)))

/-- R65, R58, R59, R50, R53: DEMAND.GET in every state in which the host link is IDLE; it changes nothing else. Load, ceiling and
recovery zones are written out in `Rule`. -/
def Obligations.DemandGetReportsTheMeter : Prop :=
  ∀ (tag : Byte) (s : State), s.host.phase = .idle →
    exec (.demandGet tag) s = .next (s.answering 0x3A#8 tag .accepted
      (enc16 s.meter.limits.ceiling ++ enc16 s.meter.limits.recovery ++ enc16 s.meter.limits.cap ++
        enc16 s.meter.limits.length ++ enc16 s.meter.limits.fallback ++ enc16 s.meter.limits.stale ++
        enc16 s.meter.limits.spacing ++ encOption enc16 s.meter.pendingLength ++
        enc16 (Rule.ceiling s) ++ encFlag (decide (0 < Rule.recoveryZones s)) ++ enc8 (Rule.recoveryZones s) ++
        enc16 (Rule.presentLoad s) ++ enc16 s.meter.siteLoad ++ encFlag s.meter.siteStale ++
        encOption enc32 s.meter.siteAge ++ enc16 (min 65535 (Rule.hvacLoad s)) ++ enc16 (min 65535 (Rule.fanLoads s)) ++
        (match s.meter.interval.start with
          | none => [0#8]
          | some p => 1#8 :: (enc8 p.1 ++ enc16 p.2)) ++
        wordBytes s.meter.interval.startUptime ++ enc16 s.meter.interval.effective ++ enc16 s.meter.interval.elapsed ++
        enc16 (s.meter.interval.effective - s.meter.interval.elapsed) ++ enc32 s.meter.interval.energy ++
        enc16 s.meter.interval.peak ++ enc16 s.meter.interval.sheds ++ encFlag s.meter.interval.clipped ++
        encFlag s.meter.interval.unaligned ++ encFlag s.meter.interval.overrun ++
        enc16 ((s.meter.interval.energy +
            Rule.presentLoad s * (s.meter.interval.effective - s.meter.interval.elapsed)) / s.meter.interval.effective) ++
        enc32 (Rule.ceiling s * s.meter.interval.effective) ++ enc8 s.meter.history.length ++ wordBytes s.meter.closeCount))

/-- R64, R63: DEMAND.HISTORY in every state in which the host link is IDLE: records counted back from the newest. The history is
held oldest first. -/
def Obligations.DemandHistoryReturnsRecordsNewestFirst : Prop :=
  ∀ (tag offset count : Byte) (s : State), s.host.phase = .idle →
    (¬(offset.toNat ≤ 95 ∧ 1 ≤ count.toNat ∧ count.toNat ≤ 10) →
      exec (.demandHistory tag offset count) s = .next (s.answering 0x3B#8 tag .index [])) ∧
    (offset.toNat ≤ 95 → 1 ≤ count.toNat → count.toNat ≤ 10 → ∃ records : List HistoryRec,
      records.length = min count.toNat (s.meter.history.length - offset.toNat) ∧
      (∀ i, i < records.length → records[i]? = s.meter.history[s.meter.history.length - 1 - (offset.toNat + i)]?) ∧
      exec (.demandHistory tag offset count) s = .next (s.answering 0x3B#8 tag .accepted
        (enc8 s.meter.history.length ++ wordBytes s.meter.closeCount ++ enc8 records.length ++
          records.flatMap fun h =>
            (match h.start with
              | none => [0#8]
              | some p => 1#8 :: (enc8 p.1 ++ enc16 p.2)) ++
              wordBytes h.startUptime ++ enc16 h.length ++ enc16 h.average ++ enc16 h.peak ++ enc16 h.ceiling ++
              enc16 h.sheds ++ encFlag h.clipped ++ encFlag h.unaligned ++ encFlag h.aboveCeiling ++ encFlag h.overrun)))

/-- R111, R112, R110: PROFILE.GET, and PROFILE.PUT in NORMAL with the keyswitch on, no save and a level below 2: the refusals of
their own rules in their order, and what an accepted request returns or writes. -/
def Obligations.ProfilesAreWrittenAndReadBack : Prop :=
  ∀ (tag profile : Byte) (segments : List (Half × Half)) (s : State) (users : Nat),
    users = s.units.countP (fun p => p.2.copy.fanProfile == profile.toNat || p.2.copy.damperProfile == profile.toNat ||
      p.2.copy.gasProfile == profile.toNat) →
    s.host.phase = .idle →
    (¬(1 ≤ profile.toNat ∧ profile.toNat ≤ 8) →
      exec (.profileGet tag profile) s = .next (s.answering 0x31#8 tag .index [])) ∧
    (1 ≤ profile.toNat → profile.toNat ≤ 8 →
      (Table.find profile.toNat s.profiles = none →
        exec (.profileGet tag profile) s = .next (s.answering 0x31#8 tag .absent [])) ∧
      ∀ defined, Table.find profile.toNat s.profiles = some defined →
        exec (.profileGet tag profile) s = .next (s.answering 0x31#8 tag .accepted
          (enc8 defined.length ++ (defined.flatMap fun g => enc16 g.width ++ enc16 g.rate) ++ enc8 users))) ∧
    (s.host.run = .normal → s.host.service = true → s.store.saving = false → s.table.level < 2 → segments.length ≤ 8 →
      (¬(1 ≤ profile.toNat ∧ profile.toNat ≤ 8) →
        exec (.profilePut tag profile segments) s = .next (s.answering 0x30#8 tag .index [])) ∧
      (1 ≤ profile.toNat → profile.toNat ≤ 8 →
        (∀ before g after, segments = before ++ g :: after → (∀ x ∈ before, Rule.SegmentFits x) → ¬Rule.SegmentFits g →
          exec (.profilePut tag profile segments) s =
            .next (s.answering 0x30#8 tag .range (enc8 (before.length + 1)))) ∧
        ((∀ g ∈ segments, Rule.SegmentFits g) →
          (segments ≠ [] → (segments.map fun g => g.1.toNat).sum = 1000 →
            exec (.profilePut tag profile segments) s = .next (State.answering 0x30#8 tag .accepted
              ([profile] ++ enc8 users)
              { s with
                profiles := Table.put profile.toNat
                  (segments.map fun g => { width := g.1.toNat, rate := g.2.toNat }) s.profiles })) ∧
          (segments ≠ [] → (segments.map fun g => g.1.toNat).sum ≠ 1000 →
            exec (.profilePut tag profile segments) s = .next (s.answering 0x30#8 tag .range [0#8])) ∧
          (segments = [] → users ≠ 0 →
            exec (.profilePut tag profile segments) s = .next (s.answering 0x30#8 tag .state [])) ∧
          (segments = [] → users = 0 →
            exec (.profilePut tag profile segments) s = .next (State.answering 0x30#8 tag .accepted [profile, 0#8]
              { s with profiles := Table.erase profile.toNat s.profiles })))))

/-! ### Requests on the part, the clock and the notices -/

/-- R175, R174, 12.2: NOTE.TAKE in every state in which the host link is IDLE. -/
def Obligations.NoteTakeRemovesTheOldestNotices : Prop :=
  ∀ (tag : Byte) (s : State), s.host.phase = .idle → exec (.noteTake tag) s = .next (State.answering 0x05#8 tag .accepted
    (encFlag s.host.dropped ++ enc8 (s.host.notices.length - 8) ++ enc8 (min s.host.notices.length 8) ++
      (s.host.notices.take 8).flatMap fun n =>
        enc8 n.kind.toCode ++ wordBytes n.uptime ++
          (match n.time with
            | none => [0#8]
            | some t => 1#8 :: (enc8 t.day ++ enc16 t.minute ++ enc8 t.second)) ++
          enc8 (n.unit.getD 0) ++ (match n.stage with
            | none => [0#8]
            | some st => enc8 (stageCode st)) ++ enc8 (n.zone.getD 0) ++
          (match n.value with
            | none => [0#8]
            | some v => 1#8 :: wordBytes (BitVec.ofInt 32 v)))
    { s with
      host := { s.host with
        notices := s.host.notices.drop 8
        dropped := s.host.dropped && decide (8 < s.host.notices.length)
        note := s.host.note && decide (8 < s.host.notices.length) } })

/-- R138, R24, R43, R121: PART.RELEASE with SMOKE asserted, in NORMAL, and in SHUTDOWN with SMOKE negated. -/
def Obligations.PartReleaseReturnsToNormal : Prop :=
  ∀ (tag : Byte) (s : State), s.host.phase = .idle →
    (s.host.smoke = true → exec (.partRelease tag) s = .next (s.answering 0x04#8 tag .state [])) ∧
    (s.host.smoke = false → s.host.run = .normal →
      exec (.partRelease tag) s = .next (s.answering 0x04#8 tag .accepted [0#8])) ∧
    (s.host.smoke = false → s.host.run = .shutdown → ∃ t, exec (.partRelease tag) s = .next t ∧
      t = State.answering 0x04#8 tag .accepted [0#8]
        { s with
          host := { s.host with
            run := .normal
            notices := if s.host.notices.length < 32 then
              s.host.notices ++ [{ kind := .shutdownOff, uptime := s.uptime, time := s.schedule.clock.time,
                                   unit := none, stage := none, zone := none, value := none }]
              else s.host.notices
            note := if s.host.notices.length < 32 then true else s.host.note
            dropped := if s.host.notices.length < 32 then s.host.dropped else true }
          arbiter := { s.arbiter with stagger := .running s.meter.limits.spacing }
          units := t.units } ∧
      ∀ u, t.unit u = (s.unit u).map fun b =>
        if b.zone = 0 then { b with fan := { b.fan with target := 0 }, damper := { b.damper with target := 0 } } else b)

/-- R153, R152: PART.PROTECT with the keyswitch on, in NORMAL, with no save in progress, at every level. -/
def Obligations.PartProtectSetsTheLevel : Prop :=
  ∀ (tag level hold : Byte) (s : State), s.host.phase = .idle → s.host.service = true →
    s.host.run = .normal → s.store.saving = false →
    (s.table.hold = true → s.host.protect = true →
      exec (.partProtect tag level hold) s = .next (s.answering 0x03#8 tag .locked [])) ∧
    ((s.table.hold && s.host.protect) = false →
      (3 < level.toNat → exec (.partProtect tag level hold) s = .next (s.answering 0x03#8 tag .range [1#8])) ∧
      (level.toNat ≤ 3 → 1 < hold.toNat →
        exec (.partProtect tag level hold) s = .next (s.answering 0x03#8 tag .range [2#8])) ∧
      (level.toNat ≤ 3 → hold.toNat ≤ 1 →
        exec (.partProtect tag level hold) s = .next (State.answering 0x03#8 tag .accepted [level, hold]
          { s with table := { s.table with level := level.toNat, hold := decide (hold.toNat = 1) } })))

/-- R171, R12, R23, R42, R91, R108, R119, R126, R122: PART.RESTART in NORMAL. That the economizer's available flag goes with the
economizer, and that the uptimes of the level steps become absent in zones that were in IDLE too, is the model's reading of
R91 (log 19). -/
def Obligations.PartRestartReturnsTheWorkingState : Prop :=
  ∀ (tag : Byte) (s : State), s.host.phase = .idle → s.host.run = .normal →
    (s.store.saving = true → exec (.partRestart tag) s = .next (s.answering 0x02#8 tag .busy [])) ∧
    (s.store.saving = false → QueueLaw s → ∃ t, exec (.partRestart tag) s = .next t ∧
      t = State.answering 0x02#8 tag .accepted
        (enc8 (s.units.map fun p => [StageName.c1, .c2, .c3, .c4, .h1, .h2].countP p.2.isOn).sum ++
          enc8 s.arbiter.queue.length)
        { s with
          arbiter := { s.arbiter with queue := [], stagger := .running s.meter.limits.spacing, attempt := none }
          schedule := { s.schedule with window := none }
          units := t.units
          zones := t.zones } ∧
      (∀ z, t.zone z = (s.zone z).map fun r =>
        { r with
          mode := .idle, level := 0, capacity := 0, wanted := 0, econAvailable := false, econOn := false,
          stepOwed := false, holdOrder := [], lastIncrease := none, lastDecrease := none, lastMode := .idle,
          forced := none, changeover := .stopped, evaluation := .running r.config.period }) ∧
      (∀ u, (t.unit u).isSome = (s.unit u).isSome) ∧
      ∀ u b, s.unit u = some b → ∃ b', t.unit u = some b' ∧
        b'.anyEngaged = false ∧ StopFollows .normal .restart b b' ∧
        ∀ st, match b.stages.get st with
          | none => b'.stages.get st = none
          | some r => ∃ r', b'.stages.get st = some r' ∧
            if r.state = .queued then r' = { r with state := .off }
            else if r.state.isOn = true then StoppedAtOnce b.copy s.uptime .restart r r'
            else r' = r)

/-- R96, R55, R54, R99, with log 8 on the order of delivery and close: CLOCK.SET in every state in which the host link is IDLE.
That the reply carries all five fields as the clock as set is log 22's reading. -/
def Obligations.ClockSetSetsTheClockAndClosesTheInterval : Prop :=
  ∀ (tag day : Byte) (minute : Half) (second mark weekday : Byte) (s : State), s.host.phase = .idle →
    (¬(1 ≤ day.toNat ∧ day.toNat ≤ 8) →
      exec (.clockSet tag day minute second mark weekday) s = .next (s.answering 0x06#8 tag .range [1#8])) ∧
    (1 ≤ day.toNat → day.toNat ≤ 8 → 1439 < minute.toNat →
      exec (.clockSet tag day minute second mark weekday) s = .next (s.answering 0x06#8 tag .range [2#8])) ∧
    (1 ≤ day.toNat → day.toNat ≤ 8 → minute.toNat ≤ 1439 → 59 < second.toNat →
      exec (.clockSet tag day minute second mark weekday) s = .next (s.answering 0x06#8 tag .range [3#8])) ∧
    (1 ≤ day.toNat → day.toNat ≤ 8 → minute.toNat ≤ 1439 → second.toNat ≤ 59 → 1 < mark.toNat →
      exec (.clockSet tag day minute second mark weekday) s = .next (s.answering 0x06#8 tag .range [4#8])) ∧
    (1 ≤ day.toNat → day.toNat ≤ 8 → minute.toNat ≤ 1439 → second.toNat ≤ 59 → mark.toNat ≤ 1 →
      ¬(1 ≤ weekday.toNat ∧ weekday.toNat ≤ 7) →
      exec (.clockSet tag day minute second mark weekday) s = .next (s.answering 0x06#8 tag .range [5#8])) ∧
    (1 ≤ day.toNat → day.toNat ≤ 8 → minute.toNat ≤ 1439 → second.toNat ≤ 59 → mark.toNat ≤ 1 → 1 ≤ weekday.toNat →
      weekday.toNat ≤ 7 → ∀ seconds length effective, seconds = minute.toNat * 60 + second.toNat →
      length = s.meter.pendingLength.getD s.meter.limits.length → effective = length - seconds % length →
      ∃ t ceiling, exec (.clockSet tag day minute second mark weekday) s = .next t ∧
        (ceiling = Rule.ceiling s ∨ ceiling = Rule.ceiling t) ∧
        t.schedule = { s.schedule with
          clock := {
            time := some { day := day.toNat, minute := minute.toNat, second := second.toNat }
            holiday := decide (mark.toNat = 1), weekdayAfter := some weekday.toNat } } ∧
        (∀ z, t.zone z = (s.zone z).map fun r =>
          { r with cell := gridRead (cellIndex day.toNat z (minute.toNat / 15)) s.schedule.grid }) ∧
        t = { s with host := t.host, schedule := t.schedule, zones := t.zones, meter := t.meter, freeCount := t.freeCount } ∧
        t.meter = { s.meter with
          pendingLength := none
          interval := {
            start := some (day.toNat, minute.toNat), startUptime := s.uptime, length, effective, energy := 0, elapsed := 0,
            peak := 0, sheds := 0, clipped := decide (effective < length), unaligned := false, overrun := false }
          history := t.meter.history
          closeCount := t.meter.closeCount } ∧
        t.host = {
          (if s.meter.interval.elapsed ≠ 0 ∧ ceiling < s.meter.interval.energy / s.meter.interval.elapsed then
            noting { s with schedule := t.schedule } .intervalOver none none none
              (some ((s.meter.interval.energy / s.meter.interval.elapsed : Nat) : Int))
          else s.host) with
          phase := .answering
          reply := some {
            code := 0x86#8, tag, result := .accepted
            payload := [day] ++ halfBytes minute ++ [second, mark, weekday] ++ enc8 (minute.toNat / 15) ++
              enc16 (900 - seconds % 900) } } ∧
        if s.meter.interval.elapsed = 0 then
          t.meter.history = s.meter.history ∧ t.meter.closeCount = s.meter.closeCount
        else
          t.meter.history = (if s.meter.history.length < 96 then s.meter.history else s.meter.history.drop 1) ++ [{
            start := s.meter.interval.start, startUptime := s.meter.interval.startUptime
            length := s.meter.interval.elapsed, average := s.meter.interval.energy / s.meter.interval.elapsed
            peak := s.meter.interval.peak, ceiling, sheds := s.meter.interval.sheds, clipped := true
            unaligned := s.meter.interval.unaligned
            aboveCeiling := decide (ceiling < s.meter.interval.energy / s.meter.interval.elapsed)
            overrun := s.meter.interval.overrun }] ∧
          t.meter.closeCount = s.meter.closeCount + 1#32)

/-! ### Requests on units and stages -/

/-- R141, R142, R140: UNIT.PUT in NORMAL with no save in progress, of a list that the level and the keyswitch allow. A wrong index is
refused INDEX, and the first pair that names no field, names a field again or has a value outside its range is refused RANGE
with its identifier. When every pair fits, each field named takes its value and every other field keeps its own, or its default
when the descriptor was absent. A list of present = 0 alone removes the descriptor of an unbound unit and is refused TAKEN for a
bound one; present = 0 with other pairs is refused RANGE 0. That the differs flag is an optional field of the reply is log
21's choice. -/
def Obligations.UnitPutWritesTheFieldsItNames : Prop :=
  ∀ (tag unit : Byte) (pairs : List (Byte × Half)) (s : State),
    s.host.phase = .idle → s.host.run = .normal → s.store.saving = false → s.table.level ≤ 1 →
    1 ≤ pairs.length → pairs.length ≤ 40 →
    ((∃ p ∈ pairs, Rule.NamesSafety p) → s.host.service = true ∧ s.table.level = 0) →
    (¬(1 ≤ unit.toNat ∧ unit.toNat ≤ 24) →
      exec (.unitPut tag unit pairs) s = .next (s.answering 0x10#8 tag .index [])) ∧
    (1 ≤ unit.toNat → unit.toNat ≤ 24 →
      (∀ before p after, pairs = before ++ p :: after → (∀ q ∈ before, Rule.PairFits q) → (before.map Prod.fst).Nodup →
        ¬Rule.PairFits p ∨ p.1 ∈ before.map Prod.fst →
        exec (.unitPut tag unit pairs) s = .next (s.answering 0x10#8 tag .range [p.1])) ∧
      ((∀ p ∈ pairs, Rule.PairFits p) → (pairs.map Prod.fst).Nodup →
        ((0#8, 0#16) ∈ pairs → pairs.length ≠ 1 →
          exec (.unitPut tag unit pairs) s = .next (s.answering 0x10#8 tag .range [0#8])) ∧
        (pairs = [(0#8, 0#16)] → s.unit unit.toNat ≠ none →
          exec (.unitPut tag unit pairs) s = .next (s.answering 0x10#8 tag .taken [])) ∧
        (pairs = [(0#8, 0#16)] → s.unit unit.toNat = none →
          exec (.unitPut tag unit pairs) s = .next (State.answering 0x10#8 tag .accepted [unit, 0#8, 0#8]
            { s with table := { s.table with descriptors := Table.erase unit.toNat s.table.descriptors } })) ∧
        ((0#8, 0#16) ∉ pairs →
          ∃ d, exec (.unitPut tag unit pairs) s = .next (State.answering 0x10#8 tag .accepted
              ([unit, 1#8] ++ (match s.unit unit.toNat with
                | none => [0#8]
                | some b => [1#8] ++ encFlag (decide (d ≠ b.copy))))
              { s with table := { s.table with descriptors := Table.put unit.toNat d s.table.descriptors } }) ∧
            ∀ id, 1 ≤ id → id ≤ 28 → fieldOf d id =
              match pairs.find? fun p => p.1.toNat == id with
              | some p => p.2.toNat
              | none =>
                match Table.find unit.toNat s.table.descriptors with
                | some stored => fieldOf stored id
                | none => Rule.fieldDefault unit.toNat id)))

/-- R145, R146, R21, R113, R127, R147: UNIT.BIND in NORMAL with no save in progress and a level below 2. Where every check of R145
passes it makes the unit in every block; where one fails it is refused with the result of the first that does, and the field
of a RANGE. -/
def Obligations.UnitBindMakesABoundUnit : Prop :=
  ∀ (tag unit zone : Byte) (s : State), s.host.phase = .idle → s.host.run = .normal → s.store.saving = false →
    s.table.level < 2 →
    (∀ d, Rule.Bindable s unit.toNat zone.toNat d → ∃ t m, exec (.unitBind tag unit zone) s = .next t ∧
      Rule.Bound 0 unit.toNat zone.toNat d (fun _ => (0, 0)) s m ∧
      t = m.answering 0x12#8 tag .accepted ([unit, zone] ++
        enc8 ([StageName.c1, .c2, .c3, .c4, .h1, .h2].countP d.names))) ∧
    ((∀ d, ¬Rule.Bindable s unit.toNat zone.toNat d) → ∃ why field,
      Rule.BindRefused s unit.toNat zone.toNat why field ∧
      exec (.unitBind tag unit zone) s = .next (s.answering 0x12#8 tag why
        (match field with
          | none => []
          | some id => enc8 id)))

/-- R148, R157: UNIT.FREE in NORMAL with no save in progress and a level below 2: refused INDEX or ABSENT where no such unit is bound;
a bound unit with no stage engaged is discarded everywhere, and any other is refused STATE. That the hold order of the zone keeps
the places of the unit's stages is the model's choice (log 32). -/
def Obligations.UnitFreeDiscardsTheUnit : Prop :=
  ∀ (tag unit : Byte) (s : State), s.host.phase = .idle → s.host.run = .normal → s.store.saving = false →
    s.table.level < 2 →
    (¬(1 ≤ unit.toNat ∧ unit.toNat ≤ 24) → exec (.unitFree tag unit) s = .next (s.answering 0x13#8 tag .index [])) ∧
    (1 ≤ unit.toNat → unit.toNat ≤ 24 → s.unit unit.toNat = none →
      exec (.unitFree tag unit) s = .next (s.answering 0x13#8 tag .absent [])) ∧
    ∀ b, 1 ≤ unit.toNat → unit.toNat ≤ 24 → s.unit unit.toNat = some b →
    (b.anyEngaged = true → exec (.unitFree tag unit) s = .next (s.answering 0x13#8 tag .state [])) ∧
    (b.anyEngaged = false → ∃ t, exec (.unitFree tag unit) s = .next t ∧
      t = State.answering 0x13#8 tag .accepted (enc8 b.zone)
        { s with
          units := Table.erase unit.toNat s.units
          zones := t.zones
          roof := { s.roof with
            places := s.roof.places.map fun p => if p.unit = unit.toNat then { p with live := false } else p
            visit := s.roof.visit.map fun v => if v.unit = unit.toNat then { v with live := false } else v } } ∧
      t.unit unit.toNat = none ∧ (∀ u, u ≠ unit.toNat → t.unit u = s.unit u) ∧
      ∀ z, t.zone z = (s.zone z).map fun r =>
        if z = b.zone then { r with units := r.units.filter fun u => u ≠ unit.toNat } else r)

/-- R149, R25, R119, R124, R147, R162: UNIT.REFRESH in NORMAL with no save in progress and a level below 2: its refusals in their
order, and the refresh of a bound unit with no stage engaged whose stored descriptor fits. That a lapsed fallback is taken at
once only when the new copy has another fallback time is the model's reading of R162 (log 26), and that the limit record's trip
set loses the names the new copy no longer has is its reading of R149 (log 30). -/
def Obligations.UnitRefreshTakesTheStoredDescriptor : Prop :=
  ∀ (tag unit : Byte) (s : State), s.host.phase = .idle → s.host.run = .normal → s.store.saving = false →
    s.table.level < 2 →
    (¬(1 ≤ unit.toNat ∧ unit.toNat ≤ 24) → exec (.unitRefresh tag unit) s = .next (s.answering 0x14#8 tag .index [])) ∧
    (1 ≤ unit.toNat → unit.toNat ≤ 24 → s.unit unit.toNat = none →
      exec (.unitRefresh tag unit) s = .next (s.answering 0x14#8 tag .absent [])) ∧
    ∀ (b : BoundUnit) (d : Descriptor), 1 ≤ unit.toNat → unit.toNat ≤ 24 → s.unit unit.toNat = some b →
      Table.find unit.toNat s.table.descriptors = some d →
      (b.anyEngaged = true → exec (.unitRefresh tag unit) s = .next (s.answering 0x14#8 tag .state [])) ∧
      (b.anyEngaged = false →
        (∀ id, Rule.Misfit s.profiles d id →
          exec (.unitRefresh tag unit) s = .next (s.answering 0x14#8 tag .range (enc8 id))) ∧
        (FitsBinding s.profiles d → ¬AddressFree s unit.toNat d.busAddress →
          exec (.unitRefresh tag unit) s = .next (s.answering 0x14#8 tag .conflict [])) ∧
        (FitsBinding s.profiles d → AddressFree s unit.toNat d.busAddress → ∀ lapsed : Bool,
          (lapsed = true ↔ b.live.link = .lost ∧ b.fallbackTaken = false ∧ d.fallbackTime ≠ b.copy.fallbackTime ∧
            ∃ good, b.live.lastGood = some good ∧ d.fallbackTime ≤ (s.uptime - good).toNat) →
          ∃ t b', exec (.unitRefresh tag unit) s = .next t ∧
            t = State.answering 0x14#8 tag .accepted [unit, 0#8] { s with units := t.units } ∧
            t.unit unit.toNat = some b' ∧ (∀ u, u ≠ unit.toNat → t.unit u = s.unit u) ∧
            b' = { b with
              copy := d
              stages := b'.stages
              live := { b.live with
                running := Six.ofFn fun st => b.live.running.get st && d.names st
                unexpected := Six.ofFn fun st => b.live.unexpected.get st && d.names st }
              limit := { b.limit with trips := Six.ofFn fun st => b.limit.trips.get st && d.names st }
              lostOn := Six.ofFn fun st => b.lostOn.get st && d.names st && !lapsed
              fan := { b.fan with profile := d.fanProfile, position := if lapsed then 0 else b.fan.position }
              damper := { b.damper with profile := d.damperProfile, position := if lapsed then 0 else b.damper.position }
              gas := {
                profile := d.gasProfile
                target := if d.kind = .modulatingGas then b.gas.target else 0
                position := if lapsed = false ∧ d.kind = .modulatingGas then b.gas.position else 0 }
              gasReduction := if lapsed = false ∧ d.kind = .modulatingGas then b.gasReduction else 0
              fallbackTaken := b.fallbackTaken || lapsed
              purge := if d.purgeTime = 0 then .stopped else match b.purge with
                | .stopped => .stopped
                | .running left => .running (min left d.purgeTime) } ∧
            ∀ st,
              if d.names st = true then
                match b.stages.get st with
                | none => ∃ r, b'.stages.get st = some r ∧ FreshStage d (0, 0) r
                | some r => b'.stages.get st = some
                    (match r.state, r.minOff with
                      | .rest, .running left => { r with minOff := .running (min left d.minOff) }
                      | _, _ => r)
              else b'.stages.get st = none))

/-- R18, R17: STAGE.UNLOCK in NORMAL with the keyswitch on, at every level and during a save: its refusals INDEX, ABSENT and
STATE in their order, and the release of a locked-out stage. -/
def Obligations.StageUnlockReleasesALockedOutStage : Prop :=
  ∀ (tag unit stage : Byte) (s : State), s.host.phase = .idle → s.host.run = .normal → s.host.service = true →
    (¬(1 ≤ unit.toNat ∧ unit.toNat ≤ 24 ∧ 1 ≤ stage.toNat ∧ stage.toNat ≤ 6) →
      exec (.stageUnlock tag unit stage) s = .next (s.answering 0x19#8 tag .index [])) ∧
    ∀ st, stage.toNat = stageCode st → 1 ≤ unit.toNat → unit.toNat ≤ 24 →
      ((∀ b, s.unit unit.toNat = some b → b.stages.get st = none) →
        exec (.stageUnlock tag unit stage) s = .next (s.answering 0x19#8 tag .absent [])) ∧
      ∀ b r, s.unit unit.toNat = some b → b.stages.get st = some r →
        (r.state ≠ .lockout → exec (.stageUnlock tag unit stage) s = .next (s.answering 0x19#8 tag .state [])) ∧
        (r.state = .lockout →
          exec (.stageUnlock tag unit stage) s = .next (State.answering 0x19#8 tag .accepted []
            { s with
              units :=
                Table.put unit.toNat
                  { b with
                    stages :=
                      b.stages.set st (some { r with state := .rest, trips := 0, minOff := .running b.copy.minOff }) }
                  s.units }))

/-! ### Requests on zones, the schedule, the meter and the store -/

/-- R69, R67, R68, R74, R75: ZONE.PUT in NORMAL with no save in progress and a level below 2: its refusals INDEX, RANGE and STATE,
and the four rows of R69's table. A zone that is not defined, before or after, reads at the defaults of R67. -/
def Obligations.ZonePutDefinesChangesAndRemovesAZone : Prop :=
  ∀ (tag zone : Byte) (fields : ZoneFields) (s : State), s.host.phase = .idle → s.host.run = .normal →
    s.store.saving = false → s.table.level < 2 →
    (¬(1 ≤ zone.toNat ∧ zone.toNat ≤ 12) → ∀ flag,
      exec (.zonePut tag zone flag fields) s = .next (s.answering 0x20#8 tag .index [])) ∧
    (1 ≤ zone.toNat → zone.toNat ≤ 12 →
      (∀ flag : Byte, 1 < flag.toNat →
        exec (.zonePut tag zone flag fields) s = .next (s.answering 0x20#8 tag .range [0#8])) ∧
      (∀ n, 1 ≤ n → n ≤ 15 → ¬Rule.ZoneFieldFits fields n → (∀ m, 1 ≤ m → m < n → Rule.ZoneFieldFits fields m) →
        exec (.zonePut tag zone 1#8 fields) s = .next (s.answering 0x20#8 tag .range (enc8 n))) ∧
      ((∀ n, 1 ≤ n → n ≤ 15 → Rule.ZoneFieldFits fields n) → ∃ c, Rule.ZoneWritten fields c ∧
        (∀ r, s.zone zone.toNat = some r →
          exec (.zonePut tag zone 1#8 fields) s = .next (State.answering 0x20#8 tag .accepted []
            { s with zones := Table.put zone.toNat { r with config := c } s.zones })) ∧
        (s.zone zone.toNat = none → ∃ r, FreshZone c s.uptime
            (match s.schedule.clock.time with
              | none => { occupancy := c.fbOccupancy, cool := c.fbCool, heat := c.fbHeat }
              | some t => gridRead (cellIndex t.day zone.toNat (t.minute / 15)) s.schedule.grid) r ∧
          exec (.zonePut tag zone 1#8 fields) s = .next (State.answering 0x20#8 tag .accepted []
            { s with zones := Table.put zone.toNat r s.zones }))) ∧
      (∀ r, s.zone zone.toNat = some r → r.units ≠ [] →
        exec (.zonePut tag zone 0#8 fields) s = .next (s.answering 0x20#8 tag .state [])) ∧
      ((∀ r, s.zone zone.toNat = some r → r.units = []) → ∃ t,
        exec (.zonePut tag zone 0#8 fields) s = .next (State.answering 0x20#8 tag .accepted [] t) ∧
        t = { s with zones := t.zones } ∧ (∀ z, t.zone z = if z = zone.toNat then none else s.zone z) ∧
        t.zoneConfig zone.toNat = Rule.zoneDefaults ∧
        (s.zone zone.toNat = none → s.zoneConfig zone.toNat = Rule.zoneDefaults)))

/-- R88, R89: ZONE.OVERRIDE in NORMAL: its refusals INDEX, ABSENT and RANGE in their order, and on a defined zone the override it
places or clears (the mode force numbered as log 21 reads R88's list); at its expiry uptime an override is removed with one
OVERRIDE_END notice, and before it nothing happens. -/
def Obligations.OverridesArePlacedClearedAndExpire : Prop :=
  (∀ (tag zone : Byte) (duration cool heat : Half) (modeForce occForce : Option Byte) (s : State),
    s.host.phase = .idle → s.host.run = .normal →
    (¬(1 ≤ zone.toNat ∧ zone.toNat ≤ 12) →
      exec (.zoneOverride tag zone duration cool heat modeForce occForce) s = .next (s.answering 0x22#8 tag .index [])) ∧
    (1 ≤ zone.toNat → zone.toNat ≤ 12 → s.zone zone.toNat = none →
      exec (.zoneOverride tag zone duration cool heat modeForce occForce) s = .next (s.answering 0x22#8 tag .absent [])) ∧
    (1 ≤ zone.toNat → zone.toNat ≤ 12 → s.zone zone.toNat ≠ none →
      (720 < duration.toNat → exec (.zoneOverride tag zone duration cool heat modeForce occForce) s =
        .next (s.answering 0x22#8 tag .range [2#8])) ∧
      (duration.toNat ≤ 720 → (∃ m, modeForce = some m ∧ 3 < m.toNat) →
        exec (.zoneOverride tag zone duration cool heat modeForce occForce) s =
          .next (s.answering 0x22#8 tag .range [5#8])) ∧
      (duration.toNat ≤ 720 → (∀ m, modeForce = some m → m.toNat ≤ 3) → (∃ c, occForce = some c ∧ 2 < c.toNat) →
        exec (.zoneOverride tag zone duration cool heat modeForce occForce) s =
          .next (s.answering 0x22#8 tag .range [6#8])))) ∧
  ∀ (tag zone : Byte) (duration cool heat : Half) (modeForce occForce : Option Byte) (r : Zone) (s : State),
    1 ≤ zone.toNat → zone.toNat ≤ 12 → s.zone zone.toNat = some r →
    (s.host.phase = .idle → s.host.run = .normal → duration.toNat ≤ 720 → (∀ m, modeForce = some m → m.toNat ≤ 3) →
      (∀ c, occForce = some c → c.toNat ≤ 2) →
      (duration = 0#16 → exec (.zoneOverride tag zone duration cool heat modeForce occForce) s =
        .next (State.answering 0x22#8 tag .accepted [0#8] (s.putZone zone.toNat { r with forced := none }))) ∧
      (duration ≠ 0#16 → ∃ o, exec (.zoneOverride tag zone duration cool heat modeForce occForce) s =
          .next (State.answering 0x22#8 tag .accepted (1#8 :: wordBytes o.expiry)
            (s.putZone zone.toNat { r with forced := some o })) ∧
        o.expiry = s.uptime + BitVec.ofNat 32 (duration.toNat * 60) ∧
        o.cool = (if cool = 0x8000#16 then none else some (max 100 (min 350 cool.toInt)).toNat) ∧
        o.heat = (if heat = 0x8000#16 then none else some (max 100 (min 350 heat.toInt)).toNat) ∧
        o.modeForce.map ModeForce.toCode = modeForce.map BitVec.toNat ∧
        o.occForce.map Occupancy.toCode = occForce.map BitVec.toNat)) ∧
    (∀ o, r.forced = some o → s.uptime = o.expiry →
      exec (.overrideEnd zone.toNat) s = .next
        { s with
          zones := Table.put zone.toNat { r with forced := none } s.zones
          host := { s.host with
            notices := if s.host.notices.length < 32 then
              s.host.notices ++ [{ kind := .overrideEnd, uptime := s.uptime, time := s.schedule.clock.time,
                                   unit := none, stage := none, zone := some zone.toNat, value := none }]
              else s.host.notices
            note := if s.host.notices.length < 32 then true else s.host.note
            dropped := if s.host.notices.length < 32 then s.host.dropped else true } }) ∧
    (∀ o, r.forced = some o → (o.expiry - s.uptime).toNat ≤ 43200 → s.uptime ≠ o.expiry →
      exec (.overrideEnd zone.toNat) s = .next s) ∧
    (r.forced = none → exec (.overrideEnd zone.toNat) s = .next s)

/-- R100, R101, R107, R108: SCHED.WINDOW in NORMAL with no save in progress and a level below 3 opens a window over fields in
their ranges, is refused WINDOWED, or is refused RANGE with the number of the first field that fails; SCHED.END closes it with
its totals, or is refused NOWINDOW. -/
def Obligations.WindowsOpenAndCloseWithTheirTotals : Prop :=
  ∀ (tag day zLo zHi sLo sHi order direction mask compare occupancy : Byte) (s : State),
    s.host.phase = .idle → s.host.run = .normal →
    (s.store.saving = false → s.table.level < 3 →
      (s.schedule.window ≠ none →
        exec (.schedWindow tag day zLo zHi sLo sHi order direction mask compare occupancy) s =
          .next (s.answering 0x28#8 tag .windowed [])) ∧
      (s.schedule.window = none → ∀ n, 1 ≤ n → n ≤ 10 →
        ¬Rule.WindowFieldFits day zLo zHi sLo sHi order direction mask compare occupancy n →
        (∀ m, 1 ≤ m → m < n → Rule.WindowFieldFits day zLo zHi sLo sHi order direction mask compare occupancy m) →
        exec (.schedWindow tag day zLo zHi sLo sHi order direction mask compare occupancy) s =
          .next (s.answering 0x28#8 tag .range (enc8 n))) ∧
      (s.schedule.window = none →
        (∀ n, 1 ≤ n → n ≤ 10 → Rule.WindowFieldFits day zLo zHi sLo sHi order direction mask compare occupancy n) →
        ∃ w : Window, exec (.schedWindow tag day zLo zHi sLo sHi order direction mask compare occupancy) s =
            .next (State.answering 0x28#8 tag .accepted
              (enc16 ((zHi.toNat - zLo.toNat + 1) * (sHi.toNat - sLo.toNat + 1)) ++ enc8 w.cursorZone ++ enc8 w.cursorSlot)
              { s with schedule := { s.schedule with window := some w } }) ∧
          w.day = day.toNat ∧ w.zLo = zLo.toNat ∧ w.zHi = zHi.toNat ∧ w.sLo = sLo.toNat ∧ w.sHi = sHi.toNat ∧
          (w.zonesFirst = true ↔ order.toNat = 1) ∧ (w.descending = true ↔ direction.toNat = 1) ∧
          w.maskOcc = mask.getLsbD 0 ∧ w.maskCool = mask.getLsbD 1 ∧ w.maskHeat = mask.getLsbD 2 ∧
          w.compare = (if compare.toNat = 0 then .none else if compare.toNat = 1 then .ifEqual else .ifDifferent) ∧
          w.compareOcc.map Occupancy.toCode = (if compare.toNat = 0 then none else some occupancy.toNat) ∧
          w.wraps = 0 ∧ w.taken = 0 ∧ w.written = 0 ∧ w.skipped = 0 ∧
          w.cursorZone = (if direction.toNat = 1 then zHi.toNat else zLo.toNat) ∧
          w.cursorSlot = (if direction.toNat = 1 then sHi.toNat else sLo.toNat))) ∧
    (s.schedule.window = none → exec (.schedEnd tag) s = .next (s.answering 0x2A#8 tag .noWindow [])) ∧
    ∀ w, s.schedule.window = some w →
      exec (.schedEnd tag) s = .next (State.answering 0x2A#8 tag .accepted
        (enc32 w.taken ++ enc32 w.written ++ enc32 w.skipped ++ enc16 w.wraps ++ enc8 w.cursorZone ++ enc8 w.cursorSlot)
        { s with schedule := { s.schedule with window := none } })

/-- R102 to R105, R93: SCHED.FILL in NORMAL, with no save in progress and a level below 3: its refusals NOWINDOW, RANGE 0 and RANGE
n in their order, and of one value on an open window the cell under the cursor, the counts, the cursor and the wrap count after
it, the delivery of a cell in use, and no other cell. -/
def Obligations.SchedFillWritesOneValueAtTheCursor : Prop :=
  (∀ (tag mask : Byte) (values : List FillValue) (s : State),
    s.host.phase = .idle → s.host.run = .normal → s.store.saving = false → s.table.level < 3 → mask ≠ 0#8 →
    1 ≤ values.length → values.length ≤ 16 →
    (s.schedule.window = none → exec (.schedFill tag mask values) s = .next (s.answering 0x29#8 tag .noWindow [])) ∧
    ∀ w, s.schedule.window = some w →
      (¬Rule.SameMask mask w →
        exec (.schedFill tag mask values) s = .next (s.answering 0x29#8 tag .range [0#8])) ∧
      (Rule.SameMask mask w → w.maskOcc = true → ∀ before v after, values = before ++ v :: after →
        (∀ x ∈ before, x.occupancy.toNat ≤ 2) → 2 < v.occupancy.toNat →
        exec (.schedFill tag mask values) s = .next (s.answering 0x29#8 tag .range (enc8 (before.length + 1))))) ∧
  ∀ (tag mask : Byte) (v : FillValue) (w : Window) (s : State) (here : Nat) (before : Cell) (passes : Bool),
    s.host.phase = .idle → s.host.run = .normal → s.store.saving = false → s.table.level < 3 → s.schedule.window = some w →
    mask ≠ 0#8 → Rule.SameMask mask w →
    (w.maskOcc = true → v.occupancy.toNat ≤ 2) →
    here = cellIndex w.day w.cursorZone w.cursorSlot → before = gridRead here s.schedule.grid →
    passes = (match w.compare with
      | .none => true
      | .ifEqual => decide (w.compareOcc = some before.occupancy)
      | .ifDifferent => decide (w.compareOcc ≠ some before.occupancy)) →
    ∃ t after w', exec (.schedFill tag mask [v]) s = .next t ∧
      t = State.answering 0x29#8 tag .accepted
        (enc32 (if passes then 1 else 0) ++ enc32 (if passes then 0 else 1) ++ enc16 w'.wraps ++ enc8 w'.cursorZone ++
          enc8 w'.cursorSlot)
        { s with schedule := { s.schedule with grid := t.schedule.grid, window := some w' }, zones := t.zones } ∧
      (after.occupancy.toCode = if w.maskOcc then v.occupancy.toNat else before.occupancy.toCode) ∧
      (after.cool = if w.maskCool then (max 100 (min 350 v.cool.toInt)).toNat else before.cool) ∧
      (after.heat = if w.maskHeat then (max 100 (min 350 v.heat.toInt)).toNat else before.heat) ∧
      (∀ i, gridRead i t.schedule.grid = if i = here ∧ passes = true then after else gridRead i s.schedule.grid) ∧
      w'.taken = min 4294967295 (w.taken + 1) ∧
      w'.written = (if passes then min 4294967295 (w.written + 1) else w.written) ∧
      w'.skipped = (if passes then w.skipped else min 4294967295 (w.skipped + 1)) ∧
      w' = { w with taken := w'.taken, written := w'.written, skipped := w'.skipped, cursorZone := w'.cursorZone,
                    cursorSlot := w'.cursorSlot, wraps := w'.wraps } ∧
      (Rule.CursorInWindow w → Rule.CursorMoves w w') ∧
      ∀ z, t.zone z = (s.zone z).map fun r =>
        match s.schedule.clock.time with
        | none => r
        | some now => if passes = true ∧ here = cellIndex now.day z (now.minute / 15) then { r with cell := after } else r

/-- R102 to R105: where a value leaves the cursor of the window it is taken through, written or skipped (`Rule.CursorMoves`); and
a fill of several values leaves the part, but for the reply, as the fills of its values one after another do, each taken with
the host link as it was. -/
def Obligations.FillsWalkTheWindowInOrder : Prop :=
  (∀ w : Window, Rule.CursorInWindow w → Rule.CursorMoves w w.advance ∧
    w.advance = { w with
      cursorZone := w.advance.cursorZone, cursorSlot := w.advance.cursorSlot, wraps := w.advance.wraps }) ∧
  (∀ (tag mask : Byte) (v : FillValue) (w : Window) (s : State),
    s.host.phase = .idle → s.host.run = .normal → s.store.saving = false → s.table.level < 3 → s.schedule.window = some w →
    mask ≠ 0#8 → Rule.SameMask mask w → (w.maskOcc = true → v.occupancy.toNat ≤ 2) →
    ∃ t w', exec (.schedFill tag mask [v]) s = .next t ∧ t.schedule.window = some w' ∧
      w'.cursorZone = w.advance.cursorZone ∧ w'.cursorSlot = w.advance.cursorSlot ∧ w'.wraps = w.advance.wraps ∧
      (Rule.CursorInWindow w → Rule.CursorMoves w w' ∧ Rule.CursorInWindow w')) ∧
  ∀ (tag mask : Byte) (v : FillValue) (values : List FillValue) (w : Window) (s : State),
    s.host.phase = .idle → s.host.run = .normal → s.store.saving = false → s.table.level < 3 → s.schedule.window = some w →
    mask ≠ 0#8 → Rule.SameMask mask w →
    1 ≤ values.length → values.length < 16 → (w.maskOcc = true → ∀ x ∈ v :: values, x.occupancy.toNat ≤ 2) →
    ∃ s₁ s₂ t, exec (.schedFill tag mask [v]) s = .next s₁ ∧
      exec (.schedFill tag mask values) { s₁ with host := s.host } = .next s₂ ∧
      exec (.schedFill tag mask (v :: values)) s = .next t ∧ t = { s₂ with host := t.host } ∧
      t.host = { s.host with phase := .answering, reply := t.host.reply }

/-- R46, R47, R49, R45: DEMAND.LIMITS in NORMAL with no save in progress and a level below 3: refused RANGE with the number of the
first field that fails, or all seven fields written at once, the pending length, the fallback of a stale site load, and a site
load that a shorter time makes stale. -/
def Obligations.DemandLimitsWritesTheRecord : Prop :=
  ∀ (tag : Byte) (ceiling recovery cap length fallback stale spacing : Half) (s : State) (goesStale : Bool),
    s.host.phase = .idle → s.host.run = .normal → s.store.saving = false → s.table.level < 3 →
    (goesStale = true ↔ stale.toNat < s.meter.limits.stale ∧ s.meter.siteStale = false ∧
      ∃ age, s.meter.siteAge = some age ∧ stale.toNat ≤ age) →
    (∀ n, 1 ≤ n → n ≤ 7 → ¬Rule.LimitFits ceiling recovery cap length stale spacing n →
      (∀ m, 1 ≤ m → m < n → Rule.LimitFits ceiling recovery cap length stale spacing m) →
      exec (.demandLimits tag ceiling recovery cap length fallback stale spacing) s =
        .next (s.answering 0x38#8 tag .range (enc8 n))) ∧
    ((∀ n, 1 ≤ n → n ≤ 7 → Rule.LimitFits ceiling recovery cap length stale spacing n) →
      exec (.demandLimits tag ceiling recovery cap length fallback stale spacing) s =
        .next (State.answering 0x38#8 tag .accepted
          ((if 0 < Rule.recoveryZones s then halfBytes recovery else halfBytes ceiling) ++ halfBytes length)
          { s with
            meter := { s.meter with
              limits := { ceiling := ceiling.toNat, recovery := recovery.toNat, cap := cap.toNat, length := length.toNat,
                          fallback := fallback.toNat, stale := stale.toNat, spacing := spacing.toNat }
              pendingLength := if length.toNat = s.meter.interval.length then none else some length.toNat
              siteLoad := if s.meter.siteStale = true ∨ goesStale = true then fallback.toNat else s.meter.siteLoad
              siteStale := s.meter.siteStale || goesStale }
            host := if goesStale = true then noting s .siteStale none none none (some (fallback.toNat : Int)) else s.host }))

/-- R48, R49, R53, R59: DEMAND.SITE in every state in which the host link is IDLE, with its clamp; and the site load going stale
at the site-stale time, with one notice, and not before it. -/
def Obligations.TheSiteLoadIsTakenAndGoesStale : Prop :=
  ∀ (tag : Byte) (load : Word) (s : State),
    (s.host.phase = .idle → exec (.demandSite tag load) s = .next (State.answering 0x39#8 tag .accepted
      (enc16 (min 65535 (min 65535 load.toNat + Rule.hvacLoad s)) ++ enc16 (Rule.ceiling s) ++
        enc16 (s.meter.interval.effective - s.meter.interval.elapsed))
      { s with
        meter := { s.meter with siteLoad := min 65535 load.toNat, siteAge := some 0, siteStale := false } })) ∧
    (∀ age, s.meter.siteAge = some age → s.meter.siteStale = false → s.meter.limits.stale ≤ age →
      exec .siteStale s = .next
        { s with
          meter := { s.meter with siteLoad := s.meter.limits.fallback, siteStale := true }
          host := noting s .siteStale none none none (some (s.meter.limits.fallback : Int)) }) ∧
    (s.meter.siteStale = true ∨ (∀ age, s.meter.siteAge = some age → age < s.meter.limits.stale) →
      exec .siteStale s = .next s)

/-- R176, R177, R178: STORE.SAVE in NORMAL takes the tables, or is refused BUSY or WINDOWED; the completion marks the image
and raises its notice. -/
def Obligations.SavesTakeTheTablesAndComplete : Prop :=
  ∀ (tag : Byte) (s : State),
    (s.host.phase = .idle → s.host.run = .normal → s.store.saving = true →
      exec (.storeSave tag) s = .next (s.answering 0x40#8 tag .busy [])) ∧
    (s.host.phase = .idle → s.host.run = .normal → s.store.saving = false → s.schedule.window ≠ none →
      exec (.storeSave tag) s = .next (s.answering 0x40#8 tag .windowed [])) ∧
    (s.host.phase = .idle → s.host.run = .normal → s.store.saving = false → s.schedule.window = none →
      ∃ image, exec (.storeSave tag) s = .next (State.answering 0x40#8 tag .accepted (enc8 s.store.state.toCode)
          { s with store := { image, state := s.store.state, saving := true } }) ∧
        image.mark = .failed ∧ image.format = 4 ∧ image.contents.descriptors = s.table.descriptors ∧
        image.contents.grid = s.schedule.grid ∧ image.contents.profiles = s.profiles ∧
        image.contents.limits = s.meter.limits ∧ image.contents.level = s.table.level ∧
        image.contents.hold = s.table.hold ∧
        (∀ z, Table.find z image.contents.zones = (s.zone z).map Zone.config) ∧
        (∀ u, (Table.find u image.contents.bindings).map SavedBinding.zone = (s.unit u).map BoundUnit.zone) ∧
        ∀ u b saved st, s.unit u = some b → Table.find u image.contents.bindings = some saved →
          saved.counters.get st = (b.stages.get st).map fun r => (r.starts, r.runtime)) ∧
    (s.store.saving = true → ∀ equal, exec (.saveCompletion equal) s = .next
      { s with
        store := {
          image := { s.store.image with mark := if equal then .clean else .failed, crcRight := equal }
          state := if equal then .valid else .failed
          saving := false }
        host := noting s (if equal then .storeDone else .storeFailed) none none none
          (if equal then some (s.store.image.contents.bindings.length : Int) else none) })

/-- R179, R45, R47, R67, R93: STORE.CLEAR in NORMAL with the keyswitch on and no save in progress. A fresh site load whose age has
reached the default site-stale time goes stale at once, as R45 and R47 say, and without a notice, as R179 says: log 16. -/
def Obligations.StoreClearReturnsEveryTableToItsDefault : Prop :=
  ∀ (tag : Byte) (s : State) (goesStale : Bool), s.host.phase = .idle → s.host.run = .normal → s.host.service = true →
    s.store.saving = false →
    (goesStale = true ↔ 120 < s.meter.limits.stale ∧ s.meter.siteStale = false ∧
      ∃ age, s.meter.siteAge = some age ∧ 120 ≤ age) →
    (0 < s.table.level → exec (.storeClear tag) s = .next (s.answering 0x41#8 tag .locked [])) ∧
    (s.table.level = 0 → (∃ p ∈ s.units, p.2.anyEngaged = true) →
      exec (.storeClear tag) s = .next (s.answering 0x41#8 tag .state [])) ∧
    (s.table.level = 0 → (∀ p ∈ s.units, p.2.anyEngaged = false) →
      ∃ t, exec (.storeClear tag) s = .next t ∧
        t = State.answering 0x41#8 tag .accepted (enc8 s.units.length)
          { s with
            units := []
            table := { descriptors := [], level := 0, hold := false }
            zones := []
            schedule := { s.schedule with grid := [], window := none }
            profiles := []
            meter := { s.meter with
              limits := { ceiling := 65000, recovery := 65000, cap := 65535, length := 900, fallback := 65535,
                          stale := 120, spacing := 30 }
              pendingLength := if 900 = s.meter.interval.length then none else some 900
              siteLoad := if s.meter.siteStale = true ∨ goesStale = true then 65535 else s.meter.siteLoad
              siteStale := s.meter.siteStale || goesStale }
            roof := { s.roof with
              places := s.roof.places.map fun p => if (s.unit p.unit).isSome then { p with live := false } else p
              visit := s.roof.visit.map fun v => if (s.unit v.unit).isSome then { v with live := false } else v }
            store := { image := t.store.image, state := .empty, saving := false } } ∧
        t.store.image.mark = .erased ∧ (∀ z, t.zoneConfig z = Rule.zoneDefaults) ∧
        ∀ i, gridRead i t.schedule.grid = { occupancy := .unoccupied, cool := 290, heat := 150 })

/-! ### The timers of stages, units and zones (R2) -/

/-- R16, R15, R77, R119, R127: what a due MIN_OFF_EXPIRY, CHANGEOVER_EXPIRY, PURGE_EXPIRY and HOLD_OFF_EXPIRY and a
TRIP_COUNT_CLEAR change, each in its one record; and none of the five changes anything before it is due (log 2). -/
def Obligations.DueExpiriesChangeTheirOneRecord : Prop :=
  ∀ (u z : Nat) (st : StageName) (s : State),
    (∀ b r, s.unit u = some b → b.stages.get st = some r →
      (r.minOff = .running 0 → r.state = .rest → ∃ t, exec (.minOffExpiry u st) s = .next t ∧
        OnlyUnit u { b with stages := b.stages.set st (some { r with state := .off, minOff := .stopped }) } s t) ∧
      (∀ start, r.state.isOn = true → r.lastStart = some start → 1800 ≤ (s.uptime - start).toNat →
        ∃ t, exec (.tripCountClear u st) s = .next t ∧
          OnlyUnit u { b with stages := b.stages.set st (some { r with trips := 0 }) } s t)) ∧
    (∀ r, s.zone z = some r → r.changeover = .running 0 → ∃ t, exec (.changeoverExpiry z) s = .next t ∧
      OnlyZone z { r with changeover := .stopped } s t) ∧
    (∀ b, s.unit u = some b → b.purge = .running 0 → ∃ t, exec (.purgeExpiry u) s = .next t ∧
      OnlyUnit u { b with purge := .stopped } s t) ∧
    (∀ b, s.unit u = some b → b.limit.holdOff = .running 0 → ∃ t, exec (.holdOffExpiry u) s = .next t ∧
      OnlyUnit u { b with limit := { b.limit with holdOff := .stopped } } s t) ∧
    (Table.wf s.units = true → Table.wf s.zones = true →
      (∀ b r, s.unit u = some b → b.stages.get st = some r →
        (r.minOff ≠ .running 0 → exec (.minOffExpiry u st) s = .next s) ∧
        ((r.state.isOn = false ∨ ∀ start, r.lastStart = some start → (s.uptime - start).toNat < 1800) →
          exec (.tripCountClear u st) s = .next s)) ∧
      (∀ r, s.zone z = some r → r.changeover ≠ .running 0 → exec (.changeoverExpiry z) s = .next s) ∧
      ∀ b, s.unit u = some b →
        (b.purge ≠ .running 0 → exec (.purgeExpiry u) s = .next s) ∧
        (b.limit.holdOff ≠ .running 0 → exec (.holdOffExpiry u) s = .next s))

/-- R11, R7, R13, R14, R119, R87: the end of min-on takes a HOLD stage to REST with its pending cause and leaves the state of
any other; the end of proving trips a PROVING stage of an ONLINE unit with its notice and marks it overdue on any other. -/
def Obligations.MinOnAndProvingEndRuns : Prop :=
  ∀ (u : Nat) (st : StageName) (b : BoundUnit) (r : StageRec) (s : State),
    s.unit u = some b → b.stages.get st = some r →
    (∀ cause, r.minOn = .running 0 → r.state = .hold → r.pendingCause = some cause →
      ∃ t b' r', exec (.minOnExpiry u st) s = .next t ∧ OnlyUnit u b' s t ∧ b'.stages = b.stages.set st (some r') ∧
        StoppedToRest b.copy s.uptime cause r r' ∧ r'.pendingCause = none ∧ r'.minOn = .stopped ∧ r'.trips = r.trips ∧
        r'.proving = r.proving ∧ r'.overdue = r.overdue ∧ StopFollows s.host.run cause b b') ∧
    (r.minOn = .running 0 → r.state ≠ .hold → ∃ t, exec (.minOnExpiry u st) s = .next t ∧
      OnlyUnit u { b with stages := b.stages.set st (some { r with minOn := .stopped }) } s t) ∧
    (r.proving = .running 0 → r.state = .proving → b.live.link = .online →
      ∃ t b' r', exec (.provingExpiry u st) s = .next t ∧ b'.stages = b.stages.set st (some r') ∧
        Tripped b.copy s.uptime .noProof r r' ∧ StopFollows s.host.run .noProof b b' ∧
        t.host = noting s (if r'.state = .lockout then .stageLockout else .stageTrip) (some u) (some st)
          (if b.zone = 0 then none else some b.zone) (some (r'.trips : Int)) ∧
        OnlyUnit u b' { s with host := t.host } t) ∧
    (r.proving = .running 0 → r.state = .proving → b.live.link ≠ .online →
      ∃ t, exec (.provingExpiry u st) s = .next t ∧
        OnlyUnit u { b with stages := b.stages.set st (some { r with proving := .stopped, overdue := true }) } s t)

/-! ### The start arbiter and the demand meter -/

/-- R34, R36 to R39, R60: the due expiry of the stagger timer stops it, and a grant attempt follows at once; before it is due
nothing changes (log 2). Every entry is of a bound unit, as `QueueLaw` has it. -/
def Obligations.StaggerExpiryMakesAGrantAttempt : Prop :=
  ∀ s : State, (∀ e ∈ s.arbiter.queue, s.unit e.unit ≠ none) →
    (s.arbiter.stagger = .running 0 → ∃ t, exec .staggerExpiry s = .next t ∧
      AttemptResult .stagger { s with arbiter := { s.arbiter with stagger := .stopped } } t) ∧
    (s.arbiter.stagger ≠ .running 0 → exec .staggerExpiry s = .next s)

/-- R57, R58, R60 to R63: the accumulation event. A second of load is added; an interval that is full closes, with its record
and its notice, and the next one opens; otherwise the projection decides between a grant attempt, one shed and an overrun.
The table of units has its form, and every entry is of a bound unit, as `QueueLaw` has it. -/
def Obligations.TheAccumulationEventMetersSheddingAndGrants : Prop :=
  ∀ (s : State) (load : Nat) (i : Interval) (priority : BoundUnit → Nat) (started : StageRec → Nat),
    (∀ b, priority b = ((s.zone b.zone).map fun r => r.config.priority).getD 1) →
    (∀ r, started r = (r.lastStart.getD 0#32).toNat) → Table.wf s.units = true → load = Rule.presentLoad s →
    (∀ e ∈ s.arbiter.queue, s.unit e.unit ≠ none) →
    i = { s.meter.interval with energy := s.meter.interval.energy + load, elapsed := s.meter.interval.elapsed + 1,
                                peak := max s.meter.interval.peak load } →
    ∃ t, exec .accumulationEvent s = .next t ∧
      if i.elapsed = i.effective then
        t = { s with meter := t.meter, host := t.host } ∧
        t.meter = { s.meter with
          pendingLength := none
          interval := {
            start := s.schedule.clock.time.map fun now => (now.day, now.minute), startUptime := s.uptime
            length := s.meter.pendingLength.getD s.meter.limits.length
            effective := match s.schedule.clock.time with
              | none => s.meter.pendingLength.getD s.meter.limits.length
              | some now => s.meter.pendingLength.getD s.meter.limits.length -
                  (now.minute * 60 + now.second) % s.meter.pendingLength.getD s.meter.limits.length
            energy := 0, elapsed := 0, peak := 0, sheds := 0, clipped := false
            unaligned := s.schedule.clock.time.isNone, overrun := false }
          history := (if s.meter.history.length < 96 then s.meter.history else s.meter.history.drop 1) ++ [{
            start := i.start, startUptime := i.startUptime, length := i.elapsed, average := i.energy / i.elapsed
            peak := i.peak, ceiling := Rule.ceiling s, sheds := i.sheds, clipped := i.clipped, unaligned := i.unaligned
            aboveCeiling := decide (Rule.ceiling s < i.energy / i.elapsed), overrun := i.overrun }]
          closeCount := s.meter.closeCount + 1#32 } ∧
        t.host = if Rule.ceiling s < i.energy / i.elapsed then
          noting s .intervalOver none none none (some ((i.energy / i.elapsed : Nat) : Int)) else s.host
      else if i.energy + load * (i.effective - i.elapsed) ≤ Rule.ceiling s * i.effective then
        AttemptResult .meter { s with meter := { s.meter with interval := i } } t
      else
        ((∀ u b st r, s.unit u = some b → b.live.link = .online → b.stages.get st = some r → r.state = .run →
            r.minOn.isRunning = true) ∧
          AttemptResult .meter
            { s with
              meter := { s.meter with interval := { i with overrun := true } }
              host := if i.overrun = true then s.host else noting s .overrun none none none (some (load : Int)) } t) ∨
        (t = { s with meter := { s.meter with interval := { i with sheds := i.sheds + 1 } }, units := t.units } ∧
          ∃ u b st r b' r', s.unit u = some b ∧ b.live.link = .online ∧ b.stages.get st = some r ∧ r.state = .run ∧
            r.minOn.isRunning = false ∧
            (∀ v c st' q, s.unit v = some c → c.live.link = .online → c.stages.get st' = some q → q.state = .run →
              q.minOn.isRunning = false →
              priority b < priority c ∨ (priority b = priority c ∧
                (started q < started r ∨ (started q = started r ∧ (v < u ∨ (v = u ∧ stageCode st' ≤ stageCode st)))))) ∧
            (∀ v, t.unit v = if v = u then some b' else s.unit v) ∧ b'.stages = b.stages.set st (some r') ∧
            StoppedToRest b.copy s.uptime .shed r r' ∧
            MarksKept r r' ∧ r'.proving = r.proving ∧ StopFollows s.host.run .shed b b')

/-! ### Zones -/

/-- R71 to R81, R86, R87: a due evaluation, less the stages it asks for or stops: temperature, setpoints, mode, capacity, level,
economizer and channel targets; in SHUTDOWN only the first two. Before it is due nothing changes (log 2). Capacity, economizer
and engaged stages are written out in `Rule` (R77, R79). -/
def Obligations.ZoneEvaluationTakesItsSteps : Prop :=
  ∀ (z : Nat) (r : Zone) (s : State), s.zone z = some r →
    (r.evaluation ≠ .running 0 → exec (.zoneEvaluation z) s = .next s) ∧
    (r.evaluation = .running 0 → ∀ (readings : List Int) (cell : Cell) (cool heat : Nat) (force : ModeForce)
        (occupancy : Occupancy),
      readings = (r.units.filterMap fun u => (s.unit u).bind fun b =>
        if (b.live.link = .online ∨ b.live.link = .missing) ∧
            (b.live.lastGood.any fun g => decide ((s.uptime - g).toNat < r.config.staleTime)) = true ∧
            (b.live.space.any fun v => decide (-400 ≤ v) && decide (v ≤ 850)) = true then b.live.space else none) →
      cell = (if s.schedule.clock.time = none then
        { occupancy := r.config.fbOccupancy, cool := r.config.fbCool, heat := r.config.fbHeat } else r.cell) →
      cool = (r.forced.bind Override.cool).getD cell.cool → heat = (r.forced.bind Override.heat).getD cell.heat →
      force = (r.forced.bind Override.modeForce).getD .auto →
      occupancy = (r.forced.bind Override.occForce).getD cell.occupancy →
      ∃ t r', exec (.zoneEvaluation z) s = .next t ∧ t.zone z = some r' ∧ (∀ y, y ≠ z → t.zone y = s.zone y) ∧
        t = { s with zones := t.zones, units := t.units, arbiter := t.arbiter, host := t.host } ∧
        r'.config = r.config ∧ r'.units = r.units ∧ r'.forced = r.forced ∧ r'.evaluation = .running r.config.period ∧
        r'.cell = cell ∧
        (if readings = [] then
          r'.temperature = r.temperature ∧ r'.derivedAt = r.derivedAt ∧
            r'.sensorFault = (r.sensorFault || decide (r.config.staleTime ≤ (s.uptime - r.derivedAt).toNat))
        else
          r'.temperature = some ((2 * readings.sum + readings.length) / (2 * readings.length)) ∧
            r'.derivedAt = s.uptime ∧ r'.sensorFault = false) ∧
        t.host = (if r'.sensorFault = true ∧ r.sensorFault = false then
          noting s .sensorFault none none (some z) r.temperature else s.host) ∧
        (r'.appliedCool, r'.appliedHeat) = Rule.applied r.config.deadband cool heat ∧
        (s.host.run = .shutdown → t.units = s.units ∧ t.arbiter = s.arbiter ∧ r' = { r with
          cell := cell, temperature := r'.temperature, derivedAt := r'.derivedAt, sensorFault := r'.sensorFault
          appliedCool := r'.appliedCool, appliedHeat := r'.appliedHeat, evaluation := r'.evaluation }) ∧
        (s.host.run = .normal →
          (r.mode = .idle → r'.mode =
            match r'.temperature with
            | none => .idle
            | some v =>
              if r'.sensorFault then .idle
              else if (r.config.modeDiff : Int) ≤ v - r'.appliedCool ∧ force ≠ .off ∧ force ≠ .heatOnly ∧
                  0 < Rule.capacity s r false ∧ (r.changeover = .stopped ∨ r.lastMode ≠ .heat) then .cool
              else if (r.config.modeDiff : Int) ≤ r'.appliedHeat - v ∧ force ≠ .off ∧ force ≠ .coolOnly ∧
                  0 < Rule.capacity s r true ∧ r.changeover = .stopped then .heat
              else .idle) ∧
          (r.mode ≠ .idle →
            (r.level = 0 ∧ r.econOn = false ∧ ¬Rule.zoneEngaged s r (decide (r.mode = .heat)) → r'.mode = .idle) ∧
            (¬(r.level = 0 ∧ r.econOn = false ∧ ¬Rule.zoneEngaged s r (decide (r.mode = .heat))) → r'.mode = r.mode)) ∧
          r'.changeover = (if r'.mode = .idle ∧ r.mode ≠ .idle then .running r.config.changeover else r.changeover) ∧
          r'.lastMode = (if r.mode = .idle ∧ r'.mode ≠ .idle then r'.mode else r.lastMode) ∧
          (r'.mode = .idle → r'.level = 0 ∧ r'.capacity = 0 ∧ r'.wanted = 0 ∧ r'.econOn = false ∧ r'.econAvailable = false ∧
            (r.mode ≠ .idle → r'.stepOwed = false ∧ r'.holdOrder = [])) ∧
          (∀ (call : Int) (asked : Nat), r'.mode ≠ .idle →
            call = (match r'.temperature with
              | none => 0
              | some v => if r'.mode = .heat then r'.appliedHeat - v else v - r'.appliedCool) →
            asked = (if (r.config.stageDiff : Int) ≤ call then min r'.capacity (call.toNat / r.config.stageDiff) else 0) →
            r'.capacity = Rule.capacity s r (decide (r'.mode = .heat)) ∧
            r'.econAvailable = (decide (r'.mode = .cool) && Rule.economizer s r) ∧
            r'.econOn = (r'.econAvailable && decide (0 < r'.level)) ∧
            r'.wanted = (if r'.econAvailable then r'.level - 1 else r'.level) ∧
            ∃ forcedOff raised lowered : Bool,
              (forcedOff = true ↔ r'.sensorFault = true ∨ r'.temperature = none ∨ force = .off ∨
                force = (if r'.mode = .heat then .coolOnly else .heatOnly)) ∧
              (raised = true ↔ forcedOff = false ∧ r.level < asked ∧
                ∀ up, r.lastIncrease = some up → r.config.upDelay ≤ (s.uptime - up).toNat) ∧
              (lowered = true ↔ forcedOff = false ∧ raised = false ∧ 0 < r.level ∧
                call ≤ (((r.level - 1) * r.config.stageDiff : Nat) : Int) ∧
                ∀ down, r.lastDecrease = some down → r.config.downDelay ≤ (s.uptime - down).toNat) ∧
              r'.level = (if forcedOff then 0 else if raised then r.level + 1
                else min r'.capacity (if lowered then r.level - 1 else r.level)) ∧
              r'.lastIncrease = (if raised then some s.uptime else r.lastIncrease) ∧
              r'.lastDecrease = (if lowered then some s.uptime else r.lastDecrease)) ∧
          ∀ u, match s.unit u with
            | none => t.unit u = none
            | some b => ∃ b', t.unit u = some b' ∧
                b' = { b with
                  stages := b'.stages, purge := b'.purge, gas := b'.gas, gasReduction := b'.gasReduction
                  fan := { b.fan with target := b'.fan.target }, damper := { b.damper with target := b'.damper.target } } ∧
                b'.gas.profile = b.gas.profile ∧
                (u ∉ r.units → b'.fan = b.fan ∧ b'.damper = b.damper) ∧
                (u ∈ r.units →
                  b'.fan.target = (if occupancy = .unoccupied ∧ r'.level = 0 then 0 else r.config.occFan) ∧
                  b'.damper.target = (if r'.econOn = true ∧ b.copy.econPresent = true then b.copy.econPosition
                    else if occupancy = .occupied then b.copy.minVent else 0) ∧
                  (b.copy.kind = .modulatingGas → b.zone ≠ 0 →
                    b'.gas.target = if b'.isOn .h2 then 1000 else if b'.isOn .h1 then b.copy.gasLowFire else 0))))

/-- R82 to R85, R9, R11, R26, R28: step 5 of a due evaluation in NORMAL that leaves the zone in COOL or HEAT, by its wanted stages W and the
active count A as the evaluation finds it. A = W changes nothing. A above W withdraws the zone's newest entry, or else stops
one RUN stage: of the unit with most active stages, then most runtime, then the highest index, its highest stage; with none in
RUN nothing changes. A below W reclaims the newest stages held for SATISFIED, as many as are wanted and held. If stages are
still wanted and the request gate is open, one is requested: of the eligible unit with fewest engaged stages, then least
runtime, then the lowest index. Its entry has the fields of R26, the join rank as log 28 reads it, and stands directly before the
first entry of lower priority; a grant attempt with cause JOIN follows on the part as the join leaves it (`m`). With the gate
closed, no unit eligible or the queue full, nothing is requested. -/
def Obligations.ZonesMatchActiveStagesToWanted : Prop :=
  ∀ (z : Nat) (r r' : Zone) (s t : State) (active : Nat) (heat : Bool), s.zone z = some r → r.evaluation = .running 0 →
    s.host.run = .normal → exec (.zoneEvaluation z) s = .next t → t.zone z = some r' → r'.mode ≠ .idle →
    heat = decide (r'.mode = .heat) →
    active = (r.units.map fun u => ((s.unit u).map fun b => Rule.active b heat).getD 0).sum →
    (active = r'.wanted → t.arbiter = s.arbiter ∧ r'.holdOrder = r.holdOrder ∧
      ∀ u st, (t.unit u).bind (fun b => b.stages.get st) = (s.unit u).bind fun b => b.stages.get st) ∧
    (r'.wanted < active → (∃ e ∈ s.arbiter.queue, e.zone = z) → r'.holdOrder = r.holdOrder ∧
      ∃ e ∈ s.arbiter.queue, e.zone = z ∧
      (∀ f ∈ s.arbiter.queue, f.zone = z → f.joinRank.toNat ≤ e.joinRank.toNat) ∧
      t.arbiter = { s.arbiter with
        queue := s.arbiter.queue.filter fun f => !(f.unit == e.unit && f.stage == e.stage) } ∧
      ∀ u st, (t.unit u).bind (fun b => b.stages.get st) = ((s.unit u).bind fun b => b.stages.get st).map fun q =>
        if u = e.unit ∧ st = e.stage ∧ q.state = .queued then { q with state := .off } else q) ∧
    (r'.wanted < active → (∀ e ∈ s.arbiter.queue, e.zone ≠ z) →
      ((∀ u ∈ r.units, ∀ b st q, s.unit u = some b → isHeat st = heat → b.stages.get st = some q → q.state ≠ .run) →
        t.arbiter = s.arbiter ∧ r'.holdOrder = r.holdOrder ∧
        ∀ u st, (t.unit u).bind (fun b => b.stages.get st) = (s.unit u).bind fun b => b.stages.get st) ∧
      ((∃ u ∈ r.units, ∃ b st q, s.unit u = some b ∧ isHeat st = heat ∧ b.stages.get st = some q ∧ q.state = .run) →
        t.arbiter = s.arbiter ∧ ∃ u b st q q', u ∈ r.units ∧ s.unit u = some b ∧ isHeat st = heat ∧
        b.stages.get st = some q ∧ q.state = .run ∧
        (∀ st' p, isHeat st' = heat → b.stages.get st' = some p → p.state = .run → stageNumber st' ≤ stageNumber st) ∧
        (∀ v ∈ r.units, ∀ c, s.unit v = some c → ∀ st' p, isHeat st' = heat → c.stages.get st' = some p →
          p.state = .run → (∀ st'' p', isHeat st'' = heat → c.stages.get st'' = some p' → p'.state = .run →
            stageNumber st'' ≤ stageNumber st') →
          Rule.active c heat < Rule.active b heat ∨ (Rule.active c heat = Rule.active b heat ∧
            (p.runtime < q.runtime ∨ (p.runtime = q.runtime ∧ v ≤ u)))) ∧
        (if q.minOn = .stopped then
            StoppedToRest b.copy s.uptime .satisfied q q' ∧ MarksKept q q' ∧ q'.proving = q.proving ∧
              r'.holdOrder = r.holdOrder
          else q' = { q with state := .hold, pendingCause := some .satisfied } ∧
            r'.holdOrder = (r.holdOrder.filter fun p => !(p.1 == u && p.2 == st)) ++ [(u, st)]) ∧
        ∀ v st', (t.unit v).bind (fun c => c.stages.get st') =
          if v = u ∧ st' = st then some q' else (s.unit v).bind fun c => c.stages.get st')) ∧
    ∀ held kept : List (Nat × StageName), ∀ reclaimed : Nat → StageName → Option StageRec,
      held = r.holdOrder.filter (fun p => ((s.unit p.1).bind fun b => b.stages.get p.2).any fun q =>
        decide (q.state = .hold) && decide (q.pendingCause = some .satisfied)) →
      kept = held.take (held.length - (r'.wanted - active)) →
      (∀ u st, reclaimed u st = ((s.unit u).bind fun b => b.stages.get st).map fun q =>
        if (u, st) ∈ held.drop kept.length then { q with state := .run, pendingCause := none } else q) →
      active < r'.wanted → held.Nodup → (∀ p ∈ held, p.1 ∈ r.units ∧ isHeat p.2 = heat) → r.units.Nodup →
      r'.holdOrder = kept ∧
      (r'.wanted - active ≤ held.length → t.arbiter = s.arbiter ∧ r'.stepOwed = false ∧
        ∀ u st, (t.unit u).bind (fun b => b.stages.get st) = reclaimed u st) ∧
      (held.length < r'.wanted - active → ∀ owed gate : Bool,
        (owed = true ↔ held = [] ∧ (r.stepOwed = true ∨ r.level < r'.level)) →
        (gate = true ↔ owed = true ∨
          ∀ up, r'.lastIncrease = some up → r.config.upDelay ≤ (s.uptime - up).toNat) →
        (gate = false ∨ 32 ≤ s.arbiter.queue.length ∨
            (∀ u ∈ r.units, ∀ b st q, s.unit u = some b → ¬Rule.Eligible b heat st q) →
          t.arbiter = s.arbiter ∧ r'.stepOwed = owed ∧
          ∀ u st, (t.unit u).bind (fun b => b.stages.get st) = reclaimed u st) ∧
        (gate = true → s.arbiter.queue.length < 32 →
          (∃ u ∈ r.units, ∃ b st q, s.unit u = some b ∧ Rule.Eligible b heat st q) →
          t.arbiter.joinRank = s.arbiter.joinRank + 1#32 ∧ r'.stepOwed = false ∧
          ∃ u b st q q', u ∈ r.units ∧ s.unit u = some b ∧ Rule.Eligible b heat st q ∧
            (∀ v ∈ r.units, ∀ c st' p, s.unit v = some c → Rule.Eligible c heat st' p →
              Rule.engaged b heat < Rule.engaged c heat ∨ (Rule.engaged b heat = Rule.engaged c heat ∧
                (q.runtime < p.runtime ∨ (q.runtime = p.runtime ∧ u ≤ v)))) ∧
            (t.unit u).bind (fun c => c.stages.get st) = some q' ∧ (q'.state = .queued ∨ q'.state = .proving) ∧
            (∀ v st', ¬(v = u ∧ st' = st) → (t.unit v).bind (fun c => c.stages.get st') = reclaimed v st' ∨
              ∃ p p', reclaimed v st' = some p ∧ p.state = .queued ∧
                (t.unit v).bind (fun c => c.stages.get st') = some p' ∧ p'.state = .proving) ∧
            ∃ (e : Entry) (front back : List Entry) (m n : State),
              e = { unit := u, stage := st, zone := b.zone, priority := e.priority, load := b.copy.loads.get st
                    compressor := !isHeat st, joinUptime := s.uptime, joinRank := s.arbiter.joinRank } ∧
              (∀ y, s.zone b.zone = some y → e.priority = y.config.priority) ∧
              s.arbiter.queue = front ++ back ∧ (∀ f ∈ front, e.priority ≤ f.priority) ∧
              (∀ f, back.head? = some f → f.priority < e.priority) ∧
              m = { s with
                host := t.host, units := m.units, zones := m.zones
                arbiter := { s.arbiter with queue := front ++ e :: back, joinRank := s.arbiter.joinRank + 1#32 } } ∧
              (∀ y, m.zone y = if y = z then some { r' with stepOwed := owed } else s.zone y) ∧
              (∀ v, m.unit v = (s.unit v).map fun c =>
                { c with
                  stages := Six.ofFn fun st' =>
                    if v = u ∧ st' = st then some { q with state := .queued } else reclaimed v st' }) ∧
              ((∀ f ∈ s.arbiter.queue, s.unit f.unit ≠ none) → AttemptResult .join m n) ∧
              t = { n with units := t.units, zones := t.zones } ∧
              ∀ v st', (t.unit v).bind (fun c => c.stages.get st') = (n.unit v).bind fun c => c.stages.get st'))

/-! ### The clock and the ramps -/

/-- R95, R99: a clock tick. An invalid clock does not move; a valid one moves one second on, over midnight to the next day
type; at a slot boundary every zone takes its cell of the new slot. -/
def Obligations.ClockTickMovesTheClock : Prop :=
  ∀ s : State,
    (s.schedule.clock.time = none → exec .clockTick s = .next s) ∧
    ∀ (now next : TimeOfDay) (weekday : Nat) (mark : Bool), s.schedule.clock.time = some now →
      s.schedule.clock.weekdayAfter = some weekday → now.minute ≤ 1439 → now.second ≤ 59 →
      next = (if now.second < 59 then { now with second := now.second + 1 }
        else if now.minute < 1439 then { day := now.day, minute := now.minute + 1, second := 0 }
        else {
          day := if s.schedule.clock.holiday then 8 else if now.day = 8 then weekday else if now.day = 7 then 1
            else now.day + 1
          minute := 0, second := 0 }) →
      mark = (s.schedule.clock.holiday && !(decide (now.minute = 1439) && decide (now.second = 59))) →
      ∃ t, exec .clockTick s = .next t ∧
        t = { s with schedule := { s.schedule with clock := { s.schedule.clock with time := some next, holiday := mark } }
                     zones := t.zones } ∧
        ∀ z, t.zone z = (s.zone z).map fun r =>
          if next.second = 0 ∧ next.minute % 15 = 0 then
            { r with cell := gridRead (cellIndex next.day z (next.minute / 15)) s.schedule.grid }
          else r

/-- R116, R115, R118, R123, R125: a ramp step moves every channel that is not at its effective target toward it and never past
it; the channels of a LOST unit take none. -/
def Obligations.RampStepMovesEveryChannel : Prop :=
  ∀ s : State, ∃ t, exec .rampStep s = .next t ∧ t = { s with units := t.units } ∧
    (∀ u, (t.unit u).isSome = (s.unit u).isSome) ∧
    ∀ u b, s.unit u = some b → ∃ b', t.unit u = some b' ∧
      b' = { b with
        fan := { b.fan with position := b'.fan.position }
        damper := { b.damper with position := b'.damper.position }
        gas := { b.gas with position := b'.gas.position } } ∧
      (b.live.link = .lost → b' = b) ∧
      (b.live.link ≠ .lost →
        StepsTo s.profiles b.fan.profile b.fan.position
          (if b.fanHold then 0
            else if b.anyOn = true ∨ (s.host.run = .normal ∧ b.purge ≠ .stopped) then max b.fan.target b.copy.proofLevel
            else b.fan.target) b'.fan.position ∧
        StepsTo s.profiles b.damper.profile b.damper.position b.damper.target b'.damper.position ∧
        StepsTo s.profiles b.gas.profile b.gas.position
          (if b.gas.target = 0 then 0 else max b.copy.gasLowFire (b.gas.target - b.gasReduction)) b'.gas.position)

/-! ### The roof bus -/

/-- R155 to R158, 12.4: a poll cycle starts 1,000 ms or more after the start of the one before it, and never during a visit
(log 12). Its list holds every bound unit by ascending bus address, and the first visit begins with its command frame.
The end of any visit, judged or not, begins the next visit, of the next place that is not skipped, or ends the cycle
(`Rule.NextVisit`); the end of a visit whose unit was freed changes nothing else. -/
def Obligations.PollCyclesVisitEveryBoundUnit : Prop :=
  (∀ (ms : Nat) (s : State), Table.wf s.units = true → ms < 1000 →
    (s.roof.visit ≠ none ∨ (s.roof.places.length ≤ s.roof.next ∧ s.roof.start ≤ s.uptime.toNat * 1000 + ms ∧
        s.uptime.toNat * 1000 + ms < s.roof.start + 1000) → exec (.pollCycleStart ms) s = .next s) ∧
    (s.roof.visit = none → s.roof.next < s.roof.places.length ∨ s.roof.start + 1000 ≤ s.uptime.toNat * 1000 + ms →
      ∃ t, exec (.pollCycleStart ms) s = .next t ∧ t = { s with roof := t.roof } ∧
        t.roof.start = s.uptime.toNat * 1000 + ms ∧ (t.roof.places.map Place.unit).Perm (s.units.map Prod.fst) ∧
        (∀ p ∈ t.roof.places, p.live = true) ∧
        (t.roof.places.Pairwise fun p q => ∀ b c, s.unit p.unit = some b → s.unit q.unit = some c →
          b.copy.busAddress ≤ c.copy.busAddress) ∧
        match t.roof.places with
        | [] => t.roof.visit = none ∧ t.roof.next = 0 ∧ t.roof.lastCommand = s.roof.lastCommand
        | p :: _ => t.roof.next = 1 ∧ ∃ b, s.unit p.unit = some b ∧
            t.roof.visit = some { unit := p.unit, address := b.copy.busAddress, live := true } ∧
            Rule.CommandBytes s.host.run b t.roof.lastCommand)) ∧
  ∀ (received : List Byte) (s : State),
    (∀ v, s.roof.visit = some v → ∃ t, exec (.visitEnd received) s = .next t ∧ Rule.NextVisit s t ∧
      (v.live = false → t = { s with roof := t.roof })) ∧
    (s.roof.visit = none → exec (.visitEnd received) s = .next s)

/-- R159 to R162, R52, R33: the end of a visit without a good reply, after which the next visit begins, and the fallback expiry of a
LOST unit. Bytes without 14 from a start byte on, or with a frame whose address, kind or CRC is wrong, are no good reply. -/
def Obligations.MissesLoseAUnitAndFallBack : Prop :=
  (∀ (address : Nat) (received before after : List Byte), received = before ++ 0xA5#8 :: after → 0xA5#8 ∉ before →
    (after.length < 13 → judgeReply address received = none) ∧
    ∀ (a k c1 c0 : Byte) (contents rest : List Byte), after = a :: k :: contents ++ c1 :: c0 :: rest → contents.length = 9 →
      (a.toNat ≠ address ∨ k ≠ 0x52#8 ∨ crc16 (a :: k :: contents) ≠ half c1 c0) → judgeReply address received = none) ∧
  (∀ (address : Nat) (received : List Byte), 0xA5#8 ∉ received → judgeReply address received = none) ∧
  ∀ (received : List Byte) (v : Visit) (b : BoundUnit) (s : State), s.unit v.unit = some b →
    (s.roof.visit = some v → v.live = true → judgeReply v.address received = none →
      ∃ t, exec (.visitEnd received) s = .next t ∧ Rule.NextVisit s t ∧
        (b.live.link = .unknown ∨ b.live.link = .lost →
          OnlyUnit v.unit { b with misses := min 255 (b.misses + 1) } { s with roof := t.roof } t) ∧
        (b.live.link = .online →
          OnlyUnit v.unit { b with misses := 1, live := { b.live with link := .missing } } { s with roof := t.roof } t) ∧
        (b.live.link = .missing → b.misses < 3 →
          OnlyUnit v.unit { b with misses := b.misses + 1 } { s with roof := t.roof } t) ∧
        (b.live.link = .missing → 3 ≤ b.misses → ∀ lapsed : Bool,
          (lapsed = true ↔ b.fallbackTaken = false ∧
            ∃ good, b.live.lastGood = some good ∧ b.copy.fallbackTime ≤ (s.uptime - good).toNat) →
          t.host = noting s .unitLost (some v.unit) none (if b.zone = 0 then none else some b.zone)
            (b.live.lastGood.map fun good => ((s.uptime - good).toNat : Int)) ∧
          t.arbiter = { s.arbiter with queue := s.arbiter.queue.filter fun e => !(e.unit == v.unit) } ∧
          t = { s with host := t.host, arbiter := t.arbiter, units := t.units, roof := t.roof } ∧
          (∀ u, u ≠ v.unit → t.unit u = s.unit u) ∧ ∃ lost b', t.unit v.unit = some b' ∧
            lost = { b with misses := min 255 (b.misses + 1), live := { b.live with link := .lost }
                            lostOn := Six.ofFn b.isOn, stages := lost.stages } ∧
            (QueueLaw s → ∀ st, lost.stages.get st = (b.stages.get st).map fun r =>
              if r.state = .queued then { r with state := .off } else r) ∧
            (lapsed = false → b' = lost) ∧ (lapsed = true → Rule.FellBack s.host.run s.uptime lost b'))) ∧
    (b.live.link = .lost → b.fallbackTaken = false →
      (∃ good, b.live.lastGood = some good ∧ b.copy.fallbackTime ≤ (s.uptime - good).toNat) →
      ∃ t b', exec (.fallbackExpiry v.unit) s = .next t ∧ OnlyUnit v.unit b' s t ∧
        Rule.FellBack s.host.run s.uptime b b') ∧
    ((b.live.link ≠ .lost ∨ b.fallbackTaken = true ∨
      ∀ good, b.live.lastGood = some good → (s.uptime - good).toNat < b.copy.fallbackTime) →
      exec (.fallbackExpiry v.unit) s = .next s)

/-- R159, R160, R163 to R165, R14, R119, R120, R122, R123, R132 to R134, R147: a good reply, whatever its contents: the unit is
ONLINE with the readings and the flags of the reply; the stages with a trip bit, every heat stage at FLAME_FAIL and every stage
at FAN_FAIL are on no longer, and have tripped; but where a soft flag is reported too, the soft-limit action, taken first, may
have stopped the highest limited stage of a mode, which then counts no trip (R135). FAN_FAIL holds the fan at 0; the
unexpected-run set is what runs and is not on; the notices of the reply follow one another; the next visit begins, and no other
unit changes. That each part is taken whole, the proof and the stops as one part (log 31), that both stage sets hold named
stages only (log 24), and the order of UNIT_FOUND before trips before UNEXPECTED_RUN (log 7) are the model's readings. -/
def Obligations.GoodRepliesSetReadingsAndTrips : Prop :=
  ∀ (before after : List Byte) (reply : BoardReply) (v : Visit) (b : BoundUnit) (s : State) (zone : Option Nat),
    0xA5#8 ∉ before → v.address < 256 → s.roof.visit = some v → v.live = true → s.unit v.unit = some b →
    zone = (if b.zone = 0 then none else some b.zone) →
    (∀ x : Int, reply.space = some x ∨ reply.discharge = some x ∨ reply.outdoor = some x → -32767 ≤ x ∧ x ≤ 32767) →
    ∃ t b', exec (.visitEnd (before ++ replyFrame reply v.address ++ after)) s = .next t ∧ Rule.NextVisit s t ∧
      t = { s with host := t.host, units := t.units, roof := t.roof, freeCount := t.freeCount } ∧
      (∀ u, u ≠ v.unit → t.unit u = s.unit u) ∧ t.unit v.unit = some b' ∧
      b' = { b with
        live := { link := .online, lastGood := some s.uptime, space := reply.space, discharge := reply.discharge
                  outdoor := reply.outdoor, running := b'.live.running, unexpected := b'.live.unexpected }
        limit := {
          coolLimited := reply.flags.getLsbD 0 || reply.flags.getLsbD 1, heatLimited := reply.flags.getLsbD 2
          coilLow := reply.flags.getLsbD 0, headHigh := reply.flags.getLsbD 1, datHigh := reply.flags.getLsbD 2
          flameFail := reply.flags.getLsbD 3, fanFail := reply.flags.getLsbD 4
          trips := b'.limit.trips, holdOff := b'.limit.holdOff }
        misses := 0, fallbackTaken := false, lostOn := if b.live.link = .lost then noStages else b.lostOn
        stages := b'.stages, gas := b'.gas, gasReduction := b'.gasReduction, fanHold := reply.flags.getLsbD 4
        fan := if reply.flags.getLsbD 4 then { b.fan with position := 0 } else b.fan
        purge := if reply.flags.getLsbD 4 then .stopped else b'.purge } ∧
      (reply.flags.getLsbD 4 = false → PurgeFollows s.host.run .hardLimit b b') ∧
      (reply.flags.getLsbD 2 = false →
        GasFollows (HeatMoved b b') (if b.limit.heatLimited then 0 else b.gasReduction) b b') ∧
      (∀ st limited, limited = [StageName.c1, .c2, .c3, .c4, .h1, .h2].filter (fun x => isHeat x == isHeat st &&
          (b.stages.get x).any fun r => decide (r.state = .proving) || decide (r.state = .run) ||
            (decide (r.state = .hold) && decide (r.pendingCause = some .satisfied))) →
        b'.live.running.get st = (reply.running.getLsbD (stageCode st - 1) && b.names st) ∧
        b'.limit.trips.get st = (reply.trips.getLsbD (stageCode st - 1) && b.names st) ∧
        b'.live.unexpected.get st = (b'.live.running.get st && !b'.isOn st) ∧
        b'.names st = b.names st ∧ (b'.isOn st = true → b.isOn st = true) ∧
        (reply.trips.getLsbD (stageCode st - 1) = true ∨ reply.flags.getLsbD 4 = true ∨
          (reply.flags.getLsbD 3 = true ∧ isHeat st = true) →
          b'.isOn st = false ∧
          (reply.flags.getLsbD 0 = false → reply.flags.getLsbD 1 = false → reply.flags.getLsbD 2 = false →
            ∀ r, b.stages.get st = some r → r.state.isOn = true → ∃ r' cause, b'.stages.get st = some r' ∧
              (cause = .hardLimit ∨ cause = .fanFail ∨ (cause = .noProof ∧ r.overdue = true)) ∧
              Tripped b.copy s.uptime cause r r') ∧
          ∀ r, b.stages.get st = some r → r.state.isOn = true → ∃ r', b'.stages.get st = some r' ∧
            ((∃ cause, (cause = .hardLimit ∨ cause = .fanFail ∨ (cause = .noProof ∧ r.overdue = true)) ∧
                Tripped b.copy s.uptime cause r r') ∨
              limited.getLast? = some st ∧ StoppedToRest b.copy s.uptime .softLimit r r' ∧ r'.trips = r.trips))) ∧
      (s.host.notices.length ≤ 19 → ∃ found trips unexpected : List Notice,
        found = (if b.live.link = .lost then
          [{ kind := .unitFound, uptime := s.uptime, time := s.schedule.clock.time, unit := some v.unit, stage := none, zone
             value := b.live.lastGood.map fun good => ((s.uptime - good).toNat : Int) }] else []) ∧
        trips.Perm ([StageName.c1, .c2, .c3, .c4, .h1, .h2].filterMap fun st =>
          match b.stages.get st, b'.stages.get st with
          | some r, some r' =>
            if r'.trips = r.trips then none
            else some { kind := if r'.state = .lockout then .stageLockout else .stageTrip, uptime := s.uptime
                        time := s.schedule.clock.time, unit := some v.unit, stage := some st, zone
                        value := some (r'.trips : Int) }
          | _, _ => none) ∧
        unexpected.Perm (([StageName.c1, .c2, .c3, .c4, .h1, .h2].filter fun st =>
            b'.live.unexpected.get st && !b.live.unexpected.get st).map fun st =>
          { kind := .unexpectedRun, uptime := s.uptime, time := s.schedule.clock.time, unit := some v.unit
            stage := some st, zone, value := none }) ∧
        t.host = { s.host with
          notices := s.host.notices ++ found ++ trips ++ unexpected
          note := s.host.note || !(found ++ trips ++ unexpected).isEmpty }) ∧
      t.host = { s.host with notices := t.host.notices, note := t.host.note, dropped := t.host.dropped }

/-- R6, R7, R127, R129 to R131, R123: what a good reply without a trip bit, FLAME_FAIL and FAN_FAIL does to the stages. With no
soft flag, a PROVING stage in the running set runs, one that is overdue and not in it trips, and nothing else changes state.
With soft flags, no proof to judge, and limited stages of one mode at most: the action is taken when the limited stages reach
the soft count and the hold-off is stopped; it starts the hold-off, and stops the highest limited stage with SOFT_LIMIT, or,
for a modulating unit's heating with the valve above low fire, backs the gas off instead. Otherwise stages and hold-off
stay. That a PROVING stage so stopped keeps its min-on timer and its proof overdue in REST (`MarksKept`) is no sentence of R9: it
is the model's reading (log 10, DEDUCED) of R2, "Each timer is cancelled at the transitions that the following rules name". -/
def Obligations.GoodRepliesProveStagesAndLimitThem : Prop :=
  ∀ (reply : BoardReply) (v : Visit) (b : BoundUnit) (s : State) (limited : Bool → List StageName),
    v.address < 256 → s.roof.visit = some v → v.live = true → s.unit v.unit = some b →
    (∀ x : Int, reply.space = some x ∨ reply.discharge = some x ∨ reply.outdoor = some x → -32767 ≤ x ∧ x ≤ 32767) →
    reply.trips = 0#8 → reply.flags.getLsbD 3 = false → reply.flags.getLsbD 4 = false →
    (∀ heat, limited heat = (if heat then [StageName.h1, .h2] else [StageName.c1, .c2, .c3, .c4]).filter fun st =>
      (b.stages.get st).any fun r => decide (r.state = .proving) || decide (r.state = .run) ||
        (decide (r.state = .hold) && decide (r.pendingCause = some .satisfied))) →
    ∃ t b', exec (.visitEnd (replyFrame reply v.address)) s = .next t ∧ t.unit v.unit = some b' ∧
      (reply.flags.getLsbD 0 = false → reply.flags.getLsbD 1 = false → reply.flags.getLsbD 2 = false →
        b'.limit.holdOff = b.limit.holdOff ∧
        ∀ st, match b.stages.get st with
          | none => b'.stages.get st = none
          | some r => ∃ r', b'.stages.get st = some r' ∧
            if r.state = .proving ∧ reply.running.getLsbD (stageCode st - 1) = true then
              r' = { r with state := .run, proving := .stopped, overdue := false }
            else if r.state = .proving ∧ r.overdue = true then Tripped b.copy s.uptime .noProof r r'
            else r' = r) ∧
      ∀ (heat flagged : Bool) (reduction : Nat),
        flagged = (if heat then reply.flags.getLsbD 2 else reply.flags.getLsbD 0 || reply.flags.getLsbD 1) →
        reduction = (if b.limit.heatLimited = true ∧ reply.flags.getLsbD 2 = false then 0 else b.gasReduction) →
        flagged = true → limited (!heat) = [] → 1 ≤ b.copy.softCount →
        (∀ st r, b.stages.get st = some r → r.state = .proving →
          reply.running.getLsbD (stageCode st - 1) = false ∧ r.overdue = false) →
        ((limited heat).length < b.copy.softCount ∨ b.limit.holdOff ≠ .stopped →
          b'.stages = b.stages ∧ b'.limit.holdOff = b.limit.holdOff ∧ b'.gas = b.gas ∧ b'.gasReduction = reduction) ∧
        (b.copy.softCount ≤ (limited heat).length → b.limit.holdOff = .stopped → b'.limit.holdOff = .running 120 ∧
          (heat = true ∧ b.copy.kind = .modulatingGas ∧ b.copy.gasLowFire < b.gas.position →
            b'.stages = b.stages ∧ b'.gas = b.gas ∧ b'.gasReduction = min 1000 (reduction + b.copy.gasBackoff)) ∧
          (¬(heat = true ∧ b.copy.kind = .modulatingGas ∧ b.copy.gasLowFire < b.gas.position) →
            GasFollows (HeatMoved b b') reduction b b' ∧
            ∃ st r r', (limited heat).getLast? = some st ∧ b.stages.get st = some r ∧
              b'.stages = b.stages.set st (some r') ∧
              if r.state = .hold ∨ (r.state = .run ∧ r.minOn ≠ .stopped) then
                r' = { r with state := .hold, pendingCause := some .softLimit }
              else StoppedToRest b.copy s.uptime .softLimit r r' ∧ MarksKept r r' ∧
                r'.proving = (if r.state = .proving then .stopped else r.proving)))

/-! ### What every step keeps -/

/-- The form of the tables, live and saved, and the law of the notice queue (R173 to R175) hold after every step. -/
def Obligations.EveryStepKeepsTablesAndNoticesInForm : Prop :=
  ∀ s t : State, (TableLaw s → step s = .next t → TableLaw t) ∧ (NoticeLaw s → step s = .next t → NoticeLaw t)

/-- R54, R57, R63, R45: every step keeps the interval, its energy and the history in their ranges. -/
def Obligations.EveryStepKeepsTheMeterInItsRanges : Prop :=
  ∀ s t : State, MeterLaw s → step s = .next t → MeterLaw t

/-- R3, R4, R27, R136: after every step the queue holds exactly the stages in QUEUED, each once, and at most 32; in SHUTDOWN it
is empty and no stage is engaged. -/
def Obligations.EveryStepKeepsTheQueueAndTheStagesInAgreement : Prop :=
  ∀ s t : State, QueueLaw s → step s = .next t → QueueLaw t

/-- R118, R120, R36: after every step the fan of a unit with a stage on stands at or above its proof level. -/
def Obligations.EveryStepKeepsTheFanAtItsFloor : Prop :=
  ∀ s t : State, FanLaw s → step s = .next t → FanLaw t

/-- R145, R146, R148, R149: after every step the bindings and the unit lists of the zones agree, a list holds at most 4 units, and
no two bound units share a bus address. -/
def Obligations.EveryStepKeepsBindingsAndUnitListsInAgreement : Prop :=
  ∀ s t : State, BindingLaw s → step s = .next t → BindingLaw t
end

