-- ==== Sys2Proof/Laws/State.lean ====
section
/-! SUPPORT. One lemma per field per named update of State, so that no proof unfolds a record update. -/

namespace Sys2Proof.Machine

variable (s : State)

/-! ### setHost -/

@[simp] theorem setHost_pending (h : HostLink) : (s.setHost h).pending = s.pending := rfl
@[simp] theorem setHost_freeCount (h : HostLink) : (s.setHost h).freeCount = s.freeCount := rfl
@[simp] theorem setHost_uptime (h : HostLink) : (s.setHost h).uptime = s.uptime := rfl
@[simp] theorem setHost_host (h : HostLink) : (s.setHost h).host = h := rfl
@[simp] theorem setHost_table (h : HostLink) : (s.setHost h).table = s.table := rfl
@[simp] theorem setHost_units (h : HostLink) : (s.setHost h).units = s.units := rfl
@[simp] theorem setHost_arbiter (h : HostLink) : (s.setHost h).arbiter = s.arbiter := rfl
@[simp] theorem setHost_meter (h : HostLink) : (s.setHost h).meter = s.meter := rfl
@[simp] theorem setHost_zones (h : HostLink) : (s.setHost h).zones = s.zones := rfl
@[simp] theorem setHost_schedule (h : HostLink) : (s.setHost h).schedule = s.schedule := rfl
@[simp] theorem setHost_profiles (h : HostLink) : (s.setHost h).profiles = s.profiles := rfl
@[simp] theorem setHost_roof (h : HostLink) : (s.setHost h).roof = s.roof := rfl
@[simp] theorem setHost_store (h : HostLink) : (s.setHost h).store = s.store := rfl

/-! ### setTable -/

@[simp] theorem setTable_pending (t : UnitTable) : (s.setTable t).pending = s.pending := rfl
@[simp] theorem setTable_freeCount (t : UnitTable) : (s.setTable t).freeCount = s.freeCount := rfl
@[simp] theorem setTable_uptime (t : UnitTable) : (s.setTable t).uptime = s.uptime := rfl
@[simp] theorem setTable_host (t : UnitTable) : (s.setTable t).host = s.host := rfl
@[simp] theorem setTable_table (t : UnitTable) : (s.setTable t).table = t := rfl
@[simp] theorem setTable_units (t : UnitTable) : (s.setTable t).units = s.units := rfl
@[simp] theorem setTable_arbiter (t : UnitTable) : (s.setTable t).arbiter = s.arbiter := rfl
@[simp] theorem setTable_meter (t : UnitTable) : (s.setTable t).meter = s.meter := rfl
@[simp] theorem setTable_zones (t : UnitTable) : (s.setTable t).zones = s.zones := rfl
@[simp] theorem setTable_schedule (t : UnitTable) : (s.setTable t).schedule = s.schedule := rfl
@[simp] theorem setTable_profiles (t : UnitTable) : (s.setTable t).profiles = s.profiles := rfl
@[simp] theorem setTable_roof (t : UnitTable) : (s.setTable t).roof = s.roof := rfl
@[simp] theorem setTable_store (t : UnitTable) : (s.setTable t).store = s.store := rfl

/-! ### setUnits -/

@[simp] theorem setUnits_pending (t : Table BoundUnit) : (s.setUnits t).pending = s.pending := rfl
@[simp] theorem setUnits_freeCount (t : Table BoundUnit) : (s.setUnits t).freeCount = s.freeCount := rfl
@[simp] theorem setUnits_uptime (t : Table BoundUnit) : (s.setUnits t).uptime = s.uptime := rfl
@[simp] theorem setUnits_host (t : Table BoundUnit) : (s.setUnits t).host = s.host := rfl
@[simp] theorem setUnits_table (t : Table BoundUnit) : (s.setUnits t).table = s.table := rfl
@[simp] theorem setUnits_units (t : Table BoundUnit) : (s.setUnits t).units = t := rfl
@[simp] theorem setUnits_arbiter (t : Table BoundUnit) : (s.setUnits t).arbiter = s.arbiter := rfl
@[simp] theorem setUnits_meter (t : Table BoundUnit) : (s.setUnits t).meter = s.meter := rfl
@[simp] theorem setUnits_zones (t : Table BoundUnit) : (s.setUnits t).zones = s.zones := rfl
@[simp] theorem setUnits_schedule (t : Table BoundUnit) : (s.setUnits t).schedule = s.schedule := rfl
@[simp] theorem setUnits_profiles (t : Table BoundUnit) : (s.setUnits t).profiles = s.profiles := rfl
@[simp] theorem setUnits_roof (t : Table BoundUnit) : (s.setUnits t).roof = s.roof := rfl
@[simp] theorem setUnits_store (t : Table BoundUnit) : (s.setUnits t).store = s.store := rfl

/-! ### setArbiter -/

@[simp] theorem setArbiter_pending (a : Arbiter) : (s.setArbiter a).pending = s.pending := rfl
@[simp] theorem setArbiter_freeCount (a : Arbiter) : (s.setArbiter a).freeCount = s.freeCount := rfl
@[simp] theorem setArbiter_uptime (a : Arbiter) : (s.setArbiter a).uptime = s.uptime := rfl
@[simp] theorem setArbiter_host (a : Arbiter) : (s.setArbiter a).host = s.host := rfl
@[simp] theorem setArbiter_table (a : Arbiter) : (s.setArbiter a).table = s.table := rfl
@[simp] theorem setArbiter_units (a : Arbiter) : (s.setArbiter a).units = s.units := rfl
@[simp] theorem setArbiter_arbiter (a : Arbiter) : (s.setArbiter a).arbiter = a := rfl
@[simp] theorem setArbiter_meter (a : Arbiter) : (s.setArbiter a).meter = s.meter := rfl
@[simp] theorem setArbiter_zones (a : Arbiter) : (s.setArbiter a).zones = s.zones := rfl
@[simp] theorem setArbiter_schedule (a : Arbiter) : (s.setArbiter a).schedule = s.schedule := rfl
@[simp] theorem setArbiter_profiles (a : Arbiter) : (s.setArbiter a).profiles = s.profiles := rfl
@[simp] theorem setArbiter_roof (a : Arbiter) : (s.setArbiter a).roof = s.roof := rfl
@[simp] theorem setArbiter_store (a : Arbiter) : (s.setArbiter a).store = s.store := rfl

/-! ### setMeter -/

@[simp] theorem setMeter_pending (m : Meter) : (s.setMeter m).pending = s.pending := rfl
@[simp] theorem setMeter_freeCount (m : Meter) : (s.setMeter m).freeCount = s.freeCount := rfl
@[simp] theorem setMeter_uptime (m : Meter) : (s.setMeter m).uptime = s.uptime := rfl
@[simp] theorem setMeter_host (m : Meter) : (s.setMeter m).host = s.host := rfl
@[simp] theorem setMeter_table (m : Meter) : (s.setMeter m).table = s.table := rfl
@[simp] theorem setMeter_units (m : Meter) : (s.setMeter m).units = s.units := rfl
@[simp] theorem setMeter_arbiter (m : Meter) : (s.setMeter m).arbiter = s.arbiter := rfl
@[simp] theorem setMeter_meter (m : Meter) : (s.setMeter m).meter = m := rfl
@[simp] theorem setMeter_zones (m : Meter) : (s.setMeter m).zones = s.zones := rfl
@[simp] theorem setMeter_schedule (m : Meter) : (s.setMeter m).schedule = s.schedule := rfl
@[simp] theorem setMeter_profiles (m : Meter) : (s.setMeter m).profiles = s.profiles := rfl
@[simp] theorem setMeter_roof (m : Meter) : (s.setMeter m).roof = s.roof := rfl
@[simp] theorem setMeter_store (m : Meter) : (s.setMeter m).store = s.store := rfl

/-! ### setZones -/

@[simp] theorem setZones_pending (t : Table Zone) : (s.setZones t).pending = s.pending := rfl
@[simp] theorem setZones_freeCount (t : Table Zone) : (s.setZones t).freeCount = s.freeCount := rfl
@[simp] theorem setZones_uptime (t : Table Zone) : (s.setZones t).uptime = s.uptime := rfl
@[simp] theorem setZones_host (t : Table Zone) : (s.setZones t).host = s.host := rfl
@[simp] theorem setZones_table (t : Table Zone) : (s.setZones t).table = s.table := rfl
@[simp] theorem setZones_units (t : Table Zone) : (s.setZones t).units = s.units := rfl
@[simp] theorem setZones_arbiter (t : Table Zone) : (s.setZones t).arbiter = s.arbiter := rfl
@[simp] theorem setZones_meter (t : Table Zone) : (s.setZones t).meter = s.meter := rfl
@[simp] theorem setZones_zones (t : Table Zone) : (s.setZones t).zones = t := rfl
@[simp] theorem setZones_schedule (t : Table Zone) : (s.setZones t).schedule = s.schedule := rfl
@[simp] theorem setZones_profiles (t : Table Zone) : (s.setZones t).profiles = s.profiles := rfl
@[simp] theorem setZones_roof (t : Table Zone) : (s.setZones t).roof = s.roof := rfl
@[simp] theorem setZones_store (t : Table Zone) : (s.setZones t).store = s.store := rfl

/-! ### setSchedule -/

@[simp] theorem setSchedule_pending (c : Schedule) : (s.setSchedule c).pending = s.pending := rfl
@[simp] theorem setSchedule_freeCount (c : Schedule) : (s.setSchedule c).freeCount = s.freeCount := rfl
@[simp] theorem setSchedule_uptime (c : Schedule) : (s.setSchedule c).uptime = s.uptime := rfl
@[simp] theorem setSchedule_host (c : Schedule) : (s.setSchedule c).host = s.host := rfl
@[simp] theorem setSchedule_table (c : Schedule) : (s.setSchedule c).table = s.table := rfl
@[simp] theorem setSchedule_units (c : Schedule) : (s.setSchedule c).units = s.units := rfl
@[simp] theorem setSchedule_arbiter (c : Schedule) : (s.setSchedule c).arbiter = s.arbiter := rfl
@[simp] theorem setSchedule_meter (c : Schedule) : (s.setSchedule c).meter = s.meter := rfl
@[simp] theorem setSchedule_zones (c : Schedule) : (s.setSchedule c).zones = s.zones := rfl
@[simp] theorem setSchedule_schedule (c : Schedule) : (s.setSchedule c).schedule = c := rfl
@[simp] theorem setSchedule_profiles (c : Schedule) : (s.setSchedule c).profiles = s.profiles := rfl
@[simp] theorem setSchedule_roof (c : Schedule) : (s.setSchedule c).roof = s.roof := rfl
@[simp] theorem setSchedule_store (c : Schedule) : (s.setSchedule c).store = s.store := rfl

/-! ### setProfiles -/

@[simp] theorem setProfiles_pending (t : Table (List Segment)) : (s.setProfiles t).pending = s.pending := rfl
@[simp] theorem setProfiles_freeCount (t : Table (List Segment)) : (s.setProfiles t).freeCount = s.freeCount := rfl
@[simp] theorem setProfiles_uptime (t : Table (List Segment)) : (s.setProfiles t).uptime = s.uptime := rfl
@[simp] theorem setProfiles_host (t : Table (List Segment)) : (s.setProfiles t).host = s.host := rfl
@[simp] theorem setProfiles_table (t : Table (List Segment)) : (s.setProfiles t).table = s.table := rfl
@[simp] theorem setProfiles_units (t : Table (List Segment)) : (s.setProfiles t).units = s.units := rfl
@[simp] theorem setProfiles_arbiter (t : Table (List Segment)) : (s.setProfiles t).arbiter = s.arbiter := rfl
@[simp] theorem setProfiles_meter (t : Table (List Segment)) : (s.setProfiles t).meter = s.meter := rfl
@[simp] theorem setProfiles_zones (t : Table (List Segment)) : (s.setProfiles t).zones = s.zones := rfl
@[simp] theorem setProfiles_schedule (t : Table (List Segment)) : (s.setProfiles t).schedule = s.schedule := rfl
@[simp] theorem setProfiles_profiles (t : Table (List Segment)) : (s.setProfiles t).profiles = t := rfl
@[simp] theorem setProfiles_roof (t : Table (List Segment)) : (s.setProfiles t).roof = s.roof := rfl
@[simp] theorem setProfiles_store (t : Table (List Segment)) : (s.setProfiles t).store = s.store := rfl

/-! ### setRoof -/

@[simp] theorem setRoof_pending (r : Roof) : (s.setRoof r).pending = s.pending := rfl
@[simp] theorem setRoof_freeCount (r : Roof) : (s.setRoof r).freeCount = s.freeCount := rfl
@[simp] theorem setRoof_uptime (r : Roof) : (s.setRoof r).uptime = s.uptime := rfl
@[simp] theorem setRoof_host (r : Roof) : (s.setRoof r).host = s.host := rfl
@[simp] theorem setRoof_table (r : Roof) : (s.setRoof r).table = s.table := rfl
@[simp] theorem setRoof_units (r : Roof) : (s.setRoof r).units = s.units := rfl
@[simp] theorem setRoof_arbiter (r : Roof) : (s.setRoof r).arbiter = s.arbiter := rfl
@[simp] theorem setRoof_meter (r : Roof) : (s.setRoof r).meter = s.meter := rfl
@[simp] theorem setRoof_zones (r : Roof) : (s.setRoof r).zones = s.zones := rfl
@[simp] theorem setRoof_schedule (r : Roof) : (s.setRoof r).schedule = s.schedule := rfl
@[simp] theorem setRoof_profiles (r : Roof) : (s.setRoof r).profiles = s.profiles := rfl
@[simp] theorem setRoof_roof (r : Roof) : (s.setRoof r).roof = r := rfl
@[simp] theorem setRoof_store (r : Roof) : (s.setRoof r).store = s.store := rfl

/-! ### setStore -/

@[simp] theorem setStore_pending (t : Store) : (s.setStore t).pending = s.pending := rfl
@[simp] theorem setStore_freeCount (t : Store) : (s.setStore t).freeCount = s.freeCount := rfl
@[simp] theorem setStore_uptime (t : Store) : (s.setStore t).uptime = s.uptime := rfl
@[simp] theorem setStore_host (t : Store) : (s.setStore t).host = s.host := rfl
@[simp] theorem setStore_table (t : Store) : (s.setStore t).table = s.table := rfl
@[simp] theorem setStore_units (t : Store) : (s.setStore t).units = s.units := rfl
@[simp] theorem setStore_arbiter (t : Store) : (s.setStore t).arbiter = s.arbiter := rfl
@[simp] theorem setStore_meter (t : Store) : (s.setStore t).meter = s.meter := rfl
@[simp] theorem setStore_zones (t : Store) : (s.setStore t).zones = s.zones := rfl
@[simp] theorem setStore_schedule (t : Store) : (s.setStore t).schedule = s.schedule := rfl
@[simp] theorem setStore_profiles (t : Store) : (s.setStore t).profiles = s.profiles := rfl
@[simp] theorem setStore_roof (t : Store) : (s.setStore t).roof = s.roof := rfl
@[simp] theorem setStore_store (t : Store) : (s.setStore t).store = t := rfl

/-! ### useFree -/

@[simp] theorem useFree_pending (n : Nat) : (s.useFree n).pending = s.pending := rfl
@[simp] theorem useFree_freeCount (n : Nat) : (s.useFree n).freeCount = s.freeCount + n := rfl
@[simp] theorem useFree_uptime (n : Nat) : (s.useFree n).uptime = s.uptime := rfl
@[simp] theorem useFree_host (n : Nat) : (s.useFree n).host = s.host := rfl
@[simp] theorem useFree_table (n : Nat) : (s.useFree n).table = s.table := rfl
@[simp] theorem useFree_units (n : Nat) : (s.useFree n).units = s.units := rfl
@[simp] theorem useFree_arbiter (n : Nat) : (s.useFree n).arbiter = s.arbiter := rfl
@[simp] theorem useFree_meter (n : Nat) : (s.useFree n).meter = s.meter := rfl
@[simp] theorem useFree_zones (n : Nat) : (s.useFree n).zones = s.zones := rfl
@[simp] theorem useFree_schedule (n : Nat) : (s.useFree n).schedule = s.schedule := rfl
@[simp] theorem useFree_profiles (n : Nat) : (s.useFree n).profiles = s.profiles := rfl
@[simp] theorem useFree_roof (n : Nat) : (s.useFree n).roof = s.roof := rfl
@[simp] theorem useFree_store (n : Nat) : (s.useFree n).store = s.store := rfl

/-! ### putUnit and putZone -/

@[simp] theorem putUnit_pending (u : Nat) (b : BoundUnit) : (s.putUnit u b).pending = s.pending := rfl
@[simp] theorem putUnit_freeCount (u : Nat) (b : BoundUnit) : (s.putUnit u b).freeCount = s.freeCount := rfl
@[simp] theorem putUnit_uptime (u : Nat) (b : BoundUnit) : (s.putUnit u b).uptime = s.uptime := rfl
@[simp] theorem putUnit_host (u : Nat) (b : BoundUnit) : (s.putUnit u b).host = s.host := rfl
@[simp] theorem putUnit_table (u : Nat) (b : BoundUnit) : (s.putUnit u b).table = s.table := rfl
@[simp] theorem putUnit_units (u : Nat) (b : BoundUnit) : (s.putUnit u b).units = Table.put u b s.units := rfl
@[simp] theorem putUnit_arbiter (u : Nat) (b : BoundUnit) : (s.putUnit u b).arbiter = s.arbiter := rfl
@[simp] theorem putUnit_meter (u : Nat) (b : BoundUnit) : (s.putUnit u b).meter = s.meter := rfl
@[simp] theorem putUnit_zones (u : Nat) (b : BoundUnit) : (s.putUnit u b).zones = s.zones := rfl
@[simp] theorem putUnit_schedule (u : Nat) (b : BoundUnit) : (s.putUnit u b).schedule = s.schedule := rfl
@[simp] theorem putUnit_profiles (u : Nat) (b : BoundUnit) : (s.putUnit u b).profiles = s.profiles := rfl
@[simp] theorem putUnit_roof (u : Nat) (b : BoundUnit) : (s.putUnit u b).roof = s.roof := rfl
@[simp] theorem putUnit_store (u : Nat) (b : BoundUnit) : (s.putUnit u b).store = s.store := rfl
@[simp] theorem putZone_pending (z : Nat) (r : Zone) : (s.putZone z r).pending = s.pending := rfl
@[simp] theorem putZone_freeCount (z : Nat) (r : Zone) : (s.putZone z r).freeCount = s.freeCount := rfl
@[simp] theorem putZone_uptime (z : Nat) (r : Zone) : (s.putZone z r).uptime = s.uptime := rfl
@[simp] theorem putZone_host (z : Nat) (r : Zone) : (s.putZone z r).host = s.host := rfl
@[simp] theorem putZone_table (z : Nat) (r : Zone) : (s.putZone z r).table = s.table := rfl
@[simp] theorem putZone_units (z : Nat) (r : Zone) : (s.putZone z r).units = s.units := rfl
@[simp] theorem putZone_arbiter (z : Nat) (r : Zone) : (s.putZone z r).arbiter = s.arbiter := rfl
@[simp] theorem putZone_meter (z : Nat) (r : Zone) : (s.putZone z r).meter = s.meter := rfl
@[simp] theorem putZone_zones (z : Nat) (r : Zone) : (s.putZone z r).zones = Table.put z r s.zones := rfl
@[simp] theorem putZone_schedule (z : Nat) (r : Zone) : (s.putZone z r).schedule = s.schedule := rfl
@[simp] theorem putZone_profiles (z : Nat) (r : Zone) : (s.putZone z r).profiles = s.profiles := rfl
@[simp] theorem putZone_roof (z : Nat) (r : Zone) : (s.putZone z r).roof = s.roof := rfl
@[simp] theorem putZone_store (z : Nat) (r : Zone) : (s.putZone z r).store = s.store := rfl

/-! ### onUnit and onZone -/

@[simp] theorem onUnit_pending (u : Nat) (f : BoundUnit → BoundUnit) : (s.onUnit u f).pending = s.pending := by
  unfold State.onUnit; split <;> rfl
@[simp] theorem onUnit_freeCount (u : Nat) (f : BoundUnit → BoundUnit) : (s.onUnit u f).freeCount = s.freeCount := by
  unfold State.onUnit; split <;> rfl
@[simp] theorem onUnit_uptime (u : Nat) (f : BoundUnit → BoundUnit) : (s.onUnit u f).uptime = s.uptime := by
  unfold State.onUnit; split <;> rfl
@[simp] theorem onUnit_host (u : Nat) (f : BoundUnit → BoundUnit) : (s.onUnit u f).host = s.host := by
  unfold State.onUnit; split <;> rfl
@[simp] theorem onUnit_table (u : Nat) (f : BoundUnit → BoundUnit) : (s.onUnit u f).table = s.table := by
  unfold State.onUnit; split <;> rfl
@[simp] theorem onUnit_arbiter (u : Nat) (f : BoundUnit → BoundUnit) : (s.onUnit u f).arbiter = s.arbiter := by
  unfold State.onUnit; split <;> rfl
@[simp] theorem onUnit_meter (u : Nat) (f : BoundUnit → BoundUnit) : (s.onUnit u f).meter = s.meter := by
  unfold State.onUnit; split <;> rfl
@[simp] theorem onUnit_zones (u : Nat) (f : BoundUnit → BoundUnit) : (s.onUnit u f).zones = s.zones := by
  unfold State.onUnit; split <;> rfl
@[simp] theorem onUnit_schedule (u : Nat) (f : BoundUnit → BoundUnit) : (s.onUnit u f).schedule = s.schedule := by
  unfold State.onUnit; split <;> rfl
@[simp] theorem onUnit_profiles (u : Nat) (f : BoundUnit → BoundUnit) : (s.onUnit u f).profiles = s.profiles := by
  unfold State.onUnit; split <;> rfl
@[simp] theorem onUnit_roof (u : Nat) (f : BoundUnit → BoundUnit) : (s.onUnit u f).roof = s.roof := by
  unfold State.onUnit; split <;> rfl
@[simp] theorem onUnit_store (u : Nat) (f : BoundUnit → BoundUnit) : (s.onUnit u f).store = s.store := by
  unfold State.onUnit; split <;> rfl
@[simp] theorem onZone_pending (z : Nat) (f : Zone → Zone) : (s.onZone z f).pending = s.pending := by
  unfold State.onZone; split <;> rfl
@[simp] theorem onZone_freeCount (z : Nat) (f : Zone → Zone) : (s.onZone z f).freeCount = s.freeCount := by
  unfold State.onZone; split <;> rfl
@[simp] theorem onZone_uptime (z : Nat) (f : Zone → Zone) : (s.onZone z f).uptime = s.uptime := by
  unfold State.onZone; split <;> rfl
@[simp] theorem onZone_host (z : Nat) (f : Zone → Zone) : (s.onZone z f).host = s.host := by
  unfold State.onZone; split <;> rfl
@[simp] theorem onZone_table (z : Nat) (f : Zone → Zone) : (s.onZone z f).table = s.table := by
  unfold State.onZone; split <;> rfl
@[simp] theorem onZone_units (z : Nat) (f : Zone → Zone) : (s.onZone z f).units = s.units := by
  unfold State.onZone; split <;> rfl
@[simp] theorem onZone_arbiter (z : Nat) (f : Zone → Zone) : (s.onZone z f).arbiter = s.arbiter := by
  unfold State.onZone; split <;> rfl
@[simp] theorem onZone_meter (z : Nat) (f : Zone → Zone) : (s.onZone z f).meter = s.meter := by
  unfold State.onZone; split <;> rfl
@[simp] theorem onZone_schedule (z : Nat) (f : Zone → Zone) : (s.onZone z f).schedule = s.schedule := by
  unfold State.onZone; split <;> rfl
@[simp] theorem onZone_profiles (z : Nat) (f : Zone → Zone) : (s.onZone z f).profiles = s.profiles := by
  unfold State.onZone; split <;> rfl
@[simp] theorem onZone_roof (z : Nat) (f : Zone → Zone) : (s.onZone z f).roof = s.roof := by
  unfold State.onZone; split <;> rfl
@[simp] theorem onZone_store (z : Nat) (f : Zone → Zone) : (s.onZone z f).store = s.store := by
  unfold State.onZone; split <;> rfl

/-! ### raise -/

@[simp] theorem raise_pending (k : NoticeKind) (u : Option Nat) (st : Option StageName) (z : Option Nat) (v : Option Int) :
    (s.raise k u st z v).pending = s.pending := rfl
@[simp] theorem raise_freeCount (k : NoticeKind) (u : Option Nat) (st : Option StageName) (z : Option Nat) (v : Option Int) :
    (s.raise k u st z v).freeCount = s.freeCount := rfl
@[simp] theorem raise_uptime (k : NoticeKind) (u : Option Nat) (st : Option StageName) (z : Option Nat) (v : Option Int) :
    (s.raise k u st z v).uptime = s.uptime := rfl
@[simp] theorem raise_table (k : NoticeKind) (u : Option Nat) (st : Option StageName) (z : Option Nat) (v : Option Int) :
    (s.raise k u st z v).table = s.table := rfl
@[simp] theorem raise_units (k : NoticeKind) (u : Option Nat) (st : Option StageName) (z : Option Nat) (v : Option Int) :
    (s.raise k u st z v).units = s.units := rfl
@[simp] theorem raise_arbiter (k : NoticeKind) (u : Option Nat) (st : Option StageName) (z : Option Nat) (v : Option Int) :
    (s.raise k u st z v).arbiter = s.arbiter := rfl
@[simp] theorem raise_meter (k : NoticeKind) (u : Option Nat) (st : Option StageName) (z : Option Nat) (v : Option Int) :
    (s.raise k u st z v).meter = s.meter := rfl
@[simp] theorem raise_zones (k : NoticeKind) (u : Option Nat) (st : Option StageName) (z : Option Nat) (v : Option Int) :
    (s.raise k u st z v).zones = s.zones := rfl
@[simp] theorem raise_schedule (k : NoticeKind) (u : Option Nat) (st : Option StageName) (z : Option Nat) (v : Option Int) :
    (s.raise k u st z v).schedule = s.schedule := rfl
@[simp] theorem raise_profiles (k : NoticeKind) (u : Option Nat) (st : Option StageName) (z : Option Nat) (v : Option Int) :
    (s.raise k u st z v).profiles = s.profiles := rfl
@[simp] theorem raise_roof (k : NoticeKind) (u : Option Nat) (st : Option StageName) (z : Option Nat) (v : Option Int) :
    (s.raise k u st z v).roof = s.roof := rfl
@[simp] theorem raise_store (k : NoticeKind) (u : Option Nat) (st : Option StageName) (z : Option Nat) (v : Option Int) :
    (s.raise k u st z v).store = s.store := rfl

/-! ### The host link under append and raise -/

variable (h : HostLink)

@[simp] theorem append_run (n : Notice) : (h.append n).run = h.run := by
  unfold HostLink.append; split <;> rfl
@[simp] theorem append_smoke (n : Notice) : (h.append n).smoke = h.smoke := by
  unfold HostLink.append; split <;> rfl
@[simp] theorem append_service (n : Notice) : (h.append n).service = h.service := by
  unfold HostLink.append; split <;> rfl
@[simp] theorem append_protect (n : Notice) : (h.append n).protect = h.protect := by
  unfold HostLink.append; split <;> rfl
@[simp] theorem append_receiver (n : Notice) : (h.append n).receiver = h.receiver := by
  unfold HostLink.append; split <;> rfl
@[simp] theorem append_phase (n : Notice) : (h.append n).phase = h.phase := by
  unfold HostLink.append; split <;> rfl
@[simp] theorem append_holding (n : Notice) : (h.append n).holding = h.holding := by
  unfold HostLink.append; split <;> rfl
@[simp] theorem append_reply (n : Notice) : (h.append n).reply = h.reply := by
  unfold HostLink.append; split <;> rfl
@[simp] theorem raise_host_run (k : NoticeKind) (u : Option Nat) (st : Option StageName) (z : Option Nat) (v : Option Int) :
    (s.raise k u st z v).host.run = s.host.run := by
  simp [State.raise]
@[simp] theorem raise_host_smoke (k : NoticeKind) (u : Option Nat) (st : Option StageName) (z : Option Nat) (v : Option Int) :
    (s.raise k u st z v).host.smoke = s.host.smoke := by
  simp [State.raise]
@[simp] theorem raise_host_service (k : NoticeKind) (u : Option Nat) (st : Option StageName) (z : Option Nat) (v : Option Int) :
    (s.raise k u st z v).host.service = s.host.service := by
  simp [State.raise]
@[simp] theorem raise_host_protect (k : NoticeKind) (u : Option Nat) (st : Option StageName) (z : Option Nat) (v : Option Int) :
    (s.raise k u st z v).host.protect = s.host.protect := by
  simp [State.raise]
@[simp] theorem raise_host_receiver (k : NoticeKind) (u : Option Nat) (st : Option StageName) (z : Option Nat) (v : Option Int) :
    (s.raise k u st z v).host.receiver = s.host.receiver := by
  simp [State.raise]
@[simp] theorem raise_host_phase (k : NoticeKind) (u : Option Nat) (st : Option StageName) (z : Option Nat) (v : Option Int) :
    (s.raise k u st z v).host.phase = s.host.phase := by
  simp [State.raise]
@[simp] theorem raise_host_holding (k : NoticeKind) (u : Option Nat) (st : Option StageName) (z : Option Nat) (v : Option Int) :
    (s.raise k u st z v).host.holding = s.host.holding := by
  simp [State.raise]
@[simp] theorem raise_host_reply (k : NoticeKind) (u : Option Nat) (st : Option StageName) (z : Option Nat) (v : Option Int) :
    (s.raise k u st z v).host.reply = s.host.reply := by
  simp [State.raise]

/-! ### Readers under updates -/

@[simp] theorem setUnits_unit (t : Table BoundUnit) (u : Nat) : (s.setUnits t).unit u = Table.find u t := rfl
@[simp] theorem setZones_zone (t : Table Zone) (z : Nat) : (s.setZones t).zone z = Table.find z t := rfl
@[simp] theorem setHost_unit (h : HostLink) (u : Nat) : (s.setHost h).unit u = s.unit u := rfl
@[simp] theorem setHost_zone (h : HostLink) (z : Nat) : (s.setHost h).zone z = s.zone z := rfl
@[simp] theorem setTable_unit (t : UnitTable) (u : Nat) : (s.setTable t).unit u = s.unit u := rfl
@[simp] theorem setTable_zone (t : UnitTable) (z : Nat) : (s.setTable t).zone z = s.zone z := rfl
@[simp] theorem setUnits_zone (t : Table BoundUnit) (z : Nat) : (s.setUnits t).zone z = s.zone z := rfl
@[simp] theorem setArbiter_unit (a : Arbiter) (u : Nat) : (s.setArbiter a).unit u = s.unit u := rfl
@[simp] theorem setArbiter_zone (a : Arbiter) (z : Nat) : (s.setArbiter a).zone z = s.zone z := rfl
@[simp] theorem setMeter_unit (m : Meter) (u : Nat) : (s.setMeter m).unit u = s.unit u := rfl
@[simp] theorem setMeter_zone (m : Meter) (z : Nat) : (s.setMeter m).zone z = s.zone z := rfl
@[simp] theorem setZones_unit (t : Table Zone) (u : Nat) : (s.setZones t).unit u = s.unit u := rfl
@[simp] theorem setSchedule_unit (c : Schedule) (u : Nat) : (s.setSchedule c).unit u = s.unit u := rfl
@[simp] theorem setSchedule_zone (c : Schedule) (z : Nat) : (s.setSchedule c).zone z = s.zone z := rfl
@[simp] theorem setProfiles_unit (t : Table (List Segment)) (u : Nat) : (s.setProfiles t).unit u = s.unit u := rfl
@[simp] theorem setProfiles_zone (t : Table (List Segment)) (z : Nat) : (s.setProfiles t).zone z = s.zone z := rfl
@[simp] theorem setRoof_unit (r : Roof) (u : Nat) : (s.setRoof r).unit u = s.unit u := rfl
@[simp] theorem setRoof_zone (r : Roof) (z : Nat) : (s.setRoof r).zone z = s.zone z := rfl
@[simp] theorem setStore_unit (t : Store) (u : Nat) : (s.setStore t).unit u = s.unit u := rfl
@[simp] theorem setStore_zone (t : Store) (z : Nat) : (s.setStore t).zone z = s.zone z := rfl
@[simp] theorem useFree_unit (n u : Nat) : (s.useFree n).unit u = s.unit u := rfl
@[simp] theorem useFree_zone (n z : Nat) : (s.useFree n).zone z = s.zone z := rfl
@[simp] theorem raise_unit (k : NoticeKind) (u : Option Nat) (st : Option StageName) (z : Option Nat) (v : Option Int) (w : Nat) :
    (s.raise k u st z v).unit w = s.unit w := rfl
@[simp] theorem raise_zone (k : NoticeKind) (u : Option Nat) (st : Option StageName) (z : Option Nat) (v : Option Int) (w : Nat) :
    (s.raise k u st z v).zone w = s.zone w := rfl
@[simp] theorem putUnit_zone (u : Nat) (b : BoundUnit) (z : Nat) : (s.putUnit u b).zone z = s.zone z := rfl
@[simp] theorem putZone_unit (z : Nat) (r : Zone) (u : Nat) : (s.putZone z r).unit u = s.unit u := rfl
@[simp] theorem onUnit_zone (u : Nat) (f : BoundUnit → BoundUnit) (z : Nat) : (s.onUnit u f).zone z = s.zone z := by
  unfold State.onUnit; split <;> rfl
@[simp] theorem onZone_unit (z : Nat) (f : Zone → Zone) (u : Nat) : (s.onZone z f).unit u = s.unit u := by
  unfold State.onZone; split <;> rfl

end Sys2Proof.Machine
end

