-- ==== Sys2Proof/Laws/Tables.lean ====
section
/-! SUPPORT. What tables, the grid, timers and items per stage name can do: read after write, and the forms that every
table operation keeps. -/

namespace Sys2Proof.Machine

variable {α : Type}

/-! ### Read after write -/

theorem find_put (k j : Nat) (v : α) (t : Table α) :
    Table.find j (Table.put k v t) = if j = k then some v else Table.find j t := by
  induction t with
  | nil => simp [Table.put, Table.find, eq_comm]
  | cons p t ih =>
    obtain ⟨i, a⟩ := p
    unfold Table.put
    split
    · by_cases h : j = k
      · simp [Table.find, h]
      · simp [Table.find, h, Ne.symm h]
    · split
      · rename_i h
        subst h
        by_cases h' : j = i
        · simp [Table.find, h']
        · simp [Table.find, h', Ne.symm h']
      · by_cases h' : i = j
        · subst h'
          simp [Table.find, *]
        · simp [Table.find, ih, h']

theorem find_put_same (k : Nat) (v : α) (t : Table α) : Table.find k (Table.put k v t) = some v := by
  simp [find_put]

theorem find_put_other {j k : Nat} (h : j ≠ k) (v : α) (t : Table α) :
    Table.find j (Table.put k v t) = Table.find j t := by
  simp [find_put, h]

theorem find_erase (k j : Nat) (t : Table α) :
    Table.find j (Table.erase k t) = if j = k then none else Table.find j t := by
  induction t with
  | nil => simp [Table.erase, Table.find]
  | cons p t ih =>
    obtain ⟨i, a⟩ := p
    unfold Table.erase
    split
    · rename_i h
      subst h
      rw [ih]
      by_cases h' : j = i
      · simp [h']
      · simp [Table.find, h', Ne.symm h']
    · by_cases h' : i = j
      · subst h'
        simp [Table.find, *]
      · simp [Table.find, ih, h']

theorem find_update (f : Nat → α → α) (k : Nat) (t : Table α) :
    Table.find k (Table.update f t) = (Table.find k t).map (f k) := by
  induction t with
  | nil => rfl
  | cons p t ih =>
    obtain ⟨i, a⟩ := p
    by_cases h : i = k
    · simp [Table.update, Table.find, h]
    · simp [Table.update, Table.find, h, ih]

/-! ### The form of a table -/

theorem above_mono {i k : Nat} (h : i ≤ k) {t : Table α} (ht : Table.above k t = true) : Table.above i t = true := by
  cases t with
  | nil => rfl
  | cons p t => simp_all [Table.above]; omega

theorem above_put {i k : Nat} (h : i < k) (v : α) {t : Table α} (ht : Table.above i t = true) :
    Table.above i (Table.put k v t) = true := by
  induction t generalizing i with
  | nil => simp [Table.put, Table.above, h]
  | cons p t ih =>
    obtain ⟨j, a⟩ := p
    simp only [Table.above, Bool.and_eq_true, decide_eq_true_eq] at ht
    unfold Table.put
    split
    · simp [Table.above, *]
    · split
      · simp_all [Table.above]
      · simp only [Table.above, Bool.and_eq_true, decide_eq_true_eq]
        exact ⟨ht.1, ih (by omega) ht.2⟩

theorem above_erase {i : Nat} (k : Nat) {t : Table α} (ht : Table.above i t = true) :
    Table.above i (Table.erase k t) = true := by
  induction t generalizing i with
  | nil => rfl
  | cons p t ih =>
    obtain ⟨j, a⟩ := p
    simp only [Table.above, Bool.and_eq_true, decide_eq_true_eq] at ht
    unfold Table.erase
    split
    · exact above_mono (Nat.le_of_lt ht.1) (ih ht.2)
    · simp only [Table.above, Bool.and_eq_true, decide_eq_true_eq]
      exact ⟨ht.1, ih ht.2⟩

theorem above_update {i : Nat} (f : Nat → α → α) {t : Table α} (ht : Table.above i t = true) :
    Table.above i (Table.update f t) = true := by
  induction t generalizing i with
  | nil => rfl
  | cons p t ih => simp_all [Table.update, Table.above]

theorem above_map {β : Type} {i : Nat} (f : Nat × α → β) {t : Table α} (ht : Table.above i t = true) :
    Table.above i (t.map fun p => (p.1, f p)) = true := by
  induction t generalizing i with
  | nil => rfl
  | cons p t ih => simp_all [Table.above]

theorem wf_put {k : Nat} (h : 0 < k) (v : α) {t : Table α} (ht : Table.wf t = true) : Table.wf (Table.put k v t) = true :=
  above_put h v ht

theorem wf_erase (k : Nat) {t : Table α} (ht : Table.wf t = true) : Table.wf (Table.erase k t) = true :=
  above_erase k ht

theorem wf_update (f : Nat → α → α) {t : Table α} (ht : Table.wf t = true) : Table.wf (Table.update f t) = true :=
  above_update f ht

/-- In a table of the right form, the records listed are the records found. -/
theorem mem_iff_find {i : Nat} {t : Table α} (ht : Table.above i t = true) (k : Nat) (a : α) :
    (k, a) ∈ t ↔ i < k ∧ Table.find k t = some a := by
  induction t generalizing i with
  | nil => simp [Table.find]
  | cons p t ih =>
    obtain ⟨j, b⟩ := p
    simp only [Table.above, Bool.and_eq_true, decide_eq_true_eq] at ht
    simp only [List.mem_cons, Prod.mk.injEq, ih ht.2, Table.find]
    by_cases h : j = k
    · subst h
      simp [ht.1, eq_comm]
    · simp only [h, if_false]
      constructor
      · rintro (⟨h', _⟩ | h')
        · exact absurd h'.symm h
        · exact ⟨by omega, h'.2⟩
      · rintro ⟨h1, h2⟩
        refine Or.inr ⟨?_, h2⟩
        by_contra h3
        have : Table.find k t = none := by
          clear ih h2
          have aux : ∀ (m : Nat) (t : Table α), Table.above m t = true → k ≤ m → Table.find k t = none := by
            intro m t
            induction t generalizing m with
            | nil => intros; rfl
            | cons q t ih =>
              intro ha hk
              obtain ⟨q1, q2⟩ := q
              simp only [Table.above, Bool.and_eq_true, decide_eq_true_eq] at ha
              have : q1 ≠ k := by omega
              simp [Table.find, this, ih q1 ha.2 (by omega)]
          exact aux j t ht.2 (by omega)
        simp [this] at h2

theorem mem_update {f : Nat → α → α} {t : Table α} {p : Nat × α} (h : p ∈ Table.update f t) :
    ∃ a, (p.1, a) ∈ t ∧ p.2 = f p.1 a := by
  induction t with
  | nil => simp [Table.update] at h
  | cons q t ih =>
    obtain ⟨i, a⟩ := q
    simp only [Table.update, List.mem_cons] at h
    rcases h with h | h
    · subst h; exact ⟨a, by simp, rfl⟩
    · obtain ⟨a', h1, h2⟩ := ih h
      exact ⟨a', by simp [h1], h2⟩

theorem mem_put {k : Nat} {v : α} {t : Table α} {p : Nat × α} (h : p ∈ Table.put k v t) : p = (k, v) ∨ p ∈ t := by
  induction t with
  | nil => simpa [Table.put] using h
  | cons q t ih =>
    obtain ⟨i, a⟩ := q
    unfold Table.put at h
    split at h
    · simpa using h
    · split at h
      · simp only [List.mem_cons] at h ⊢
        tauto
      · simp only [List.mem_cons] at h ⊢
        rcases h with h | h
        · exact Or.inr (Or.inl h)
        · rcases ih h with h | h <;> tauto

theorem mem_erase {k : Nat} {t : Table α} {p : Nat × α} (h : p ∈ Table.erase k t) : p ∈ t ∧ p.1 ≠ k := by
  induction t with
  | nil => simp [Table.erase] at h
  | cons q t ih =>
    obtain ⟨i, a⟩ := q
    unfold Table.erase at h
    split at h
    · have := ih h; simp [this]
    · simp only [List.mem_cons] at h ⊢
      rcases h with h | h
      · subst h; simp_all
      · have := ih h; simp [this]

/-! ### The grid -/

theorem gridRead_gridWrite (i j : Nat) (c : Cell) (g : Table Cell) :
    gridRead j (gridWrite i c g) = if j = i then c else gridRead j g := by
  unfold gridRead gridWrite
  split
  · rename_i h
    rw [find_erase]
    split <;> simp [h]
  · rw [find_put]
    split <;> simp

theorem mem_put_all {g : Table Cell} {k : Nat} {c : Cell} (hc : c ≠ .default)
    (h : (g.all fun p => p.2 != .default) = true) : ((Table.put k c g).all fun p => p.2 != .default) = true := by
  rw [List.all_eq_true] at h ⊢
  intro p hp
  rcases mem_put hp with rfl | hp
  · simpa using hc
  · exact h p hp

theorem gridWf_gridWrite {i : Nat} (hi : 0 < i) (c : Cell) {g : Table Cell} (h : gridWf g = true) :
    gridWf (gridWrite i c g) = true := by
  simp only [gridWf, Bool.and_eq_true] at h ⊢
  unfold gridWrite
  split
  · refine ⟨wf_erase i h.1, ?_⟩
    rw [List.all_eq_true] at *
    exact fun p hp => h.2 p (mem_erase hp).1
  · rename_i hc
    exact ⟨wf_put hi c h.1, mem_put_all hc h.2⟩

theorem cellIndex_pos (day zone slot : Nat) : 0 < cellIndex day zone slot := by simp [cellIndex]

/-- R93: 9,216 cells in all, each with an index of its own. -/
theorem cellIndex_inj {d z n d' z' n' : Nat} (hd : 1 ≤ d) (hz : 1 ≤ z) (hz2 : z ≤ 12) (hn : n ≤ 95) (hd' : 1 ≤ d')
    (hz' : 1 ≤ z') (hz2' : z' ≤ 12) (hn' : n' ≤ 95) (h : cellIndex d z n = cellIndex d' z' n') :
    d = d' ∧ z = z' ∧ n = n' := by
  unfold cellIndex at h
  omega

theorem cellIndex_le {d z n : Nat} (hd : d ≤ 8) (hz : z ≤ 12) (hn : n ≤ 95) : cellIndex d z n ≤ 9216 := by
  unfold cellIndex
  omega

/-! ### Items per stage name -/

theorem Six_get_set (x : Six α) (st st' : StageName) (a : α) :
    (x.set st a).get st' = if st' = st then a else x.get st' := by
  cases st <;> cases st' <;> rfl

@[simp] theorem Six_get_set_same (x : Six α) (st : StageName) (a : α) : (x.set st a).get st = a := by
  simp [Six_get_set]

@[simp] theorem Six_get_ofFn (f : StageName → α) (st : StageName) : (Six.ofFn f).get st = f st := by
  cases st <;> rfl

theorem Six_ext_get {x y : Six α} (h : ∀ st, x.get st = y.get st) : x = y := by
  cases x; cases y
  have h1 := h .c1; have h2 := h .c2; have h3 := h .c3; have h4 := h .c4; have h5 := h .h1; have h6 := h .h2
  simp_all [Six.get]

theorem mem_allStages (st : StageName) : st ∈ allStages := by cases st <;> decide

theorem stageOfCode_stageCode (st : StageName) : stageOfCode (stageCode st) = some st := by cases st <;> decide

/-! ### Timers (R2) -/

@[simp] theorem tick_isRunning (t : Timer) : t.tick.isRunning = t.isRunning := by cases t <;> rfl

@[simp] theorem start_isRunning (n : Nat) : (Timer.start n).isRunning = true := rfl

/-- R2: a timer started with `n` seconds is due after `n` seconds of part time, and not before. -/
theorem tick_iterate_start (n k : Nat) : (Timer.tick^[k]) (Timer.start n) = .running (n - k) := by
  induction k with
  | zero => rfl
  | succ k ih =>
    rw [Function.iterate_succ_apply', ih]
    simp only [Timer.tick]
    congr 1

/-! ### Choices -/

/-- The chosen element is one of the list's. -/
theorem mem_of_choose {before : α → α → Bool} {l : List α} {a : α} (h : choose before l = some a) : a ∈ l := by
  induction l generalizing a with
  | nil => simp [choose] at h
  | cons b l ih =>
    unfold choose at h
    split at h
    · simp at h; simp [h]
    · split at h <;> simp at h
      · subst h; rename_i h' _; exact List.mem_cons_of_mem _ (ih h')
      · simp [h]

theorem choose_eq_none {before : α → α → Bool} {l : List α} : choose before l = none ↔ l = [] := by
  constructor
  · intro h
    cases l with
    | nil => rfl
    | cons b l =>
      exfalso
      unfold choose at h
      split at h
      · simp at h
      · split at h <;> simp at h
  · rintro rfl; rfl

end Sys2Proof.Machine
end

