-- ==== Sys2Proof/Laws/Ops.lean ====
section
/-! SUPPORT. For each shared operation, what it can change: the lemmas that later proofs cite in place of unfolding it. -/

namespace Sys2Proof.Machine

/-! ### One unit, one zone -/

theorem unit_putUnit (u v : Nat) (b : BoundUnit) (s : State) :
    (s.putUnit u b).unit v = if v = u then some b else s.unit v := by
  by_cases h : v = u <;> simp [State.unit, State.putUnit, find_put, h]

theorem zone_putZone (z y : Nat) (r : Zone) (s : State) : (s.putZone z r).zone y = if y = z then some r else s.zone y := by
  by_cases h : y = z <;> simp [State.zone, State.putZone, find_put, h]

theorem unit_onUnit (u v : Nat) (f : BoundUnit → BoundUnit) (s : State) :
    (s.onUnit u f).unit v = if v = u then (s.unit u).map f else s.unit v := by
  unfold State.onUnit
  cases h : s.unit u with
  | none => by_cases hv : v = u <;> simp [hv, h]
  | some b => simp [unit_putUnit]

theorem zone_onZone (z y : Nat) (f : Zone → Zone) (s : State) :
    (s.onZone z f).zone y = if y = z then (s.zone z).map f else s.zone y := by
  unfold State.onZone
  cases h : s.zone z with
  | none => by_cases hy : y = z <;> simp [hy, h]
  | some r => simp [zone_putZone]

/-- A change of one unit changes only the units. -/
theorem onUnit_frame (u : Nat) (f : BoundUnit → BoundUnit) (s : State) :
    s.onUnit u f = { s with units := (s.onUnit u f).units } := by
  unfold State.onUnit
  split <;> rfl

/-- R69: an undefined zone is gone from the defined zones, and no other one is. -/
theorem zone_undefineZone (z y : Nat) (s : State) : (s.undefineZone z).zone y = if y = z then none else s.zone y :=
  find_erase z y s.zones

/-- R67: a zone that is not defined reads at the defaults of the fifteen fields. -/
theorem zoneConfig_undefined {z : Nat} {s : State} (h : s.zone z = none) : s.zoneConfig z = .default := by
  simp [State.zoneConfig, h]

/-- R67: a defined zone reads at its own fields. -/
theorem zoneConfig_defined {z : Nat} {r : Zone} {s : State} (h : s.zone z = some r) : s.zoneConfig z = r.config := by
  simp [State.zoneConfig, h]

/-- A change of one zone changes only the zones. -/
theorem onZone_frame (z : Nat) (f : Zone → Zone) (s : State) : s.onZone z f = { s with zones := (s.onZone z f).zones } := by
  unfold State.onZone
  split <;> rfl

/-! ### Notices (R173, R174) -/

/-- A raised notice reaches the host link alone, as `noting` says. -/
theorem raise_eq (kind : NoticeKind) (unit : Option Nat) (stage : Option StageName) (zone : Option Nat) (value : Option Int)
    (s : State) : s.raise kind unit stage zone value = s.setHost (noting s kind unit stage zone value) := by
  unfold State.raise HostLink.append noting State.timeOfDay Config.noticeSize
  by_cases h : s.host.notices.length < 32 <;> simp [h]

/-- A raised notice changes only the notices, NOTE and the dropped flag. -/
theorem append_frame (n : Notice) (h : HostLink) :
    h.append n =
      { h with notices := (h.append n).notices, note := (h.append n).note, dropped := (h.append n).dropped } := by
  unfold HostLink.append
  split <;> rfl

/-- A raised notice keeps the law of the notice queue. -/
theorem noticeLaw_append {h : HostLink} (n : Notice)
    (law : h.notices.length ≤ 32 ∧ h.note = !h.notices.isEmpty ∧ (h.dropped = true → h.notices ≠ [])) :
    (h.append n).notices.length ≤ 32 ∧ (h.append n).note = !(h.append n).notices.isEmpty ∧
      ((h.append n).dropped = true → (h.append n).notices ≠ []) := by
  unfold HostLink.append Config.noticeSize
  obtain ⟨held, line, drop⟩ := law
  split
  · refine ⟨by simp; omega, by simp, by simp⟩
  · rename_i full
    refine ⟨held, line, fun _ he => ?_⟩
    rw [he] at full
    exact full (by decide)

/-! ### Stops of one record (R8 to R14) -/

/-- R9, R10, R12: a stop that reaches a stage that is not on changes nothing. -/
theorem takeStop_off (d : Descriptor) (now : Word) (cause : StopCause) {r : StageRec} (h : r.state.isOn = false) :
    r.takeStop d now cause = r := by
  unfold StageRec.takeStop StageRec.deferredStop StageRec.shedStop StageRec.immediateStop
  cases hs : r.state <;> simp_all [StageState.isOn] <;> split <;> simp

/-- R13: what the recording of a stop leaves in the record. -/
theorem recordStop_recorded (now : Word) (cause : StopCause) (r : StageRec) :
    StopRecorded now cause r (r.recordStop now cause) := by
  refine ⟨rfl, rfl, rfl, rfl, fun start hs => ?_⟩
  simp [StageRec.recordStop, hs, Config.counterMax]

/-- R12: an immediate stop that is no trip takes a stage that is on to REST. -/
theorem immediateStop_rest (d : Descriptor) (now : Word) {cause : StopCause} {r : StageRec} (hc : cause.isTrip = false)
    (hs : r.state.isOn = true) :
    StoppedToRest d now cause r (r.immediateStop d now cause) ∧ (r.immediateStop d now cause).trips = r.trips := by
  refine ⟨⟨?_, ?_, ?_, ?_, ?_, ?_, fun start h => ?_⟩, ?_⟩ <;>
    simp_all [StageRec.immediateStop, StageRec.toRest, StageRec.recordStop, Timer.start, Config.counterMax]

/-- R14: a trip, as `Tripped` says. -/
theorem immediateStop_trip (d : Descriptor) (now : Word) {cause : StopCause} {r : StageRec} (hc : cause.isTrip = true)
    (hs : r.state.isOn = true) : Tripped d now cause r (r.immediateStop d now cause) := by
  unfold StageRec.immediateStop
  simp only [hs, hc, if_true]
  by_cases hl : d.lockoutCount ≤ r.trips + 1
  · rw [if_pos (show d.lockoutCount ≤ (r.recordStop now cause).trips + 1 from hl)]
    exact ⟨recordStop_recorded now cause r, rfl, rfl, rfl, rfl, rfl, by rw [if_pos hl]; exact ⟨rfl, rfl⟩⟩
  · rw [if_neg (show ¬d.lockoutCount ≤ (r.recordStop now cause).trips + 1 from hl)]
    exact ⟨recordStop_recorded now cause r, rfl, rfl, rfl, rfl, rfl, by rw [if_neg hl]; exact ⟨rfl, rfl⟩⟩

/-! ### Stops of a unit's stage -/

/-- R87, R122: a derivation of the gas target changes only the gas channel and the reduction. -/
theorem rederiveGas_frame (b : BoundUnit) :
    b.rederiveGas = { b with gas := b.rederiveGas.gas, gasReduction := b.rederiveGas.gasReduction } := by
  unfold BoundUnit.rederiveGas BoundUnit.setGasTarget
  split
  · split
    · rfl
    · split <;> rfl
  · rfl

/-- R119: a purge start changes only the purge timer. -/
theorem startPurge_frame (run : RunState) (cause : StopCause) (b : BoundUnit) :
    b.startPurge run cause = { b with purge := (b.startPurge run cause).purge } := by
  unfold BoundUnit.startPurge
  split <;> rfl

/-- A stage record written at a stop changes the stages, the purge timer and the gas channel of its unit, and no more. -/
theorem putStage_frame (run : RunState) (cause : StopCause) (st : StageName) (r : StageRec) (b : BoundUnit) :
    b.putStage run cause st r =
      { b with
        stages := b.stages.set st (some r)
        purge := (b.putStage run cause st r).purge
        gas := (b.putStage run cause st r).gas
        gasReduction := (b.putStage run cause st r).gasReduction } := by
  unfold BoundUnit.putStage
  simp only
  split <;> split <;>
    first
    | rfl
    | (rw [startPurge_frame, rederiveGas_frame])
    | (rw [startPurge_frame])
    | (rw [rederiveGas_frame])

theorem putStage_stages (run : RunState) (cause : StopCause) (st : StageName) (r : StageRec) (b : BoundUnit) :
    (b.putStage run cause st r).stages = b.stages.set st (some r) := by rw [putStage_frame]

/-- R8: a stop changes only the units and, by its trip notice, the host link. -/
theorem takeStop_frame (u : Nat) (st : StageName) (cause : StopCause) (s : State) :
    s.takeStop u st cause =
      { s with units := (s.takeStop u st cause).units, host := (s.takeStop u st cause).host } := by
  unfold State.takeStop
  split
  · rfl
  · split
    · rfl
    · simp only
      split <;> rfl

/-- R8: a stop leaves every other unit as it is. -/
theorem takeStop_other {u v : Nat} (h : v ≠ u) (st : StageName) (cause : StopCause) (s : State) :
    (s.takeStop u st cause).unit v = s.unit v := by
  unfold State.takeStop
  split
  · rfl
  · split
    · rfl
    · simp only
      split <;> simp [State.raiseTrip, State.raise, State.unit, State.putUnit, State.setHost, State.setUnits, find_put, h]

/-- R8: a stop writes its stage's record, by the class of its cause, and `putStage` says what follows in the unit. -/
theorem takeStop_unit {u : Nat} {st : StageName} (cause : StopCause) {s : State} {b : BoundUnit} {r : StageRec}
    (hb : s.unit u = some b) (hr : b.stages.get st = some r) :
    (s.takeStop u st cause).unit u = some (b.putStage s.host.run cause st (r.takeStop b.copy s.uptime cause)) := by
  unfold State.takeStop
  simp only [hb, hr]
  split <;> simp [State.raiseTrip, State.raise, State.unit, State.putUnit, State.setHost, State.setUnits, find_put]

/-- R14: a stop without a trip raises no notice. -/
theorem takeStop_host {cause : StopCause} (h : cause.isTrip = false) (u : Nat) (st : StageName) (s : State) :
    (s.takeStop u st cause).host = s.host := by
  unfold State.takeStop
  split
  · rfl
  · split
    · rfl
    · simp [h, State.putUnit]

/-- The stops of one unit change only the units and the host link. -/
theorem stopAll_frame (u : Nat) (cause : StopCause) (stages : List StageName) (s : State) :
    s.stopAll u cause stages =
      { s with units := (s.stopAll u cause stages).units, host := (s.stopAll u cause stages).host } := by
  induction stages generalizing s with
  | nil => rfl
  | cons st rest ih =>
    have h1 : s.stopAll u cause (st :: rest) = (s.takeStop u st cause).stopAll u cause rest := rfl
    rw [h1, ih, takeStop_frame]

/-- The stops of one unit leave every other unit as it is. -/
theorem stopAll_other {u v : Nat} (h : v ≠ u) (cause : StopCause) (stages : List StageName) (s : State) :
    (s.stopAll u cause stages).unit v = s.unit v := by
  induction stages generalizing s with
  | nil => rfl
  | cons st rest ih =>
    have h1 : s.stopAll u cause (st :: rest) = (s.takeStop u st cause).stopAll u cause rest := rfl
    rw [h1, ih, takeStop_other h]

/-! ### The grant queue -/

/-- R30: a withdrawal changes only the units and the queue. -/
theorem withdraw_frame (u : Nat) (st : StageName) (s : State) :
    s.withdraw u st = { s with units := (s.withdraw u st).units, arbiter := (s.withdraw u st).arbiter } := by
  unfold State.withdraw
  split
  · rw [onUnit_frame]; rfl
  · rfl

/-- R30: whether or not an entry is there, the queue after a withdrawal is the queue without the stage's entry. -/
theorem withdraw_arbiter (u : Nat) (st : StageName) (s : State) :
    (s.withdraw u st).arbiter = { s.arbiter with queue := s.arbiter.queue.filter fun e => !e.isFor u st } := by
  unfold State.withdraw
  split
  · rw [onUnit_frame]; rfl
  · rename_i h
    have : s.arbiter.queue.filter (fun e => !e.isFor u st) = s.arbiter.queue := by
      simpa [List.filter_eq_self] using h
    rw [this]

/-- R30: withdrawals change only the units and the queue. -/
theorem withdrawAll_frame (es : List Entry) (s : State) :
    s.withdrawAll es = { s with units := (s.withdrawAll es).units, arbiter := (s.withdrawAll es).arbiter } := by
  induction es generalizing s with
  | nil => rfl
  | cons e rest ih =>
    have h1 : s.withdrawAll (e :: rest) = (s.withdraw e.unit e.stage).withdrawAll rest := rfl
    rw [h1, ih, withdraw_frame]

/-- R36: the walk of the queue finds the first entry that is not skipped, with how many came before it. -/
theorem walk_eq (s : State) (queue : List Entry) :
    s.walk queue =
      ((queue.takeWhile fun e => (s.skipReason e).isSome).length,
        (queue.takeWhile fun e => (s.skipReason e).isSome).head?.bind s.skipReason,
        (queue.dropWhile fun e => (s.skipReason e).isSome).head?) := by
  induction queue with
  | nil => rfl
  | cons e rest ih =>
    cases h : s.skipReason e with
    | none => simp [State.walk, h]
    | some why => simp [State.walk, h, ih]

/-- R37: a grant changes only the units and the arbiter. -/
theorem grant_frame (e : Entry) (s : State) :
    s.grant e = { s with units := (s.grant e).units, arbiter := (s.grant e).arbiter } := by
  unfold State.grant State.startStagger
  simp only
  split <;> (rw [onUnit_frame]; rfl)

/-- R36 to R39: a grant attempt changes only the units and the arbiter. -/
theorem attempt_frame (cause : AttemptCause) (s : State) :
    s.attempt cause = { s with units := (s.attempt cause).units, arbiter := (s.attempt cause).arbiter } := by
  unfold State.attempt
  simp only
  split
  · rfl
  · split
    · rfl
    · unfold State.recordAttempt
      rw [grant_frame]; rfl

/-- R28: a request changes only the units and the arbiter. -/
theorem request_frame (u : Nat) (st : StageName) (s : State) :
    s.request u st = { s with units := (s.request u st).units, arbiter := (s.request u st).arbiter } := by
  unfold State.request
  split
  · rfl
  · split
    · rfl
    · split
      · rw [attempt_frame]; rfl
      · rfl

/-! ### Requests (R168, R169) -/

/-- Every request row is the frame of its request, offered complete. -/
theorem exec_requestCommand (tag : Byte) (r : Request) (s : State) :
    exec (requestCommand tag r) s = .next (s.offerRequest tag r) := by cases r <;> rfl

/-- R168: from IDLE a request is taken at once. -/
theorem exec_requestCommand_idle {s : State} (h : s.host.phase = .idle) (tag : Byte) (r : Request) :
    exec (requestCommand tag r) s = .next (s.takeRequest tag r) := by
  rw [exec_requestCommand, State.offerRequest, h]

/-- R168: while ANSWERING a request's frame is held or discarded. -/
theorem exec_requestCommand_answering {s : State} (h : s.host.phase = .answering) (tag : Byte) (r : Request) :
    exec (requestCommand tag r) s = .next (s.holdFrame { code := r.code, tag, payload := r.payload }) := by
  rw [exec_requestCommand, State.offerRequest, h]

/-- R168: a frame that meets an answer changes nothing but the holding buffer. -/
theorem holdFrame_frame (f : Frame) (s : State) :
    s.holdFrame f = s.setHost { s.host with holding := (s.holdFrame f).host.holding } := by
  unfold State.holdFrame
  split <;> rfl

/-- R169: a request refused by a common check changes nothing but the reply. -/
theorem takeRequest_refused {r : Request} {s : State} {why : Result} (h : s.commonCheck r = some why) (tag : Byte) :
    s.takeRequest tag r = s.answering r.code tag why [] := by
  simp only [State.takeRequest, State.answerTo, h, refuse]
  rfl

/-- R168: a request that passes the common checks is served and answered. -/
theorem takeRequest_served {r : Request} {s : State} (h : s.commonCheck r = none) (tag : Byte) :
    s.takeRequest tag r = (serve r s).1.answering r.code tag (serve r s).2.result (serve r s).2.payload := by
  simp only [State.takeRequest, State.answerTo, h]
  rfl

/-! ### The free order (R135, R164, R173) -/

theorem insertAt_perm {α : Type} (n : Nat) (a : α) (l : List α) : (insertAt n a l).Perm (a :: l) := by
  induction l generalizing n with
  | nil => cases n <;> exact .refl _
  | cons b l ih =>
    cases n with
    | zero => exact .refl _
    | succ n => exact ((ih n).cons b).trans (.swap a b l)

/-- A free order leaves out nothing and repeats nothing. -/
theorem arrange_perm {α : Type} (n : Nat) (l : List α) : (arrange n l).Perm l := by
  fun_induction arrange n l with
  | case1 => exact .refl _
  | case2 => exact .refl _
  | case3 n a b l ih => exact (insertAt_perm _ a _).trans (ih.cons a)

/-- R164: of two parts each is taken whole, either first. -/
theorem arrangeParts_cases {α : Type} (n : Nat) (a b : List α) :
    ∃ a' b' : List α, a'.Perm a ∧ b'.Perm b ∧ (arrangeParts n a b = a' ++ b' ∨ arrangeParts n a b = b' ++ a') := by
  refine ⟨_, _, arrange_perm n a, arrange_perm (n + a.length) b, ?_⟩
  unfold arrangeParts
  cases ha : (arrange n a).isEmpty <;> cases hb : (arrange (n + a.length) b).isEmpty
  · simp only [List.filter, ha, hb, Bool.not_false, arrange, List.length_nil]
    cases Config.freeOrder (n + a.length + b.length) % 2 <;> simp [insertAt]
  all_goals simp_all [arrange]

end Sys2Proof.Machine
end

