-- ==== Sys2Proof/Laws/Blocks.lean ====
section
/-! SUPPORT. What the operations of zones, meter, tables, limits and roof bus can change: one frame lemma for each. -/

namespace Sys2Proof.Machine

/-! ### Zones (chapter 4) -/

theorem refreshCell_frame (z : Nat) (s : State) : s.refreshCell z = { s with zones := (s.refreshCell z).zones } := by
  unfold State.refreshCell
  split
  · rfl
  · exact onZone_frame z _ s

/-- R72, R73: step 1 changes only the zones and, by its notice, the host link. -/
theorem temperatureStep_frame (z : Nat) (s : State) :
    s.temperatureStep z = { s with zones := (s.temperatureStep z).zones, host := (s.temperatureStep z).host } := by
  unfold State.temperatureStep
  split
  · rfl
  · split
    · rfl
    · split <;> rfl

/-- R76, R77: step 3 changes only the zones, the units and the queue. -/
theorem modeStep_frame (z : Nat) (s : State) :
    s.modeStep z =
      { s with zones := (s.modeStep z).zones, units := (s.modeStep z).units, arbiter := (s.modeStep z).arbiter } := by
  unfold State.modeStep
  split
  · rfl
  · split
    · split <;> rfl
    · split
      · unfold State.withdrawMode
        rw [withdrawAll_frame]; rfl
      · rfl

/-- R79 to R81: step 4 changes only the zones. -/
theorem levelStep_frame (z : Nat) (s : State) : s.levelStep z = { s with zones := (s.levelStep z).zones } :=
  onZone_frame z _ s

theorem foldl_units_frame {α : Type} (f : State → α → State) (h : ∀ s a, f s a = { s with units := (f s a).units })
    (l : List α) (s : State) : l.foldl f s = { s with units := (l.foldl f s).units } := by
  induction l generalizing s with
  | nil => rfl
  | cons a rest ih => rw [List.foldl_cons, ih, h]

/-- R83: reclaims change only the zones and the units. -/
theorem reclaimStep_frame (z short : Nat) (s : State) :
    s.reclaimStep z short =
      { s with zones := (s.reclaimStep z short).zones, units := (s.reclaimStep z short).units } := by
  unfold State.reclaimStep
  split
  · rfl
  · simp only
    rw [foldl_units_frame _ fun s p => onUnit_frame p.1 _ s]
    rfl

/-- R84: a request changes only the zones, the units and the arbiter. -/
theorem requestStep_frame (z : Nat) (s : State) :
    s.requestStep z =
      { s with
        zones := (s.requestStep z).zones, units := (s.requestStep z).units, arbiter := (s.requestStep z).arbiter } := by
  unfold State.requestStep
  split
  · rfl
  · split
    · split
      · rfl
      · split
        · rw [request_frame]; rfl
        · rfl
    · rfl

/-- R85: giving up a stage changes only the zones, the units and the queue; SATISFIED is no trip. -/
theorem giveUpStep_frame (z : Nat) (s : State) :
    s.giveUpStep z =
      { s with zones := (s.giveUpStep z).zones, units := (s.giveUpStep z).units, arbiter := (s.giveUpStep z).arbiter } := by
  unfold State.giveUpStep
  split
  · rfl
  · split
    · rw [withdraw_frame]
    · split
      · rfl
      · rename_i c _
        have h : s.takeStop c.unit c.stage .satisfied =
            { s with units := (s.takeStop c.unit c.stage .satisfied).units } := by
          conv_lhs => rw [takeStop_frame, takeStop_host (by rfl)]
        simp only
        split
        · rw [h]; rfl
        · rw [h]

/-- R82: step 5 changes only the zones, the units and the arbiter. -/
theorem matchStep_frame (z : Nat) (s : State) :
    s.matchStep z =
      { s with zones := (s.matchStep z).zones, units := (s.matchStep z).units, arbiter := (s.matchStep z).arbiter } := by
  unfold State.matchStep
  split
  · rfl
  · split
    · rfl
    · simp only
      split
      · split
        · rw [requestStep_frame, reclaimStep_frame]
        · rw [reclaimStep_frame]
      · split
        · exact giveUpStep_frame z s
        · rfl

/-- R86, R87: step 6 changes only the units. -/
theorem channelStep_frame (z : Nat) (s : State) : s.channelStep z = { s with units := (s.channelStep z).units } := by
  unfold State.channelStep
  split
  · rfl
  · exact foldl_units_frame _ (fun s u => onUnit_frame u _ s) _ s

/-- A state that differs from another at most in the zones, the units, the arbiter and the host link. -/
def SameBesidesZoning (s t : State) : Prop :=
  t = { s with zones := t.zones, units := t.units, arbiter := t.arbiter, host := t.host }

theorem SameBesidesZoning.trans {s t u : State} (h : SameBesidesZoning s t) (k : SameBesidesZoning t u) :
    SameBesidesZoning s u := by
  cases s; cases t; cases u
  simp_all [SameBesidesZoning]

/-- R71: an evaluation changes only the zones, the units, the arbiter and, by the sensor notice, the host link. -/
theorem evaluate_frame (z : Nat) (s : State) : SameBesidesZoning s (s.evaluate z) := by
  have cell : SameBesidesZoning s (s.refreshCell z) := by
    unfold SameBesidesZoning; rw [refreshCell_frame]
  have temperature (s : State) : SameBesidesZoning s (s.temperatureStep z) := by
    unfold SameBesidesZoning; rw [temperatureStep_frame]
  have setpoints (s : State) : SameBesidesZoning s (s.onZone z Zone.withSetpoints) := by
    unfold SameBesidesZoning; rw [onZone_frame]
  have mode (s : State) : SameBesidesZoning s (s.modeStep z) := by
    unfold SameBesidesZoning; rw [modeStep_frame]
  have level (s : State) : SameBesidesZoning s (s.levelStep z) := by
    unfold SameBesidesZoning; rw [levelStep_frame]
  have matching (s : State) : SameBesidesZoning s (s.matchStep z) := by
    unfold SameBesidesZoning; rw [matchStep_frame]
  have channels (s : State) : SameBesidesZoning s (s.channelStep z) := by
    unfold SameBesidesZoning; rw [channelStep_frame]
  have first := (cell.trans (temperature _)).trans (setpoints _)
  unfold State.evaluate
  simp only
  split
  · exact (((first.trans (mode _)).trans (level _)).trans (matching _)).trans (channels _)
  · exact first

/-! ### The demand meter (chapter 3) -/

/-- R54: an interval opens in the meter alone. -/
theorem openInterval_frame (atClockSet : Bool) (s : State) :
    s.openInterval atClockSet = { s with meter := (s.openInterval atClockSet).meter } := rfl

/-- R57: a close changes only the meter and, by INTERVAL_OVER, the host link. -/
theorem closeInterval_frame (ceiling : Nat) (atClockSet : Bool) (s : State) :
    s.closeInterval ceiling atClockSet =
      { s with
        meter := (s.closeInterval ceiling atClockSet).meter, host := (s.closeInterval ceiling atClockSet).host } := by
  unfold State.closeInterval
  simp only
  split <;> rfl

/-- R61: a shed changes only the units and the meter; SHED is no trip. -/
theorem shed_frame (c : ShedCandidate) (s : State) :
    s.shed c = { s with units := (s.shed c).units, meter := (s.shed c).meter } := by
  have h : s.takeStop c.unit c.stage .shed = { s with units := (s.takeStop c.unit c.stage .shed).units } := by
    conv_lhs => rw [takeStop_frame, takeStop_host (by rfl)]
  unfold State.shed
  simp only
  rw [h]; rfl

/-- R46, R47: what applying a limits record leaves in the meter: the record and the pending length it gives, and a site load that
is the fallback once it is stale. Nothing else changes. -/
theorem meterApply_eq (l : Limits) (m : Meter) :
    m.apply l = { m with
      limits := l
      pendingLength := if l.length = m.interval.length then none else some l.length
      siteLoad := if m.siteStale || m.expires l then l.fallback else m.siteLoad
      siteStale := m.siteStale || m.expires l } := by
  unfold Meter.apply
  cases h : m.expires l <;> simp [Meter.toStale, Meter.write]

/-- R54: the interval that opens has a positive effective length, no more than its length. -/
theorem newInterval_effective {length : Nat} (h : 0 < length) (atClockSet : Bool) (s : State) :
    0 < (s.newInterval length atClockSet).effective ∧ (s.newInterval length atClockSet).effective ≤ length := by
  unfold State.newInterval
  split
  · rename_i t _
    have := Nat.mod_lt t.seconds h
    simp only
    omega
  · exact ⟨h, le_refl _⟩

/-- R63: the history ring never holds more than 96 records. -/
theorem record_history (h : HistoryRec) {m : Meter} (hm : m.history.length ≤ 96) : (m.record h).history.length ≤ 96 := by
  by_cases full : 96 ≤ m.history.length <;> simp [Meter.record, Config.historySize, full] <;> omega

/-! ### Tables and bindings (chapter 8) -/

/-- R146: a binding changes only the units and the zones. -/
theorem bindUnit_frame (u z : Nat) (d : Descriptor) (counters : StageName → Nat × Nat) (s : State) :
    s.bindUnit u z d counters =
      { s with units := (s.bindUnit u z d counters).units, zones := (s.bindUnit u z d counters).zones } := by
  unfold State.bindUnit
  rw [onZone_frame]; rfl

/-- R148: freeing a unit changes only the units, the zones and the roof bus master's record. -/
theorem freeUnit_frame (u : Nat) (s : State) :
    s.freeUnit u =
      { s with units := (s.freeUnit u).units, zones := (s.freeUnit u).zones, roof := (s.freeUnit u).roof } := by
  unfold State.freeUnit
  split
  · rfl
  · simp only
    rw [onZone_frame]; rfl

/-- R99: a delivery changes only the zones. -/
theorem deliver_frame (s : State) : s.deliver = { s with zones := s.deliver.zones } := by
  unfold State.deliver
  split <;> rfl

/-! ### Limits and the roof bus (chapters 7 and 9) -/

/-- R129 to R131: a soft-limit action changes only the units; SOFT_LIMIT is no trip. -/
theorem softLimitAction_frame (u : Nat) (heat : Bool) (s : State) :
    s.softLimitAction u heat = { s with units := (s.softLimitAction u heat).units } := by
  have h : ∀ (st : StageName) (s : State), s.takeStop u st .softLimit =
      { s with units := (s.takeStop u st .softLimit).units } := by
    intro st s
    conv_lhs => rw [takeStop_frame, takeStop_host (by rfl)]
  unfold State.softLimitAction
  split
  · rfl
  · split
    · simp only
      split
      · rw [onUnit_frame]; rfl
      · split
        · rw [h]; rfl
        · rfl
    · rfl

/-- R135: each content of a reply changes only the units and the host link. -/
theorem takeEvent_frame (u : Nat) (e : ReplyEvent) (s : State) :
    s.takeEvent u e = { s with units := (s.takeEvent u e).units, host := (s.takeEvent u e).host } := by
  cases e with
  | proof st =>
    simp only [State.takeEvent]
    unfold State.takeProof
    split
    · rfl
    · split
      · rfl
      · split
        · exact takeStop_frame u st .noProof s
        · rfl
  | trip st => exact takeStop_frame u st .hardLimit s
  | flame st => exact takeStop_frame u st .hardLimit s
  | fan st => exact takeStop_frame u st .fanFail s
  | soft heat =>
    simp only [State.takeEvent]
    conv_lhs => rw [softLimitAction_frame]
    rw [softLimitAction_frame]

/-- R158: the next visit changes only the cycle record. -/
theorem nextVisit_frame (s : State) : s.nextVisit = { s with roof := s.nextVisit.roof } := by
  unfold State.nextVisit
  split <;> rfl

/-! ### The common checks (chapter 10) -/

theorem namesSafety_iff (pairs : List (Byte × Half)) : namesSafety pairs = true ↔ ∃ p ∈ pairs, Rule.NamesSafety p := by
  simp [namesSafety, isSafetyField, within, Rule.NamesSafety, or_assoc]

theorem requestMalformed_iff (r : Request) : requestMalformed r = true ↔ Rule.CountsMalformed r := by
  cases r
  case unitPut =>
    simp only [requestMalformed, Rule.CountsMalformed, within, Bool.not_eq_true', Bool.and_eq_false_iff,
      decide_eq_false_iff_not]
    omega
  case schedFill =>
    simp only [requestMalformed, Rule.CountsMalformed, within, Bool.or_eq_true, Bool.not_eq_true', decide_eq_true_eq,
      Bool.and_eq_false_iff, decide_eq_false_iff_not]
    exact or_congr (by omega) Iff.rfl
  case profilePut => exact decide_eq_true_iff
  all_goals exact iff_of_false Bool.false_ne_true id

theorem requestServiceOnly_iff (r : Request) : requestServiceOnly r = true ↔ Rule.ServiceOnly r := by
  cases r
  case unitPut => exact namesSafety_iff _
  all_goals first | exact iff_of_true rfl trivial | exact iff_of_false Bool.false_ne_true id

theorem requestHalted_eq (r : Request) : requestHalted r = !servedInShutdown r := by cases r <;> rfl

theorem requestTableChanging_iff (r : Request) : requestTableChanging r = true ↔ Rule.TableChanging r := by
  cases r <;> first | exact iff_of_true rfl trivial | exact iff_of_false Bool.false_ne_true id

theorem requestLocked_iff (level : Nat) (r : Request) : requestLocked level r = true ↔ Rule.Locked level r := by
  cases r
  case unitPut => simp [requestLocked, Rule.Locked, namesSafety_iff, or_comm]
  all_goals first | exact decide_eq_true_iff | exact iff_of_false Bool.false_ne_true id

/-- R170: the common check answers with the first of the rule's checks that holds, and with none where none does. -/
theorem commonCheck_spec (r : Request) (s : State) :
    match s.commonCheck r with
    | none => ∀ c ∈ Rule.commonChecks s r, ¬c.2
    | some why => ∃ before refuses after,
        Rule.commonChecks s r = before ++ (why, refuses) :: after ∧ refuses ∧ ∀ c ∈ before, ¬c.2 := by
  classical
  have e : s.commonCheck r = if Rule.CountsMalformed r then some .malformed
      else if Rule.ServiceOnly r ∧ s.host.service = false then some .service
      else if s.host.run = .shutdown ∧ servedInShutdown r = false then some .halted
      else if Rule.TableChanging r ∧ s.store.saving = true then some .busy
      else if Rule.Locked s.table.level r then some .locked else none := by
    simp [State.commonCheck, requestMalformed_iff, requestServiceOnly_iff, requestHalted_eq, requestTableChanging_iff,
      requestLocked_iff]
  rw [e]
  by_cases h₁ : Rule.CountsMalformed r
  · rw [if_pos h₁]
    exact ⟨[], _, _, rfl, h₁, by simp⟩
  rw [if_neg h₁]
  by_cases h₂ : Rule.ServiceOnly r ∧ s.host.service = false
  · rw [if_pos h₂]
    exact ⟨[_], _, _, rfl, h₂, by simp [h₁]⟩
  rw [if_neg h₂]
  by_cases h₃ : s.host.run = .shutdown ∧ servedInShutdown r = false
  · rw [if_pos h₃]
    exact ⟨[_, _], _, _, rfl, h₃, by simp [h₁, -not_and, h₂]⟩
  rw [if_neg h₃]
  by_cases h₄ : Rule.TableChanging r ∧ s.store.saving = true
  · rw [if_pos h₄]
    exact ⟨[_, _, _], _, _, rfl, h₄, by simp [h₁, -not_and, h₂, h₃]⟩
  rw [if_neg h₄]
  by_cases h₅ : Rule.Locked s.table.level r
  · rw [if_pos h₅]
    exact ⟨[_, _, _, _], _, _, rfl, h₅, by simp [h₁, -not_and, h₂, h₃, h₄]⟩
  rw [if_neg h₅]
  simp [Rule.commonChecks, -not_and, h₁, h₂, h₃, h₄, h₅]

end Sys2Proof.Machine
end

