-- ==== Sys2Proof/Tests/Slice0.lean ====
section
/-! SUPPORT. The author's tests: ill-formed commands, the worked figures of the spec, and for each statement with hypotheses a
state and operands that meet them. -/

namespace Sys2Proof.Machine.Tests

/-! ### Ill-formed commands (WellFormed): each check refuses its own -/

theorem test_wf_unit_put_too_long : (Instr.unitPut 0 1 (List.replicate 80 (1#8, 1#16))).wellFormed = false := by decide
theorem test_wf_unit_put_longest : (Instr.unitPut 0 1 (List.replicate 79 (1#8, 1#16))).wellFormed = true := by decide
theorem test_wf_fill_too_long : (Instr.schedFill 0 7 (List.replicate 48 ⟨1, 1, 1⟩)).wellFormed = false := by decide
theorem test_wf_fill_outside_mask : (Instr.schedFill 0 1 [⟨1, 240, 0⟩]).wellFormed = false := by decide
theorem test_wf_fill_count : (Instr.schedFill 0 8 (List.replicate 256 ⟨0, 0, 0⟩)).wellFormed = false := by decide +kernel
theorem test_wf_profile_too_long : (Instr.profilePut 0 1 (List.replicate 60 (1#16, 1#16))).wellFormed = false := by decide
theorem test_wf_min_on_unit : (Instr.minOnExpiry 0 .c1).wellFormed = false := by decide
theorem test_wf_min_off_unit : (Instr.minOffExpiry 25 .c1).wellFormed = false := by decide
theorem test_wf_proving_unit : (Instr.provingExpiry 25 .h1).wellFormed = false := by decide
theorem test_wf_trip_clear_unit : (Instr.tripCountClear 0 .h1).wellFormed = false := by decide
theorem test_wf_evaluation_zone : (Instr.zoneEvaluation 13).wellFormed = false := by decide
theorem test_wf_changeover_zone : (Instr.changeoverExpiry 0).wellFormed = false := by decide
theorem test_wf_override_zone : (Instr.overrideEnd 0).wellFormed = false := by decide
theorem test_wf_purge_unit : (Instr.purgeExpiry 25).wellFormed = false := by decide
theorem test_wf_hold_off_unit : (Instr.holdOffExpiry 0).wellFormed = false := by decide
theorem test_wf_poll_ms : (Instr.pollCycleStart 1000).wellFormed = false := by decide
theorem test_wf_fallback_unit : (Instr.fallbackExpiry 0).wellFormed = false := by decide

/-! ### Figures of the spec -/

/-- R181: the nine characters "123456789" give 0x29B1. -/
theorem test_crc_of_nine_characters :
    crc16 [0x31#8, 0x32#8, 0x33#8, 0x34#8, 0x35#8, 0x36#8, 0x37#8, 0x38#8, 0x39#8] = 0x29B1#16 := by decide +kernel

/-- R51: the four rows of the fan load table. -/
theorem test_fan_load_table :
    [fanLoad 700 75, fanLoad 300 50, fanLoad 1000 120, fanLoad 150 999] = [25, 1, 120, 2] := by decide

/-- R72: the four rows of the temperature table. -/
theorem test_rounded_average_table :
    [roundedAverage [251, 252, 254], roundedAverage [240, 241], roundedAverage [-5, -6], roundedAverage [-7]] =
      [some 252, some 241, some (-5), some (-7)] := by decide

/-- R75: the four rows of the setpoint table. -/
theorem test_setpoint_table :
    [applySetpoints 10 240 200, applySetpoints 10 230 225, applySetpoints 10 340 345, applySetpoints 20 80 90] =
      [(240, 200), (235, 225), (350, 340), (120, 100)] := by decide

/-- R110: profile example A. -/
def exampleA : List Segment := [⟨200, 20⟩, ⟨300, 50⟩, ⟨500, 100⟩]

/-- R110: 199 lies in band 1, 200 and 499 in band 2, 500 and 1000 in band 3. -/
theorem test_band_rates : [199, 200, 499, 500, 1000].map (bandRate exampleA) = [20, 50, 50, 100, 100] := by decide

/-- R116: a rising step from 190 lands on 210, a falling step from 500 on 450. -/
theorem test_ramp_steps :
    [stepPosition [(1, exampleA)] 1 190 800, stepPosition [(1, exampleA)] 1 500 0] = [210, 450] := by decide

/-- A window of zones 2 to 3 and slots 10 to 12, its cursor at a cell (R104). -/
def windowAt (zonesFirst descending : Bool) (zone slot : Nat) : Window :=
  { day := 1, zLo := 2, zHi := 3, sLo := 10, sHi := 12, zonesFirst, descending, maskOcc := true, maskCool := false,
    maskHeat := false, compare := .none, compareOcc := none, cursorZone := zone, cursorSlot := slot, wraps := 0,
    taken := 0, written := 0, skipped := 0 }

/-- The cells that the cursor visits next, and the wraps after them. -/
def visited (n : Nat) (w : Window) : List (Nat × Nat) × Nat :=
  ((List.range n).map fun i => ((Window.advance^[i + 1] w).cursorZone, (Window.advance^[i + 1] w).cursorSlot),
    (Window.advance^[n] w).wraps)

/-- R104: SLOTS_FIRST, ASCENDING. -/
theorem test_cursor_slots_first :
    visited 6 (windowAt false false 2 10) = ([(2, 11), (2, 12), (3, 10), (3, 11), (3, 12), (2, 10)], 1) := by decide

/-- R104: ZONES_FIRST, ASCENDING. -/
theorem test_cursor_zones_first :
    visited 5 (windowAt true false 2 10) = ([(3, 10), (2, 11), (3, 11), (2, 12), (3, 12)], 0) := by decide

/-- R104: SLOTS_FIRST, DESCENDING. -/
theorem test_cursor_descending :
    visited 5 (windowAt false true 3 12) = ([(3, 11), (3, 10), (2, 12), (2, 11), (2, 10)], 0) := by decide

/-! ### The table has no bits; the queue -/

theorem test_no_word_spells_a_command : decodeTableWord 8 0 = none := by decide
theorem test_fetch_word_changes_nothing : State.reset.withFetchWord 8 0 = State.reset := by decide

/-! ### Witnesses -/

/-- A unit of zone 1, ONLINE, its fan at its proof level: C1 waits in the queue, C2 runs with its min-on expired. -/
def unit1 : BoundUnit :=
  let d := { Descriptor.default 1 with coolCount := 2, lockoutCount := 1 }
  let b := BoundUnit.make 1 d fun _ => (0, 0)
  { b with
    live := { b.live with link := .online, lastGood := some 95#32, space := some 250 }
    fan := { b.fan with position := 300 }
    stages := (b.stages.set .c1 (some { StageRec.make d 0 0 with state := .queued, minOff := .stopped })).set .c2
      (some { StageRec.make d 1 0 with state := .run, minOff := .stopped, lastStart := some 10#32 }) }

/-- R67: the fields of a zone, all in their ranges. -/
def fields : ZoneFields :=
  { priority := 1, period := 10, modeDiff := 5, stageDiff := 6, deadband := 10, upDelay := 120, downDelay := 120,
    changeover := 600, econEnable := 0, econLimit := 150, occFan := 700, fbOccupancy := 1, fbCool := 240, fbHeat := 200,
    staleTime := 300 }

/-- Zone 1 in COOL, due for its evaluation. -/
def zone1 : Zone :=
  { Zone.make (ZoneConfig.ofFields fields) 0#32 { occupancy := .occupied, cool := 240, heat := 200 } [1] with
    mode := .cool, lastMode := .cool, level := 2, capacity := 2, wanted := 2, evaluation := .running 0 }

/-- R26: the entry of C1 on unit 1. -/
def entry1 : Entry :=
  { unit := 1, stage := .c1, zone := 1, priority := 1, load := 100, compressor := true, joinUptime := 90#32,
    joinRank := 0#32 }

/-- A part at work: unit 1 of zone 1 with C1 in the queue and C2 running, the site load fresh, SERVICE asserted. -/
def busy : State :=
  { State.reset with
    uptime := 100#32
    host := { State.reset.host with service := true }
    table := { State.reset.table with descriptors := [(1, unit1.copy), (2, Descriptor.default 2)] }
    units := [(1, unit1)]
    zones := [(1, zone1)]
    arbiter := { State.reset.arbiter with queue := [entry1], stagger := .running 0, joinRank := 1#32 }
    meter := { State.reset.meter with siteLoad := 1000, siteAge := some 120, siteStale := false } }

/-- The part at work with nothing engaged: unit 1 has both stages in REST, C1 with its min-off due. -/
def resting : State :=
  { busy with
    units := [(1, { unit1 with
      stages := (unit1.stages.set .c1 (some { StageRec.make unit1.copy 0 0 with minOff := .running 0 })).set .c2
        (some (StageRec.make unit1.copy 0 0)) })]
    arbiter := { busy.arbiter with queue := [] } }

/-- The part at work in SHUTDOWN with nothing engaged. -/
def halted : State := { resting with host := { resting.host with run := .shutdown } }

theorem busy_units (u : Nat) : busy.unit u = if u = 1 then some unit1 else none := by
  by_cases h : u = 1 <;> simp [State.unit, busy, Table.find, h, eq_comm]

theorem busy_queueLaw : QueueLaw busy where
  units := by decide
  size := by decide
  kinds := by decide
  single := by simp [busy]
  waiting u st := by
    rw [busy_units]
    by_cases h : u = 1
    · subst h
      cases st <;> simp [busy, entry1, unit1, BoundUnit.make, Six.get, Six.set, Six.ofFn, Descriptor.names,
        Descriptor.default, isHeat, stageNumber, StageRec.make]
    · simp [h, busy, entry1, eq_comm]
  shutdown h := by simp [busy, State.reset] at h

/-! Hypotheses met, statement by statement; each theorem is named after its statement. -/

theorem test_witness_EmptyQueueStepPassesOneSecond : busy.pending = [] := by decide

theorem test_witness_PowerOnWithoutAValidImageSetsTheDefaults :
    State.reset.store.image.mark ≠ .clean ∧
      { Image.erased with mark := Mark.clean, format := 3, crcRight := true }.format ≠ 4 ∧
      { Image.erased with mark := Mark.clean }.crcRight = false := by decide

/-- A part whose image holds a valid save of the part at work. -/
def saved : State :=
  { busy with
    store := { image := { contents := busy.contents, mark := .clean, format := 4, crcRight := true }, state := .valid,
               saving := false } }

theorem test_witness_PowerOnLoadsAValidImage :
    saved.store.image.mark = .clean ∧ saved.store.image.format = 4 ∧ saved.store.image.crcRight = true := by decide

/-- R180: the power-on re-makes the saved binding with its counters. -/
theorem test_power_on_remakes_the_binding :
    (match exec (.powerOn false false false) saved with
      | .next t => (t.unit 1).map fun b => (b.zone, (b.stages.get .c2).map fun r => (r.state, r.starts, r.minOff))
      | _ => none) = some (1, some (.rest, 1, .running 300)) := by decide +kernel

theorem test_witness_SmokeAssertedEntersShutdown : busy.host.run = .normal ∧ QueueLaw busy := ⟨rfl, busy_queueLaw⟩

theorem test_witness_LineChangesSetOnlyTheirLevel : halted.host.run = .shutdown := by decide

/-- R170: code 0x08 is no request code, and PART.STATUS with one byte of payload fits none. -/
theorem refused_frames : Rule.FrameRefused 0x08 [] .unknown ∧ Rule.FrameRefused 0x01 [0#8] .malformed := by
  refine ⟨.inl ⟨by decide, rfl⟩, .inr ⟨by decide, fun r _ hc hp => ?_, rfl⟩⟩
  cases r
  case partStatus => cases hp
  all_goals simp [Request.code] at hc

theorem test_witness_BytesOfAFrameTakeItsRequest :
    Request.partStatus.wellFormed = true ∧ busy.host.receiver = .hunting ∧ busy.host.phase = .idle ∧
      ([0#8] : List Byte).length ≤ 240 ∧ Rule.FrameRefused 0x08 [] .unknown ∧ Rule.FrameRefused 0x01 [0#8] .malformed :=
  ⟨by decide, by decide, by decide, by decide, refused_frames⟩

/-- R169, R170: the result and the code answered to a frame of bytes with tag 9. -/
def answeredFrame (code : Byte) (payload : List Byte) : Option (Byte × Byte × Result) :=
  match receiveAll (hostFrame (code :: 9#8 :: payload)) State.reset with
  | .next t => t.host.reply.map fun p => (p.code, p.tag, p.result)
  | _ => none

/-- R170, R88: a code that is none, a payload too long, and a presence byte of 2 in ZONE.OVERRIDE. -/
theorem test_frames_that_make_no_request :
    [answeredFrame 0x08 [], answeredFrame 0x01 [0#8], answeredFrame 0x22 [1, 0, 1, 0x80, 0, 0x80, 0, 2, 0]] =
      [some (0x88, 9, .unknown), some (0x81, 9, .malformed), some (0xA2, 9, .malformed)] := by decide +kernel

/-- The part at work with a save in progress. -/
def saving : State := { busy with store := { busy.store with saving := true } }

/-- The part at work at a protect level. -/
def levelled (level : Nat) : State := { busy with table := { busy.table with level := level } }

/-- R170: a witness of each of the common checks, and of a request that passes them all. -/
theorem test_witness_EveryRequestIsAnsweredAndRefusalsChangeNothing :
    (busy.host.phase = .idle ∧ saving.host.phase = .idle ∧ (levelled 3).host.phase = .idle) ∧
      (Rule.CountsMalformed (.unitPut 1 []) ∧ Rule.CountsMalformed (.schedFill 0 [⟨0, 0, 0⟩]) ∧
        Rule.CountsMalformed (.profilePut 1 (List.replicate 9 (1, 1)))) ∧
      (Rule.ServiceOnly (.unitPut 1 [(5, 1)]) ∧ ¬Rule.ServiceOnly (.unitPut 1 [(4, 1)])) ∧
      (Rule.TableChanging .storeSave ∧ saving.store.saving = true) ∧
      (Rule.Locked (levelled 1).table.level (.unitPut 1 [(28, 1)]) ∧ ¬Rule.Locked (levelled 1).table.level (.unitPut 1 [(1, 1)]) ∧
        Rule.Locked (levelled 2).table.level (.unitPut 1 [(1, 1)]) ∧ ¬Rule.Locked (levelled 2).table.level (.schedEnd) ∧
        ¬Rule.Locked (levelled 2).table.level (.schedFill 1 []) ∧ Rule.Locked (levelled 3).table.level (.schedFill 1 [])) ∧
      ∀ c ∈ Rule.commonChecks busy .storeClear, ¬c.2 := by
  refine ⟨by decide, ?_, ?_, ⟨trivial, rfl⟩, ?_, ?_⟩
  · simp [Rule.CountsMalformed]
  · simp [Rule.ServiceOnly, Rule.NamesSafety]
  · simp [Rule.Locked, Rule.NamesSafety, levelled]
  · simp [Rule.commonChecks, Rule.CountsMalformed, Rule.ServiceOnly, Rule.Locked, busy, State.reset]

/-- R170, R154, R152: SERVICE, BUSY and LOCKED in NORMAL, each by its own condition alone. -/
theorem test_common_checks_in_normal :
    ([({ busy with host := { busy.host with service := false } }, Request.unitPut 1 [(5, 1)]), (saving, .zonePut 1 1 fields),
        (levelled 1, .unitPut 1 [(28, 0)]), (levelled 1, .unitPut 1 [(1, 1)]), (levelled 2, .unitFree 1),
        (levelled 2, .demandLimits 1 1 1 1 1 1 1), (levelled 3, .demandLimits 1 1 1 1 1 1 1)].map fun p =>
      (State.answerTo p.2 p.1).2.result) =
      [.service, .busy, .locked, .accepted, .locked, .range, .locked] := by decide +kernel

theorem test_witness_PartStatusReportsThePart : busy.host.phase = .idle := by decide

theorem test_witness_NoteTakeRemovesTheOldestNotices : busy.host.phase = .idle := by decide

/-- R167, R168: the bytes of a PART.STATUS frame with tag 3 are answered ACCEPTED with the request's code and tag. -/
theorem test_frame_of_part_status :
    (match receiveAll (requestFrame 3#8 .partStatus) State.reset with
      | .next t => t.host.reply.map fun r => (r.code, r.tag, r.result)
      | _ => none) = some (0x81#8, 3#8, .accepted) := by decide +kernel

/-- The receiver after some bytes of a frame. -/
def collecting (bytes : List Byte) : State := busy.setReceiver (.collecting bytes)

theorem test_witness_DiscardedBytesChangeOnlyTheReceiver :
    (busy.host.receiver = .hunting ∧ (0xB7#8 : Byte) ≠ 0xB6#8) ∧
      ((collecting []).host.receiver = .collecting [] ∧ (1#8).toNat < 2 ∧ 242 < (243#8).toNat) ∧
      ((collecting [2#8, 1#8, 0#8, 0#8]).host.receiver = .collecting ((2#8) :: 1#8 :: 0#8 :: [] ++ [0#8]) ∧
        (2#8).toNat = ([] : List Byte).length + 2 ∧ crc16 [2#8, 1#8, 0#8] ≠ half 0#8 0#8) := by decide +kernel

/-- The part while a reply is sent, with its holding buffer empty or full. -/
def answering (held : Option Frame) : State :=
  { busy with
    host := { busy.host with
      phase := .answering, holding := held
      reply := some { code := 0x81#8, tag := 0#8, result := .accepted, payload := [] } } }

theorem test_witness_OneFrameWaitsInTheHoldingBuffer :
    Request.clockGet.wellFormed = true ∧ (answering none).host.phase = .answering ∧
      (answering none).host.receiver = .hunting ∧ (answering none).host.holding = none ∧
      (answering (some { code := Request.clockGet.code, tag := 5#8, payload := Request.clockGet.payload })).host.holding =
        some { code := Request.clockGet.code, tag := 5#8, payload := Request.clockGet.payload } ∧
      (answering (some { code := 0x08, tag := 5#8, payload := [] })).host.holding = some { code := 0x08, tag := 5#8, payload := [] } ∧
      Rule.FrameRefused 0x08 [] .unknown ∧ Rule.FrameRefused 0x01 [0#8] .malformed :=
  ⟨by decide, by decide, by decide, by decide, by decide, by decide, refused_frames⟩

/-- R168: a request that completes while a reply is sent waits in the holding buffer, and the reply stays. -/
theorem test_second_request_is_held :
    (match exec (.clockGet 5#8) (answering none) with
      | .next t => (t.host.holding.map Frame.tag, t.host.reply == (answering none).host.reply)
      | _ => (none, false)) = (some 5#8, true) := by decide +kernel

theorem test_witness_RequestPayloadsReadBack :
    (Request.unitPut 1 (List.replicate 79 (1#8, 1#16))).wellFormed = true ∧
      (Request.schedFill 7 (List.replicate 47 ⟨2, 350, 100⟩)).wellFormed = true ∧
      (Request.zoneOverride 1 1 240 0x8000 (some 3) none).wellFormed = true := by decide

theorem test_witness_ShutdownRefusesTheRequestsOfR137 :
    halted.host.phase = .idle ∧ halted.host.run = .shutdown ∧ Rule.CountsMalformed (.unitPut 1 []) ∧
      (¬Rule.CountsMalformed .storeClear ∧ Rule.ServiceOnly .storeClear ∧
        ({ halted with host := { halted.host with service := false } } : State).host.service = false) ∧
      (servedInShutdown .storeSave = false ∧ ¬Rule.CountsMalformed .storeSave ∧ ¬Rule.ServiceOnly .storeSave) ∧
      servedInShutdown .clockGet = true :=
  ⟨rfl, rfl, by simp [Rule.CountsMalformed], ⟨id, trivial, rfl⟩, ⟨rfl, id, id⟩, rfl⟩

/-- The part at work with a valid clock, Friday 18:00:30. -/
def timed : State :=
  { busy with
    schedule := { busy.schedule with
      clock := { time := some { day := 5, minute := 1080, second := 30 }, holiday := false, weekdayAfter := some 1 } } }

theorem test_witness_ClockGetReportsTheClock :
    (busy.host.phase = .idle ∧ timed.host.phase = .idle) ∧
      busy.schedule.clock.time = none ∧ timed.schedule.clock.time = some { day := 5, minute := 1080, second := 30 } := by
  decide

theorem test_witness_UnitGetReturnsADescriptor :
    busy.host.phase = .idle ∧ ¬(1 ≤ (0#8).toNat ∧ (0#8).toNat ≤ 24) ∧ ¬(1 ≤ (25#8).toNat ∧ (25#8).toNat ≤ 24) ∧
      (1 ≤ (24#8).toNat ∧ (24#8).toNat ≤ 24 ∧ 1 < (2#8).toNat) ∧
      (none = if (1#8 : Byte) = 0#8 then Table.find (2#8).toNat busy.table.descriptors
        else (busy.unit (2#8).toNat).map BoundUnit.copy) ∧
      some unit1.copy = if (0#8 : Byte) = 0#8 then Table.find (1#8).toNat busy.table.descriptors
        else (busy.unit (1#8).toNat).map BoundUnit.copy := by decide

theorem test_witness_UnitReadingsReportsABoundUnit :
    busy.host.phase = .idle ∧ ¬(1 ≤ (25#8).toNat ∧ (25#8).toNat ≤ 24) ∧ busy.unit (24#8).toNat = none ∧
      busy.unit (1#8).toNat = some unit1 := by decide

/-- The part at work with the expiry of its stagger timer commanded. -/
def expiring : State := { busy with pending := [.staggerExpiry] }

/-- R34 to R37: the due expiry starts C1, and the stagger timer runs again with the start spacing. -/
theorem test_witness_CompressorStartsKeepTheStartSpacing :
    QueueLaw expiring ∧ expiring.arbiter.stagger = .running 0 ∧ expiring.pending.head? = some .staggerExpiry ∧
      (expiring.unit 1).map (fun c => c.isOn .c1) = some false ∧
      (match step expiring with
        | .next t => ((t.unit 1).map fun b => b.isOn .c1, t.arbiter.stagger)
        | _ => (none, .stopped)) = (some true, .running 30) :=
  ⟨⟨busy_queueLaw.units, busy_queueLaw.size, busy_queueLaw.kinds, busy_queueLaw.single, busy_queueLaw.waiting,
    busy_queueLaw.shutdown⟩, by decide, by decide, by decide, by decide +kernel⟩

theorem test_witness_StageGetAndQueueGetReportTheirRecords :
    busy.host.phase = .idle ∧ ¬(1 ≤ (0#8).toNat ∧ (0#8).toNat ≤ 24) ∧ busy.unit (24#8).toNat = none ∧
      busy.unit (1#8).toNat = some unit1 ∧ ¬(1 ≤ (33#8).toNat ∧ (33#8).toNat ≤ 32) ∧ ¬(1 ≤ (0#8).toNat ∧ (0#8).toNat ≤ 32) ∧
      1 ≤ (1#8).toNat ∧ (32#8).toNat ≤ 32 := by decide

theorem test_witness_ZoneGetReportsAZone :
    busy.host.phase = .idle ∧ ¬(1 ≤ (13#8).toNat ∧ (13#8).toNat ≤ 12) ∧ busy.zone (12#8).toNat = none ∧
      busy.zone (1#8).toNat = some zone1 := by decide

theorem test_witness_SchedGetReturnsCells :
    busy.host.phase = .idle ∧ ¬(1 ≤ (9#8).toNat ∧ (9#8).toNat ≤ 8 ∧ 1 ≤ (1#8).toNat ∧ (1#8).toNat ≤ 12 ∧ (0#8).toNat ≤ 95 ∧
        1 ≤ (1#8).toNat ∧ (1#8).toNat ≤ 16) ∧
      (1 ≤ (8#8).toNat ∧ (8#8).toNat ≤ 8 ∧ 1 ≤ (12#8).toNat ∧ (12#8).toNat ≤ 12 ∧ (95#8).toNat ≤ 95 ∧ 1 ≤ (16#8).toNat ∧
        (16#8).toNat ≤ 16) := by decide

/-- R109: from slot 90 with a count of 16 six cells are returned. -/
theorem test_sched_get_stops_at_slot_95 : (serveSchedGet 1 1 90 16 State.reset).2.payload.head? = some 6#8 := by
  decide +kernel

theorem test_witness_DemandGetReportsTheMeter : busy.host.phase = .idle := by decide

theorem test_witness_DemandHistoryReturnsRecordsNewestFirst :
    busy.host.phase = .idle ∧ ¬((96#8).toNat ≤ 95 ∧ 1 ≤ (1#8).toNat ∧ (1#8).toNat ≤ 10) ∧
      ((95#8).toNat ≤ 95 ∧ 1 ≤ (10#8).toNat ∧ (10#8).toNat ≤ 10) := by decide

/-- Two segments whose widths sum to 1000. -/
def twoSegments : List (Half × Half) := [(200#16, 20#16), (800#16, 50#16)]

theorem test_witness_ProfilesAreWrittenAndReadBack :
    busy.host.phase = .idle ∧ ¬(1 ≤ (9#8).toNat ∧ (9#8).toNat ≤ 8) ∧
      (1 ≤ (8#8).toNat ∧ (8#8).toNat ≤ 8 ∧ Table.find 8 busy.profiles = none) ∧
      Table.find (1#8).toNat ({ busy with profiles := [(1, exampleA)] } : State).profiles = some exampleA ∧
      (busy.host.run = .normal ∧ busy.host.service = true ∧ busy.store.saving = false ∧ busy.table.level < 2) ∧
      (∀ g ∈ twoSegments, Rule.SegmentFits g) ∧ (¬Rule.SegmentFits (1001, 1) ∧ ¬Rule.SegmentFits (1, 0)) ∧
      (twoSegments.map fun g => g.1.toNat).sum = 1000 ∧ ((twoSegments.drop 1).map fun g => g.1.toNat).sum ≠ 1000 ∧
      busy.profileUsers 1 = 0 ∧
      ({ busy with units := [(1, { unit1 with copy := { unit1.copy with fanProfile := 1 } })] } : State).profileUsers 1 ≠ 0 :=
  ⟨by decide, by decide, by decide, by decide, by decide, by simp [twoSegments, Rule.SegmentFits],
    by simp [Rule.SegmentFits], by simp [twoSegments], by simp [twoSegments], by decide, by decide⟩

/-- R111: RANGE names the first segment out of range, and 0 where the widths miss the sum. -/
theorem test_profile_ranges :
    ([twoSegments ++ [(0, 1)], (1, 1001) :: twoSegments, twoSegments.drop 1].map fun g => (serveProfilePut 1 g busy).2.payload) =
      [[3#8], [1#8], [0#8]] := by decide +kernel

theorem test_witness_PartReleaseReturnsToNormal :
    ({ halted with host := { halted.host with smoke := true } } : State).host.smoke = true ∧
      (busy.host.phase = .idle ∧ halted.host.phase = .idle) ∧
      (busy.host.smoke = false ∧ busy.host.run = .normal) ∧ (halted.host.smoke = false ∧ halted.host.run = .shutdown) := by
  decide

theorem test_witness_PartProtectSetsTheLevel :
    (busy.host.phase = .idle ∧ busy.host.service = true ∧ busy.host.run = .normal ∧ busy.store.saving = false) ∧
      (({ busy with table := { busy.table with hold := true }, host := { busy.host with protect := true } } : State).table.hold =
        true) ∧
      (busy.table.hold && busy.host.protect) = false ∧ 3 < (4#8).toNat ∧ ((3#8).toNat ≤ 3 ∧ 1 < (2#8).toNat) ∧
      (3#8).toNat ≤ 3 ∧ (1#8).toNat ≤ 1 := by decide

theorem test_witness_PartRestartReturnsTheWorkingState :
    busy.host.phase = .idle ∧ busy.host.run = .normal ∧ busy.store.saving = false ∧ QueueLaw busy ∧
      ({ busy with store := { busy.store with saving := true } } : State).store.saving = true :=
  ⟨rfl, rfl, rfl, busy_queueLaw, rfl⟩

theorem test_witness_ClockSetSetsTheClockAndClosesTheInterval :
    busy.host.phase = .idle ∧ ¬(1 ≤ (9#8).toNat ∧ (9#8).toNat ≤ 8) ∧ 1439 < (1440#16).toNat ∧ 59 < (60#8).toNat ∧ 1 < (2#8).toNat ∧
      ¬(1 ≤ (0#8).toNat ∧ (0#8).toNat ≤ 7) ∧
      (1 ≤ (8#8).toNat ∧ (8#8).toNat ≤ 8 ∧ (1439#16).toNat ≤ 1439 ∧ (59#8).toNat ≤ 59 ∧ (1#8).toNat ≤ 1 ∧
        1 ≤ (7#8).toNat ∧ (7#8).toNat ≤ 7) ∧
      busy.meter.interval.elapsed = 0 := by decide

/-- R140: an absent descriptor holds the column of defaults. -/
theorem test_field_defaults :
    ∀ id ∈ List.range 29, fieldOf (Descriptor.default 24) id = Rule.fieldDefault 24 id := by decide

/-- Three fields at the ends of their ranges, two of them safety fields. -/
def threeFields : List (Byte × Half) := [(0#8, 1#16), (12#8, 60#16), (28#8, 600#16)]

theorem threeFields_fit : ∀ p ∈ threeFields, Rule.PairFits p := by
  intro p hp
  simp [threeFields] at hp
  rcases hp with rfl | rfl | rfl
  exacts [⟨0, 1, by decide⟩, ⟨60, 1200, by decide⟩, ⟨0, 600, by decide⟩]

theorem test_witness_UnitPutWritesTheFieldsItNames :
    (busy.host.phase = .idle ∧ busy.host.run = .normal ∧ busy.store.saving = false ∧ busy.host.service = true ∧
        busy.table.level = 0) ∧
      ¬(1 ≤ (25#8).toNat ∧ (25#8).toNat ≤ 24) ∧ (∃ p ∈ threeFields, Rule.NamesSafety p) ∧
      (∀ p ∈ threeFields, Rule.PairFits p) ∧ (threeFields.map Prod.fst).Nodup ∧ (0#8, 0#16) ∉ threeFields ∧
      ¬Rule.PairFits (29#8, 0#16) ∧ ¬Rule.PairFits (12#8, 59#16) ∧ (28#8 : Byte) ∈ threeFields.map Prod.fst ∧
      (0#8, 0#16) ∈ [((0#8 : Byte), (0#16 : Half)), (12#8, 60#16)] ∧ Rule.PairFits (0#8, 0#16) ∧
      busy.unit (2#8).toNat = none ∧ busy.unit (1#8).toNat ≠ none := by
  refine ⟨by decide, by decide, ⟨(28#8, 600#16), by decide, .inr (.inr (by decide))⟩, threeFields_fit, by decide, by decide,
    ?_, ?_, by decide, by decide, ⟨0, 1, by decide⟩, by decide, by decide⟩ <;>
    (rintro ⟨lo, hi, h, hl, _⟩; simp [Rule.fieldBounds] at h hl; try omega)

theorem test_witness_UnitBindMakesABoundUnit :
    (busy.host.phase = .idle ∧ busy.host.run = .normal ∧ busy.store.saving = false ∧ busy.table.level < 2) ∧
      Rule.Bindable busy (2#8).toNat (1#8).toNat (Descriptor.default 2) ∧
      Rule.Bindable busy (2#8).toNat (0#8).toNat (Descriptor.default 2) ∧
      (∀ d, ¬Rule.Bindable busy (25#8).toNat (1#8).toNat d) ∧ ∀ d, ¬Rule.Bindable busy (1#8).toNat (1#8).toNat d := by
  have fits : FitsBinding busy.profiles (Descriptor.default 2) := ⟨by decide, by simp [Descriptor.default]⟩
  have free : AddressFree busy 2 (Descriptor.default 2).busAddress := by
    simp [AddressFree, busy, unit1, BoundUnit.make, Descriptor.default]
  exact ⟨by decide, ⟨by decide, by decide, by decide, rfl, rfl, fun _ => ⟨zone1, rfl, by decide⟩, fits, free⟩,
    ⟨by decide, by decide, by decide, rfl, rfl, fun h => absurd rfl h, fits, free⟩,
    fun d h => absurd h.2.1 (by decide), fun d h => by have := h.2.2.2.2.1; simp [busy_units] at this⟩

/-- R145: the refusals of UNIT.BIND up to TAKEN, in their order: indices, an absent descriptor, an undefined zone, a bound unit. -/
theorem test_bind_refusals :
    ([(25#8, 1#8), (2#8, 13#8), (3#8, 1#8), (2#8, 12#8), (1#8, 1#8)].map fun p => (serveUnitBind p.1 p.2 busy).2.result) =
      [.index, .index, .absent, .absent, .taken] := by decide +kernel

theorem test_witness_UnitFreeDiscardsTheUnit :
    (busy.host.phase = .idle ∧ busy.host.run = .normal ∧ busy.store.saving = false ∧ busy.table.level < 2) ∧
      ¬(1 ≤ (25#8).toNat ∧ (25#8).toNat ≤ 24) ∧ busy.unit (24#8).toNat = none ∧
      (busy.unit (1#8).toNat = some unit1 ∧ unit1.anyEngaged = true) ∧
      (resting.unit (1#8).toNat).map BoundUnit.anyEngaged = some false ∧ resting.host.run = .normal ∧
      resting.host.phase = .idle ∧ resting.store.saving = false ∧ resting.table.level < 2 := by decide

theorem test_witness_UnitRefreshTakesTheStoredDescriptor :
    (resting.host.phase = .idle ∧ resting.host.run = .normal ∧ resting.store.saving = false ∧ resting.table.level < 2) ∧
      ¬(1 ≤ (0#8).toNat ∧ (0#8).toNat ≤ 24) ∧ resting.unit (24#8).toNat = none ∧
      (busy.unit (1#8).toNat = some unit1 ∧ unit1.anyEngaged = true) ∧
      (∃ b, resting.unit (1#8).toNat = some b ∧ b.anyEngaged = false) ∧
      Table.find (1#8).toNat resting.table.descriptors = some unit1.copy ∧ FitsBinding resting.profiles unit1.copy ∧
      AddressFree resting 1 unit1.copy.busAddress ∧
      Rule.Misfit resting.profiles { unit1.copy with heatCount := 1 } 4 ∧
      Rule.Misfit resting.profiles { unit1.copy with gasProfile := 8 } 18 ∧ ¬AddressFree resting 2 unit1.copy.busAddress :=
  ⟨by decide, by decide, by decide, by decide, ⟨_, rfl, by decide⟩, rfl,
    ⟨by decide, by simp [unit1, BoundUnit.make, Descriptor.default]⟩, by simp [AddressFree, resting],
    .inl ⟨rfl, by decide⟩, .inr ⟨by decide, .inr ⟨.inl rfl, .inr ⟨.inl rfl, rfl, by decide, rfl⟩⟩⟩,
    fun h => h (1, _) (.head _) (by decide) rfl⟩

/-- A stage in LOCKOUT after one trip. -/
def lockedOut : StageRec := { StageRec.make unit1.copy 1 0 with state := .lockout, minOff := .stopped, trips := 1 }

theorem test_witness_StageUnlockReleasesALockedOutStage :
    busy.host.phase = .idle ∧ busy.host.run = .normal ∧ busy.host.service = true ∧
      ¬(1 ≤ (24#8).toNat ∧ (24#8).toNat ≤ 24 ∧ 1 ≤ (7#8).toNat ∧ (7#8).toNat ≤ 6) ∧
      ((1#8).toNat = stageCode .c1 ∧ (6#8).toNat = stageCode .h2 ∧ busy.unit (24#8).toNat = none ∧
        unit1.stages.get .h2 = none ∧ busy.unit (1#8).toNat = some unit1) ∧
      ({ unit1 with stages := unit1.stages.set .c2 (some lockedOut) } : BoundUnit).stages.get .c2 = some lockedOut ∧
      lockedOut.state = .lockout ∧ ((unit1.stages.get .c1).any fun r => r.state ≠ .lockout) = true := by decide

/-- R18: INDEX for unit 25 and for stage codes 0 and 7, ABSENT for an unbound unit and an unnamed stage, then STATE. -/
theorem test_stage_unlock_refusals :
    ([(25#8, 1#8), (1, 0), (1, 7), (24, 1), (1, 6), (1, 1)].map fun p => (serveStageUnlock p.1 p.2 busy).2.result) =
      [.index, .index, .index, .absent, .absent, .state] := by decide +kernel

theorem fields_fit (n : Nat) : Rule.ZoneFieldFits fields n := fun lo hi h =>
  (by decide : ∀ p ∈ Rule.zoneBounds, p.2.1 ≤ Rule.zoneField fields p.1 ∧ Rule.zoneField fields p.1 ≤ p.2.2) (n, lo, hi) h

theorem test_witness_ZonePutDefinesChangesAndRemovesAZone :
    (busy.host.phase = .idle ∧ busy.host.run = .normal ∧ busy.store.saving = false ∧ busy.table.level < 2) ∧
      ¬(1 ≤ (13#8).toNat ∧ (13#8).toNat ≤ 12) ∧ (1 ≤ (1#8).toNat ∧ (12#8).toNat ≤ 12) ∧
      (∀ n, 1 ≤ n → n ≤ 15 → Rule.ZoneFieldFits fields n) ∧
      (¬Rule.ZoneFieldFits { fields with staleTime := 59 } 15 ∧
        ∀ m, 1 ≤ m → m < 15 → Rule.ZoneFieldFits { fields with staleTime := 59 } m) ∧
      busy.zone (1#8).toNat = some zone1 ∧ busy.zone (12#8).toNat = none ∧ zone1.units ≠ [] ∧ 1 < (2#8).toNat := by
  refine ⟨by decide, by decide, by decide, fun n _ _ => fields_fit n, ⟨fun h => ?_, fun m _ hm lo hi h => ?_⟩, by decide,
    by decide, by decide, by decide⟩
  · exact absurd (h 60 900 (by decide)) (by decide)
  · exact (by decide : ∀ p ∈ Rule.zoneBounds, p.1 < 15 → p.2.1 ≤ Rule.zoneField { fields with staleTime := 59 } p.1 ∧
      Rule.zoneField { fields with staleTime := 59 } p.1 ≤ p.2.2) (m, lo, hi) h hm

/-- Zone 1 with an override that expires now, or in one second. -/
def forcedUntil (expiry : Word) : Zone :=
  { zone1 with forced := some { cool := some 250, heat := none, modeForce := none, occForce := some .occupied, expiry } }

theorem test_witness_OverridesArePlacedClearedAndExpire :
    (busy.zone (1#8).toNat = some zone1 ∧ busy.host.phase = .idle ∧ busy.host.run = .normal) ∧
      (¬(1 ≤ (13#8).toNat ∧ (13#8).toNat ≤ 12) ∧ busy.zone (12#8).toNat = none) ∧
      (720 < (721#16).toNat ∧ 3 < (4#8).toNat ∧ 2 < (3#8).toNat) ∧
      ((720#16).toNat ≤ 720 ∧ (1#16 : Half) ≠ 0#16) ∧
      (3#8).toNat ≤ 3 ∧ (2#8).toNat ≤ 2 ∧
      ((forcedUntil 100#32).forced.map Override.expiry = some busy.uptime) ∧
      ((101#32 - busy.uptime).toNat ≤ 43200 ∧ busy.uptime ≠ 101#32) ∧ zone1.forced = none := by decide

/-- R88: the refusals of ZONE.OVERRIDE in their order. -/
theorem test_override_refusals :
    ([(13#8, 721#16, 4#8, 3#8), (12, 721, 4, 3), (1, 721, 4, 3), (1, 720, 4, 3), (1, 720, 3, 3), (1, 720, 3, 2)].map fun p =>
      let a := (serveZoneOverride p.1 p.2.1 240 200 (some p.2.2.1) (some p.2.2.2) busy).2
      (a.result, a.payload.head?)) =
      [(.index, none), (.absent, none), (.range, some 2#8), (.range, some 5), (.range, some 6), (.accepted, some 1)] := by
  decide +kernel

/-- The part at work with the window of R104's example open, its mask the occupancy. -/
def windowed : State := { timed with schedule := { timed.schedule with window := some (windowAt false false 2 10) } }

theorem test_witness_WindowsOpenAndCloseWithTheirTotals :
    (windowed.host.phase = .idle ∧ windowed.host.run = .normal ∧ windowed.store.saving = false ∧ windowed.table.level < 3) ∧
      windowed.schedule.window ≠ none ∧ busy.schedule.window = none ∧
      (∀ n, 1 ≤ n → n ≤ 10 → Rule.WindowFieldFits 8 1 12 0 95 1 1 7 2 2 n) ∧
      (¬Rule.WindowFieldFits 8 1 12 0 95 1 1 7 2 3 10 ∧
        ∀ m, 1 ≤ m → m < 10 → Rule.WindowFieldFits 8 1 12 0 95 1 1 7 2 3 m) := by
  refine ⟨by decide, by decide, by decide, fun n _ _ => ?_, by simp [Rule.WindowFieldFits], fun m _ _ => ?_⟩
  · interval_cases n <;> simp [Rule.WindowFieldFits]
  · interval_cases m <;> simp [Rule.WindowFieldFits]

/-- R101: each of the ten fields, the first to fail just outside its range; and with NONE the tenth is not checked. -/
theorem test_window_ranges :
    [windowFailure 9 1 1 0 0 0 0 1 0 0, windowFailure 8 13 13 0 0 0 0 1 0 0, windowFailure 8 2 1 0 0 0 0 1 0 0,
        windowFailure 8 1 1 96 96 0 0 1 0 0, windowFailure 8 1 1 1 0 0 0 1 0 0, windowFailure 8 1 1 0 0 2 0 1 0 0,
        windowFailure 8 1 1 0 0 0 2 1 0 0, windowFailure 8 1 1 0 0 0 0 8 0 0, windowFailure 8 1 1 0 0 0 0 1 3 0,
        windowFailure 8 1 1 0 0 0 0 1 1 3, windowFailure 8 1 1 0 0 0 0 1 0 3] =
      [some 1, some 2, some 3, some 4, some 5, some 6, some 7, some 8, some 9, some 10, none] := by decide +kernel

theorem test_witness_SchedFillWritesOneValueAtTheCursor :
    (windowed.host.phase = .idle ∧ windowed.host.run = .normal ∧ windowed.store.saving = false ∧ windowed.table.level < 3) ∧
      windowed.schedule.window = some (windowAt false false 2 10) ∧ Rule.CursorInWindow (windowAt false false 2 10) ∧
      busy.schedule.window = none ∧
      ((1#8 : Byte) ≠ 0#8 ∧ Rule.SameMask 1#8 (windowAt false false 2 10) ∧ ¬Rule.SameMask 9#8 (windowAt false false 2 10)) ∧
      (2#8).toNat ≤ 2 ∧ 2 < (3#8).toNat := by
  unfold Rule.SameMask Rule.CursorInWindow
  decide

/-- R102: NOWINDOW, RANGE 0 for another mask, and RANGE n for the first occupancy above 2. -/
theorem test_fill_refusals :
    ([serveSchedFill 1 [⟨1, 0, 0⟩] busy, serveSchedFill 9 [⟨1, 0, 0⟩] windowed, serveSchedFill 1 [⟨2, 0, 0⟩, ⟨3, 0, 0⟩] windowed].map
      fun p => (p.2.result, p.2.payload)) = [(.noWindow, []), (.range, [0#8]), (.range, [2#8])] := by decide +kernel

theorem test_witness_FillsWalkTheWindowInOrder :
    (Rule.CursorInWindow (windowAt false false 3 12) ∧ Rule.CursorInWindow (windowAt false false 2 10)) ∧
      (windowed.host.phase = .idle ∧ windowed.host.run = .normal ∧ windowed.store.saving = false ∧
        windowed.table.level < 3) ∧ windowed.schedule.window = some (windowAt false false 2 10) ∧
      Rule.SameMask 1#8 (windowAt false false 2 10) ∧
      (∀ x ∈ [(⟨2, 0, 0⟩ : FillValue), ⟨0, 0, 0⟩], x.occupancy.toNat ≤ 2) ∧
      1 ≤ ([(⟨0, 0, 0⟩ : FillValue)]).length ∧ ([(⟨0, 0, 0⟩ : FillValue)]).length < 16 := by
  unfold Rule.SameMask Rule.CursorInWindow
  decide

/-- R104's example: a fill moves the cursor one cell on, and from the last cell to the first with a wrap. -/
theorem test_fill_moves_the_cursor :
    ([(2, 10), (2, 12), (3, 12)].map fun at' =>
      match exec (.schedFill 9 1 [⟨2, 0, 0⟩])
          { timed with schedule := { timed.schedule with window := some (windowAt false false at'.1 at'.2) } } with
      | .next t => t.schedule.window.map fun w => (w.cursorZone, w.cursorSlot, w.wraps)
      | _ => none) = [some (2, 11, 0), some (3, 10, 0), some (2, 10, 1)] := by decide +kernel

theorem test_witness_DemandLimitsWritesTheRecord :
    (busy.host.phase = .idle ∧ busy.host.run = .normal ∧ busy.store.saving = false ∧ busy.table.level < 3) ∧
      (∀ n, 1 ≤ n → n ≤ 7 → Rule.LimitFits 100 65000 65000 300 30 120 n) ∧
      (¬Rule.LimitFits 100 65000 65000 300 30 121 7 ∧ ∀ m, 1 ≤ m → m < 7 → Rule.LimitFits 100 65000 65000 300 30 121 m) ∧
      ((30#16).toNat < busy.meter.limits.stale ∧ busy.meter.siteStale = false ∧ busy.meter.siteAge = some 120 ∧
        (30#16).toNat ≤ 120) := by
  refine ⟨by decide, fun n _ _ => ?_, ⟨by simp [Rule.LimitFits], fun m _ _ => ?_⟩, by decide⟩
  · interval_cases n <;> simp [Rule.LimitFits, IntervalLength]
  · interval_cases m <;> simp [Rule.LimitFits, IntervalLength]

/-- R45: each of the seven fields but the fifth, which takes every value, just outside its range. -/
theorem test_limit_ranges :
    [limitsFailure ⟨99, 99, 100, 300, 0, 30, 10⟩, limitsFailure ⟨100, 65001, 65535, 300, 0, 30, 10⟩,
        limitsFailure ⟨100, 200, 199, 300, 0, 30, 10⟩, limitsFailure ⟨100, 200, 200, 301, 0, 30, 10⟩,
        limitsFailure ⟨100, 200, 200, 3600, 65535, 29, 10⟩, limitsFailure ⟨100, 200, 200, 300, 0, 901, 10⟩,
        limitsFailure ⟨100, 200, 200, 300, 0, 900, 9⟩] =
      [some 1, some 2, some 3, some 4, some 6, some 6, some 7] := by decide +kernel

theorem test_witness_TheSiteLoadIsTakenAndGoesStale :
    (busy.meter.siteAge = some 120 ∧ busy.meter.siteStale = false ∧ busy.meter.limits.stale ≤ 120) ∧
      busy.host.phase = .idle ∧ State.reset.meter.siteStale = true := by decide

theorem test_witness_SavesTakeTheTablesAndComplete :
    (busy.host.phase = .idle ∧ busy.host.run = .normal ∧ busy.store.saving = false ∧ busy.schedule.window = none) ∧
      windowed.schedule.window ≠ none ∧ ({ busy with store := { busy.store with saving := true } } : State).store.saving = true := by
  decide

/-- The part at rest with a site-stale time of 900 s, longer than the age of its fresh site load. -/
def patient : State := { resting with meter := { resting.meter with limits := { resting.meter.limits with stale := 900 } } }

theorem test_witness_StoreClearReturnsEveryTableToItsDefault :
    (busy.host.phase = .idle ∧ busy.host.run = .normal ∧ busy.host.service = true ∧ busy.store.saving = false) ∧
      0 < ({ busy with table := { busy.table with level := 1 } } : State).table.level ∧ busy.table.level = 0 ∧
      (∃ p ∈ busy.units, p.2.anyEngaged = true) ∧ (∀ p ∈ resting.units, p.2.anyEngaged = false) ∧
      ¬120 < busy.meter.limits.stale ∧
      (120 < patient.meter.limits.stale ∧ patient.meter.siteStale = false ∧ patient.meter.siteAge = some 120) := by decide

/-- R45, R47, R179: at STORE.CLEAR the default site-stale time of 120 s makes a site load of that age stale; no notice. -/
theorem test_store_clear_makes_the_site_load_stale :
    (match exec (.storeClear 0) patient with
      | .next t => (t.meter.siteLoad, t.meter.siteStale, t.host.notices)
      | _ => (0, false, [])) = (65535, true, []) := by decide +kernel

theorem test_witness_DueExpiriesChangeTheirOneRecord :
    ((resting.unit 1).bind fun b => b.stages.get .c1).map (fun r => (r.minOff, r.state)) = some (.running 0, .rest) ∧
      (((busy.unit 1).bind fun b => b.stages.get .c2).map fun r => (r.state.isOn, r.lastStart)) = some (true, some 10#32) ∧
      1800 ≤ (1810#32 - 10#32).toNat ∧
      ({ zone1 with changeover := .running 0 } : Zone).changeover = .running 0 ∧
      ({ unit1 with purge := .running 0 } : BoundUnit).purge = .running 0 ∧
      Table.wf busy.units = true ∧ Table.wf busy.zones = true ∧ zone1.changeover ≠ .running 0 ∧
      unit1.purge ≠ .running 0 ∧ unit1.limit.holdOff ≠ .running 0 := by decide

/-- The record of C2 in another state, with its timers. -/
def stageAs (state : StageState) (minOn proving : Timer) (cause : Option StopCause) : StageRec :=
  { StageRec.make unit1.copy 1 0 with
    state, minOn, proving, minOff := .stopped, pendingCause := cause, lastStart := some 10#32 }

/-- The part at work with C2 in another state and the unit's link as given. -/
def withStage (r : StageRec) (link : LinkState) : State :=
  { busy with
    units := [(1, { unit1 with stages := unit1.stages.set .c2 (some r), live := { unit1.live with link := link } })] }

theorem test_witness_MinOnAndProvingEndRuns :
    ((withStage (stageAs .hold (.running 0) .stopped (some .satisfied)) .online).unit 1).bind (fun b => b.stages.get .c2) =
        some (stageAs .hold (.running 0) .stopped (some .satisfied)) ∧
      ((withStage (stageAs .run (.running 0) .stopped none) .online).unit 1).bind (fun b => b.stages.get .c2) =
        some (stageAs .run (.running 0) .stopped none) ∧
      ((withStage (stageAs .proving (.running 120) (.running 0) none) .online).unit 1).map (fun b => b.live.link) =
        some .online ∧
      ((withStage (stageAs .proving (.running 120) (.running 0) none) .missing).unit 1).map (fun b => b.live.link) =
        some .missing := by decide

/-- R7, R14: without proof on an ONLINE unit with a lockout count of 1 the stage goes to LOCKOUT. -/
theorem test_no_proof_locks_out :
    (match exec (.provingExpiry 1 .c2) (withStage (stageAs .proving (.running 120) (.running 0) none) .online) with
      | .next t => ((t.unit 1).bind fun b => b.stages.get .c2).map fun r => (r.state, r.trips, r.lastRun)
      | _ => none) = some (.lockout, 1, some 90#32) := by decide +kernel

theorem test_witness_StaggerExpiryMakesAGrantAttempt :
    (∀ e ∈ busy.arbiter.queue, busy.unit e.unit ≠ none) ∧ busy.arbiter.stagger = .running 0 ∧
      State.reset.arbiter.stagger ≠ .running 0 := by decide

/-- R37: the due stagger expiry grants the waiting stage. -/
theorem test_stagger_expiry_grants :
    (match exec .staggerExpiry busy with
      | .next t => (((t.unit 1).bind fun b => b.stages.get .c1).map fun r => (r.state, r.minOn, r.proving),
          t.arbiter.queue.length, t.arbiter.stagger)
      | _ => (none, 0, .stopped)) = (some (.proving, .running 180, .running 60), 0, .running 30) := by decide +kernel

/-- The part at work in the last second of its interval, or under a ceiling that its load exceeds. -/
def metering (elapsed ceiling : Nat) (minOn : Timer) : State :=
  { withStage (stageAs .run minOn .stopped none) .online with
    meter := { busy.meter with
      limits := { busy.meter.limits with ceiling }
      interval := { busy.meter.interval with elapsed := elapsed, energy := 1101 * elapsed } } }

theorem test_witness_TheAccumulationEventMetersSheddingAndGrants :
    (∀ e ∈ (metering 899 65000 .stopped).arbiter.queue, (metering 899 65000 .stopped).unit e.unit ≠ none) ∧
    (Table.wf (metering 899 65000 .stopped).units = true ∧ (metering 899 65000 .stopped).meter.interval.elapsed + 1 = 900) ∧
      (1101 * 11 + 1101 * 889 ≤ 65000 * 900 ∧ (metering 10 65000 .stopped).presentLoad = 1101) ∧
      ¬(1101 * 11 + 1101 * 889 ≤ 1000 * 900) := by decide +kernel

/-- R61: above the ceiling the running stage is shed; R62: with its min-on running an overrun is recorded. -/
theorem test_shed_and_overrun :
    (match exec .accumulationEvent (metering 10 1000 .stopped) with
      | .next t => (((t.unit 1).bind fun b => b.stages.get .c2).map StageRec.state, t.meter.interval.sheds)
      | _ => (none, 0)) = (some .rest, 1) ∧
      (match exec .accumulationEvent (metering 10 1000 (.running 5)) with
        | .next t => (t.meter.interval.overrun, t.host.notices.map Notice.kind)
        | _ => (false, [])) = (true, [.overrun]) := by decide +kernel

theorem test_witness_ZoneEvaluationTakesItsSteps :
    busy.zone 1 = some zone1 ∧ zone1.evaluation = .running 0 ∧ (zone1.tick.evaluation = .running 0) ∧
      ({ zone1 with evaluation := .running 1 } : Zone).evaluation ≠ .running 0 ∧ busy.host.run = .normal ∧
      halted.host.run = .shutdown := by decide

/-- The zone after its evaluation: 25.0 °C against an applied cool setpoint of 24.0 °C asks for one level. -/
theorem test_evaluation_of_zone_1 :
    (match exec (.zoneEvaluation 1) busy with
      | .next t => (t.zone 1).map fun r => (r.temperature, r.appliedCool, r.mode, r.level, r.wanted, r.evaluation)
      | _ => none) = some (some 250, 240, .cool, 2, 2, .running 10) := by decide +kernel

/-- Zone 1 with other wanted stages: a level that its stage-down delay lets fall, or one that its capacity lets rise. -/
def calling (level : Nat) (space : Int) (queue : List Entry) (c1 c2 : StageRec) (order : List (Nat × StageName)) : State :=
  { busy with
    units := [(1, { unit1 with
      stages := (unit1.stages.set .c1 (some c1)).set .c2 (some c2), live := { unit1.live with space := some space } })]
    zones := [(1, { zone1 with level := level, holdOrder := order })]
    arbiter := { busy.arbiter with queue := queue } }

/-- The unit's C1 and C2 in given states. -/
def c1As (state : StageState) : StageRec := { StageRec.make unit1.copy 0 0 with state := state, minOff := .stopped }

/-- What an evaluation of zone 1 leaves: wanted stages, the states of C1 and C2 and the length of the queue. -/
def evaluated (s : State) : Option (Nat × Option StageState × Option StageState × Nat) :=
  match exec (.zoneEvaluation 1) s with
  | .next t => (t.zone 1).map fun r =>
      (r.wanted, ((t.unit 1).bind fun b => b.stages.get .c1).map StageRec.state,
        ((t.unit 1).bind fun b => b.stages.get .c2).map StageRec.state, t.arbiter.queue.length)
  | _ => none

/-- The part with zone 1's last level step up 5 s ago, inside its step-up delay: the request gate is closed. -/
def hurried (s : State) : State := s.onZone 1 fun r => { r with lastIncrease := some 95#32 }

theorem test_witness_ZonesMatchActiveStagesToWanted :
    [evaluated (calling 2 252 [entry1] (c1As .queued) (stageAs .run .stopped .stopped none) []),
        evaluated (calling 1 246 [entry1] (c1As .queued) (stageAs .run .stopped .stopped none) []),
        evaluated (calling 1 246 [] (stageAs .run .stopped .stopped none) (stageAs .run .stopped .stopped none) []),
        evaluated (calling 2 252 [] (c1As .queued) (stageAs .hold (.running 9) .stopped (some .satisfied)) [(1, .c2)]),
        evaluated (calling 1 246 [] (c1As .off) (c1As .off) []),
        evaluated (calling 2 252 [] (stageAs .hold (.running 9) .stopped (some .satisfied)) (c1As .off) [(1, .c1)]),
        evaluated (hurried (calling 2 252 [] (stageAs .hold (.running 9) .stopped (some .satisfied)) (c1As .off) [(1, .c1)]))] =
      [some (2, some .queued, some .run, 1), some (1, some .off, some .run, 0), some (1, some .run, some .rest, 0),
        some (2, some .queued, some .run, 0), some (1, some .queued, some .off, 1),
        some (2, some .run, some .queued, 1), some (2, some .run, some .off, 0)] := by decide +kernel

/-- R26, R28, R31, R84: in the fifth case C1 joins behind an entry of priority 1 and before one of priority 0, with the fields of
R26; the attempt at the join finds unit 2 not bound and C1 due to wait for the stagger timer. -/
theorem test_join_of_a_request :
    (match exec (.zoneEvaluation 1)
        (calling 1 246 [{ entry1 with unit := 2, zone := 2 }, { entry1 with unit := 3, zone := 2, priority := 0 }] (c1As .off)
          (c1As .off) []) with
      | .next t => (t.arbiter.queue.map Entry.unit, t.arbiter.queue[1]?, t.arbiter.attempt.map fun a =>
          (a.cause, a.outcome, a.skipped))
      | _ => ([], none, none)) =
      ([2, 1, 3],
        some { unit := 1, stage := .c1, zone := 1, priority := 1, load := 100, compressor := true, joinUptime := 100#32,
               joinRank := 1#32 },
        some (.join, .none, 3)) := by decide +kernel

theorem test_witness_ClockTickMovesTheClock :
    busy.schedule.clock.time = none ∧ timed.schedule.clock.time = some { day := 5, minute := 1080, second := 30 } ∧
      timed.schedule.clock.weekdayAfter = some 1 ∧ (1439 : Nat) ≤ 1439 ∧ (59 : Nat) ≤ 59 := by decide

/-- 5.7: a holiday mark sent on Friday takes Friday's midnight to the holiday, and the holiday's to the weekday after it. -/
theorem test_midnight_over_a_holiday :
    let friday : Clock :=
      { time := some { day := 5, minute := 1439, second := 59 }, holiday := true, weekdayAfter := some 7 }
    let holiday := friday.advance { day := 5, minute := 1439, second := 59 }
    holiday = { time := some { day := 8, minute := 0, second := 0 }, holiday := false, weekdayAfter := some 7 } ∧
      (holiday.advance { day := 8, minute := 1439, second := 59 }).time = some { day := 7, minute := 0, second := 0 } := by
  decide

theorem test_witness_RampStepMovesEveryChannel :
    busy.unit 1 = some unit1 ∧ unit1.live.link ≠ .lost ∧ Table.find 1 [(1, exampleA)] = some exampleA ∧ exampleA ≠ [] := by
  decide

/-- R116, R118: with a stage on, a fan at 300 with target 700 and example A takes 50 in its second band. -/
theorem test_ramp_step_of_a_fan :
    (match exec .rampStep
        { busy with
          profiles := [(1, exampleA)]
          units := [(1, { unit1 with fan := { position := 300, target := 700, profile := 1 } })] } with
      | .next t => (t.unit 1).map fun b => b.fan.position
      | _ => none) = some 350 := by decide +kernel

theorem test_witness_PollCyclesVisitEveryBoundUnit :
    (Table.wf busy.units = true ∧ (999 : Nat) < 1000) ∧
      ({ busy with roof := { busy.roof with visit := some ⟨1, 1, true⟩ } } : State).roof.visit ≠ none ∧
      (busy.roof.visit = none ∧ busy.roof.start + 1000 ≤ busy.uptime.toNat * 1000 + 999) ∧
      ([(⟨1, false⟩ : Place), ⟨1, true⟩].drop 0 = [(⟨1, false⟩ : Place)] ++ (⟨1, true⟩ : Place) :: [] ∧
        busy.unit 1 = some unit1) := by decide

/-- A part with the visit of unit 1 in progress. -/
def visiting (b : BoundUnit) : State :=
  { busy with
    units := [(1, b)]
    roof := { busy.roof with places := [⟨1, true⟩], next := 1, visit := some ⟨1, 1, true⟩ } }

/-- Unit 1 LOST and past its fallback time, its running stage in the lost-on set. -/
def lostUnit : BoundUnit :=
  { unit1 with
    live := { unit1.live with link := .lost, lastGood := some (100#32 - 120#32) }
    lostOn := unit1.onSet, misses := 4 }

theorem test_witness_MissesLoseAUnitAndFallBack :
    ((visiting unit1).roof.visit = some ⟨1, 1, true⟩ ∧ judgeReply 1 [] = none) ∧
      (unit1.live.link = .online ∧ ({ unit1 with misses := 3 } : BoundUnit).misses = 3 ∧ unit1.fallbackTaken = false ∧
        ∀ good, unit1.live.lastGood = some good → (busy.uptime - good).toNat < unit1.copy.fallbackTime) ∧
      (lostUnit.live.link = .lost ∧ lostUnit.fallbackTaken = false ∧ lostUnit.live.lastGood = some (100#32 - 120#32) ∧
        lostUnit.copy.fallbackTime ≤ (busy.uptime - (100#32 - 120#32)).toNat) ∧
      unit1.live.link ≠ .lost :=
  ⟨by decide +kernel, ⟨by decide, by decide, by decide, fun good h => by cases h; decide +kernel⟩, by decide +kernel,
    by decide⟩

/-- A reply of unit 1 with readings of 25.0, absent and 15.0 °C. -/
def replyOf (running trips flags : Byte) : BoardReply :=
  { running, trips, flags, space := some 250, discharge := none, outdoor := some 150 }

/-- R159: no reply, a reply cut short, one of another kind and one with a wrong CRC are misses. -/
theorem test_bad_replies :
    [[], (replyFrame (replyOf 0 0 0) 1).take 13, 0xA5#8 :: 1#8 :: 0x51#8 :: List.replicate 11 0#8,
      (replyFrame (replyOf 0 0 0) 1).take 13 ++ [0#8]].map (fun bytes => (judgeReply 1 bytes).isNone) =
      [true, true, true, true] := by decide +kernel

theorem test_witness_GoodRepliesSetReadingsAndTrips :
    (0xA5#8 : Byte) ∉ [0#8, 1#8] ∧ (visiting unit1).host.notices.length ≤ 19 ∧
      (visiting unit1).roof.visit = some ⟨1, 1, true⟩ ∧
      (visiting unit1).unit 1 = some unit1 ∧
      ([StageName.c1, .c2, .c3, .c4, .h1, .h2].filter fun x => isHeat x == isHeat .c2 && (unit1.stages.get x).any fun r =>
        decide (r.state = .proving) || decide (r.state = .run) ||
          (decide (r.state = .hold) && decide (r.pendingCause = some .satisfied))) = [.c2] ∧
      (unit1.stages.get .c2).any (fun r => r.state.isOn) = true ∧
      ∀ x : Int, (replyOf 2 2 0x10).space = some x ∨ (replyOf 2 2 0x10).discharge = some x ∨
        (replyOf 2 2 0x10).outdoor = some x → -32767 ≤ x ∧ x ≤ 32767 := by
  refine ⟨by decide, by decide, rfl, rfl, by decide, by decide, fun x h => ?_⟩
  simp [replyOf] at h
  omega

/-- R164: the two parts of a reply with COIL_LOW, FAN_FAIL and the trip bit of C2. -/
theorem test_parts_of_a_reply :
    let b := (unit1.found 100#32).takeReply (replyOf 0 2 0x11)
    b.stageEvents = [.trip .c2, .fan .c2] ∧ b.softEvents = [.soft false] := by decide +kernel

/-- R132, R134: a trip bit stops its stage, and FAN_FAIL holds the fan at 0. -/
theorem test_good_reply_with_a_trip :
    (match exec (.visitEnd (replyFrame (replyOf 2 2 0) 1)) (visiting unit1) with
      | .next t => (t.unit 1).map fun b => ((b.stages.get .c2).map StageRec.state, b.fanHold, b.live.link)
      | _ => none) = some (some .lockout, false, .online) := by decide +kernel

theorem test_witness_GoodRepliesProveStagesAndLimitThem :
    (replyOf 2 0 0).trips = 0#8 ∧ (replyOf 2 0 0).flags.getLsbD 0 = false ∧ (replyOf 2 0 1).flags.getLsbD 0 = true ∧
      (replyOf 2 0 1).flags.getLsbD 2 = false ∧ (replyOf 2 0 1).flags.getLsbD 3 = false ∧
      (replyOf 2 0 1).flags.getLsbD 4 = false ∧
      (allStages.all fun st => (unit1.stages.get st).all fun r => r.state ≠ .proving) = true ∧
      ([StageName.c1, .c2, .c3, .c4].filter fun st => (unit1.stages.get st).any fun r =>
        decide (r.state = .proving) || decide (r.state = .run) ||
          (decide (r.state = .hold) && decide (r.pendingCause = some .satisfied))) = [.c2] ∧
      unit1.copy.softCount = 1 ∧ unit1.limit.holdOff = .stopped := by decide

/-- R6: a PROVING stage that the running set reports goes to RUN; R129: a soft flag stops the running stage. -/
theorem test_proof_and_soft_limit :
    (match exec (.visitEnd (replyFrame (replyOf 2 0 0) 1))
        (visiting { unit1 with stages := unit1.stages.set .c2 (some (stageAs .proving (.running 9) (.running 9) none)) }) with
      | .next t => ((t.unit 1).bind fun b => b.stages.get .c2).map fun r => (r.state, r.proving)
      | _ => none) = some (.run, .stopped) ∧
      (match exec (.visitEnd (replyFrame (replyOf 2 0 1) 1)) (visiting unit1) with
        | .next t => (t.unit 1).map fun b => ((b.stages.get .c2).map StageRec.state, b.limit.holdOff)
        | _ => none) = some (some .rest, .running 120) := by decide +kernel

/-- Unit 1 as a modulating unit of two heat stages in RUN, its valve at a position, as its DAT_HIGH is reported. -/
def heating (position : Nat) : BoundUnit :=
  let d := { unit1.copy with kind := .modulatingGas, coolCount := 0, heatCount := 2 }
  { unit1 with
    copy := d
    stages := ((Six.ofFn fun _ => none).set .h1 (some (stageAs .run .stopped .stopped none))).set .h2
      (some (stageAs .run .stopped .stopped none))
    gas := { position, target := 1000, profile := 0 } }

/-- R131, R123: above low fire DAT_HIGH backs the gas off; at low fire it stops H2. -/
theorem test_heating_soft_limit :
    ([301, 300].map fun position =>
      match exec (.visitEnd (replyFrame (replyOf 0 0 4) 1)) (visiting (heating position)) with
      | .next t => (t.unit 1).map fun b => (b.gasReduction, b.isOn .h2, b.gas.target)
      | _ => none) = [some (100, true, 1000), some (0, false, 300)] := by decide +kernel

/-! The laws hold at the state at work, and a step from it answers a next state. -/

theorem busy_zones (z : Nat) : busy.zone z = if z = 1 then some zone1 else none := by
  by_cases h : z = 1 <;> simp [State.zone, busy, Table.find, h, eq_comm]

theorem busy_steps : ∃ t, step busy = .next t := ⟨_, rfl⟩

theorem test_witness_EveryStepKeepsTablesAndNoticesInForm :
    TableLaw busy ∧ NoticeLaw busy ∧ ∃ t, step busy = .next t :=
  ⟨⟨by decide, by decide, by decide, by decide, by decide, by decide, by decide, by decide, by decide⟩,
    ⟨by decide, by decide, by decide⟩, busy_steps⟩

theorem test_witness_EveryStepKeepsTheMeterInItsRanges : MeterLaw busy ∧ ∃ t, step busy = .next t :=
  ⟨⟨by decide, by unfold IntervalLength; decide, fun n h => by simp [busy, State.reset] at h,
    by unfold IntervalLength; decide, by decide, by decide, by decide⟩, busy_steps⟩

theorem test_witness_EveryStepKeepsTheQueueAndTheStagesInAgreement : QueueLaw busy ∧ ∃ t, step busy = .next t :=
  ⟨busy_queueLaw, busy_steps⟩

theorem test_witness_EveryStepKeepsTheFanAtItsFloor : FanLaw busy ∧ ∃ t, step busy = .next t := by
  refine ⟨⟨by decide, ?_, ?_, ?_, by decide, by decide⟩, busy_steps⟩ <;>
    (intro u b h; rw [busy_units] at h; split at h <;> simp at h; subst h; decide)

theorem test_witness_EveryStepKeepsBindingsAndUnitListsInAgreement : BindingLaw busy ∧ ∃ t, step busy = .next t := by
  refine ⟨⟨by decide, by decide, by decide, fun u b h => ?_, fun u z => ?_, fun z r h => ?_, by decide, by decide,
    fun u v b c hu hv _ => ?_⟩, busy_steps⟩
  · rw [busy_units] at h
    split at h <;> simp at h
    subst h
    rename_i hu
    subst hu
    decide
  · have hz : zone1.units = [1] := rfl
    have hu : unit1.zone = 1 := rfl
    constructor
    · rintro ⟨_, b, h, hb⟩
      rw [busy_units] at h
      split at h <;> simp at h
      subst h
      rename_i he
      exact ⟨zone1, by rw [busy_zones, if_pos (by omega)], by simp [hz, he]⟩
    · rintro ⟨r, h, hm⟩
      rw [busy_zones] at h
      split at h <;> simp at h
      subst h
      rw [hz] at hm
      exact ⟨by omega, unit1, by rw [busy_units, if_pos (by simpa using hm)], by omega⟩
  · rw [busy_zones] at h
    split at h <;> simp at h
    subst h
    decide
  · rw [busy_units] at hu hv
    split at hu <;> simp at hu
    split at hv <;> simp at hv
    omega

end Sys2Proof.Machine.Tests
end

section
/-! PROOF. The definitions that the proof of O55 is stated in. They stand before all lemmas, since Lean takes a structure only
once everything before it has been checked: the lemmas then add no threads to those of the tests that wait for the kernel. -/

namespace Sys2Proof.Machine

/-- R6, R7: what the proof of a reply does to the record of a stage that the running set holds or leaves out. -/
def StageRec.judgeProof (d : Descriptor) (now : Word) (running : Bool) (r : StageRec) : StageRec :=
  if running then r.prove else if r.state = .proving ∧ r.overdue = true then r.takeStop d now .noProof else r

/-- R6, R7: a unit after the proof of some stages has been taken: their records are judged, and no others. -/
structure ProofsTaken (now : Word) (events : List ReplyEvent) (b c : BoundUnit) : Prop where
  live : c.live = b.live
  limit : c.limit = b.limit
  copy : c.copy = b.copy
  stages : ∀ st, c.stages.get st =
    if .proof st ∈ events then (b.stages.get st).map (StageRec.judgeProof b.copy now (b.live.running.get st))
    else b.stages.get st

end Sys2Proof.Machine
end

section
/-! PROOF. What the proofs of the stage controller share: tables, timers, one unit, one zone and one stage record written. -/

namespace Sys2Proof.Machine

/-! ### Writing back what is there -/

theorem lt_and_put_of_find {α : Type} {i k : Nat} {v : α} {t : Table α} (form : Table.above i t = true)
    (found : Table.find k t = some v) : i < k ∧ Table.put k v t = t := by
  induction t generalizing i with
  | nil => simp [Table.find] at found
  | cons p t ih =>
    obtain ⟨j, a⟩ := p
    simp only [Table.above, Bool.and_eq_true, decide_eq_true_eq] at form
    obtain ⟨first, rest⟩ := form
    by_cases h : j = k
    · subst h
      simp_all [Table.find, Table.put]
    · obtain ⟨below, same⟩ := ih rest (by simpa [Table.find, h] using found)
      exact ⟨by omega, by simp [Table.put, h, same, Nat.not_lt.mpr (Nat.le_of_lt below)]⟩

/-- In a table of the right form a record written back changes nothing. -/
theorem put_find_self {α : Type} {k : Nat} {v : α} {t : Table α} (form : Table.wf t = true)
    (found : Table.find k t = some v) : Table.put k v t = t := (lt_and_put_of_find form found).2

theorem Six_set_get_self {α : Type} {x : Six α} {st : StageName} {a : α} (h : x.get st = a) : x.set st a = x := by
  subst h
  exact Six_ext_get fun st' => by
    rw [Six_get_set]
    split <;> simp_all

theorem Six_set_set {α : Type} (x : Six α) (st : StageName) (a c : α) : (x.set st a).set st c = x.set st c :=
  Six_ext_get fun st' => by
    simp only [Six_get_set]
    split <;> rfl

/-- A change that leaves a bound unit as it is leaves the state as it is. -/
theorem onUnit_self {u : Nat} {f : BoundUnit → BoundUnit} {b : BoundUnit} {s : State} (form : Table.wf s.units = true)
    (hb : s.unit u = some b) (same : f b = b) : s.onUnit u f = s := by
  simp only [State.onUnit, hb, same, State.putUnit, put_find_self form hb]
  rfl

/-- A change that leaves a defined zone as it is leaves the state as it is. -/
theorem onZone_self {z : Nat} {f : Zone → Zone} {r : Zone} {s : State} (form : Table.wf s.zones = true)
    (hr : s.zone z = some r) (same : f r = r) : s.onZone z f = s := by
  simp only [State.onZone, hr, same, State.putZone, put_find_self form hr]
  rfl

/-! ### One unit, one zone -/

theorem unit_putUnit_same (u : Nat) (b : BoundUnit) (s : State) : (s.putUnit u b).unit u = some b :=
  find_put_same u b s.units

theorem onlyUnit_putUnit (u : Nat) (b : BoundUnit) (s : State) : OnlyUnit u b s (s.putUnit u b) :=
  ⟨rfl, fun v => unit_putUnit u v b s⟩

theorem onlyUnit_onUnit {u : Nat} {f : BoundUnit → BoundUnit} {b c : BoundUnit} {s : State} (hb : s.unit u = some b)
    (hc : f b = c) : OnlyUnit u c s (s.onUnit u f) :=
  ⟨onUnit_frame u f s, fun v => by rw [unit_onUnit, hb, Option.map_some, hc]⟩

theorem onlyZone_onZone {z : Nat} {f : Zone → Zone} {r q : Zone} {s : State} (hr : s.zone z = some r) (hq : f r = q) :
    OnlyZone z q s (s.onZone z f) :=
  ⟨onZone_frame z f s, fun y => by rw [zone_onZone, hr, Option.map_some, hq]⟩

/-! ### Timers (R2) -/

/-- A timer is due exactly when it runs with nothing left. -/
theorem isDue_iff {t : Timer} : t.isDue = true ↔ t = .running 0 := by
  rcases t with _ | _ | n <;> simp [Timer.isDue]

/-- A timer runs unless it is stopped. -/
theorem isRunning_iff {t : Timer} : t.isRunning = true ↔ t ≠ .stopped := by cases t <;> simp [Timer.isRunning]

/-! ### One stage record -/

theorem onStage_of_get {b : BoundUnit} {st : StageName} {r : StageRec} (hr : b.stages.get st = some r)
    (f : StageRec → StageRec) : b.onStage st f = { b with stages := b.stages.set st (some (f r)) } := by
  simp [BoundUnit.onStage, hr]

theorem onStage_self {b : BoundUnit} {st : StageName} {r : StageRec} {f : StageRec → StageRec}
    (hr : b.stages.get st = some r) (same : f r = r) : b.onStage st f = b := by
  rw [onStage_of_get hr, same, Six_set_get_self hr]

/-! ### A request that passes the common checks (R168 to R170) -/

theorem exec_request_served {s t : State} {r : Request} {a : Answer} (idle : s.host.phase = .idle)
    (check : s.commonCheck r = none) (served : serve r s = (t, a)) (tag : Byte) :
    exec (requestCommand tag r) s = .next (t.answering r.code tag a.result a.payload) := by
  rw [exec_requestCommand_idle idle, takeRequest_served check, served]

/-- R140: the unit indices are 1 to 24. -/
theorem unitNumber_iff {u : Nat} : unitNumber u = true ↔ 1 ≤ u ∧ u ≤ 24 := by simp [unitNumber]

end Sys2Proof.Machine
end

section
/-! PROOF. O2 and O44: a second of part time, and the expiries that change one record. -/

namespace Sys2Proof.Machine

/-- Settles O2: every timer of a unit or zone is read through the table it stands in. -/
theorem emptyQueueStepPassesOneSecond : Obligations.EmptyQueueStepPassesOneSecond := by
  unfold Obligations.EmptyQueueStepPassesOneSecond
  intro s empty
  have run : step s = .next (secondPasses s) := by simp [step, empty]
  have units (u : Nat) : (secondPasses s).unit u = (s.unit u).map BoundUnit.tick := find_update _ u s.units
  have zones (z : Nat) : (secondPasses s).zone z = (s.zone z).map Zone.tick := find_update _ z s.zones
  exact ⟨secondPasses s, run, rfl, empty, rfl, rfl, rfl, rfl, rfl, rfl, rfl, rfl, rfl, units, zones, rfl, fun _ => rfl⟩

/-! ### What each expiry does to its record, due and not due -/

/-- R16: a due end of min-off takes a REST stage to OFF. -/
theorem minOffExpiry_due {u : Nat} {st : StageName} {b : BoundUnit} {r : StageRec} {s : State} (hb : s.unit u = some b)
    (hr : b.stages.get st = some r) (due : r.minOff = .running 0) (rest : r.state = .rest) :
    ∃ t, exec (.minOffExpiry u st) s = .next t ∧
      OnlyUnit u { b with stages := b.stages.set st (some { r with state := .off, minOff := .stopped }) } s t :=
  ⟨_, rfl, onlyUnit_onUnit hb (by rw [onStage_of_get hr, if_pos (isDue_iff.mpr due), if_pos rest])⟩

theorem minOffExpiry_early {u : Nat} {st : StageName} {b : BoundUnit} {r : StageRec} {s : State}
    (form : Table.wf s.units = true) (hb : s.unit u = some b) (hr : b.stages.get st = some r)
    (early : r.minOff ≠ .running 0) : exec (.minOffExpiry u st) s = .next s :=
  congrArg Host.Outcome.next (onUnit_self form hb (onStage_self hr (if_neg (mt isDue_iff.mp early))))

/-- R15: 1,800 s into a run the trip count is cleared. -/
theorem tripCountClear_due {u : Nat} {st : StageName} {b : BoundUnit} {r : StageRec} {start : Word} {s : State}
    (hb : s.unit u = some b) (hr : b.stages.get st = some r) (on : r.state.isOn = true) (started : r.lastStart = some start)
    (due : 1800 ≤ (s.uptime - start).toNat) :
    ∃ t, exec (.tripCountClear u st) s = .next t ∧
      OnlyUnit u { b with stages := b.stages.set st (some { r with trips := 0 }) } s t := by
  refine ⟨_, rfl, onlyUnit_onUnit hb ?_⟩
  have passed : (r.state.isOn && decide (Config.tripClearTime ≤ since s.uptime start)) = true := by
    rw [on, Bool.true_and]
    exact decide_eq_true due
  simp only [onStage_of_get hr, started, if_pos passed]

theorem tripCountClear_early {u : Nat} {st : StageName} {b : BoundUnit} {r : StageRec} {s : State}
    (form : Table.wf s.units = true) (hb : s.unit u = some b) (hr : b.stages.get st = some r)
    (early : r.state.isOn = false ∨ ∀ start, r.lastStart = some start → (s.uptime - start).toNat < 1800) :
    exec (.tripCountClear u st) s = .next s := by
  refine congrArg Host.Outcome.next (onUnit_self form hb (onStage_self hr ?_))
  cases started : r.lastStart with
  | none => rfl
  | some start =>
    refine if_neg fun due => ?_
    obtain ⟨on, passed⟩ := Bool.and_eq_true_iff.mp due
    rcases early with off | young
    · exact Bool.false_ne_true (off.symm.trans on)
    · exact Nat.not_le.mpr (young start started) (of_decide_eq_true passed)

/-- Settles O44: each expiry is one change of one record, which writes the record back while it is not due. -/
theorem dueExpiriesChangeTheirOneRecord : Obligations.DueExpiriesChangeTheirOneRecord := by
  unfold Obligations.DueExpiriesChangeTheirOneRecord
  intro u z st s
  refine ⟨fun b r hb hr => ⟨minOffExpiry_due hb hr, fun start => tripCountClear_due hb hr⟩, ?_, ?_, ?_, ?_⟩
  · exact fun r hr due => ⟨_, rfl, onlyZone_onZone hr (if_pos (isDue_iff.mpr due))⟩
  · exact fun b hb due => ⟨_, rfl, onlyUnit_onUnit hb (if_pos (isDue_iff.mpr due))⟩
  · exact fun b hb due => ⟨_, rfl, onlyUnit_onUnit hb (if_pos (isDue_iff.mpr due))⟩
  · intro units zones
    refine ⟨fun b r hb hr => ⟨minOffExpiry_early units hb hr, tripCountClear_early units hb hr⟩, ?_, fun b hb => ⟨?_, ?_⟩⟩
    · exact fun r hr early => congrArg Host.Outcome.next (onZone_self zones hr (if_neg (mt isDue_iff.mp early)))
    · exact fun early => congrArg Host.Outcome.next (onUnit_self units hb (if_neg (mt isDue_iff.mp early)))
    · exact fun early => congrArg Host.Outcome.next (onUnit_self units hb (if_neg (mt isDue_iff.mp early)))

end Sys2Proof.Machine
end

section
/-! PROOF. O34 and O18: the requests on stages and on the grant queue. -/

namespace Sys2Proof.Machine

/-! ### STAGE.UNLOCK (R18) -/

/-- R152, R154, R170: in NORMAL with the keyswitch on no common check refuses STAGE.UNLOCK, at any level. -/
theorem commonCheck_stageUnlock {s : State} (normal : s.host.run = .normal) (service : s.host.service = true)
    (unit stage : Byte) : s.commonCheck (.stageUnlock unit stage) = none := by
  simp [State.commonCheck, requestMalformed, requestTableChanging, requestLocked, normal, service]

/-- 12.2: a code outside 1 to 6 is that of no stage. -/
theorem stageOfCode_eq_none {n : Nat} (h : ¬(1 ≤ n ∧ n ≤ 6)) : stageOfCode n = none := by
  simp only [stageOfCode, List.find?_eq_none, beq_iff_eq]
  intro st _ same
  cases st <;> simp [stageCode] at same <;> omega

theorem serveStageUnlock_index {unit stage : Byte}
    (h : ¬(1 ≤ unit.toNat ∧ unit.toNat ≤ 24 ∧ 1 ≤ stage.toNat ∧ stage.toNat ≤ 6)) (s : State) :
    serveStageUnlock unit stage s = refuse s .index := by
  unfold serveStageUnlock
  split
  · rename_i st hu hst
    rw [unitNumber_iff] at hu
    rw [stageOfCode_eq_none fun range => h ⟨hu.1, hu.2, range⟩] at hst
    cases hst
  · rfl

theorem serveStageUnlock_absent {unit stage : Byte} {st : StageName} {s : State} (hst : stage.toNat = stageCode st)
    (hu : unitNumber unit.toNat = true) (absent : ∀ b, s.unit unit.toNat = some b → b.stages.get st = none) :
    serveStageUnlock unit stage s = refuse s .absent := by
  cases hb : s.unit unit.toNat with
  | none => simp [serveStageUnlock, hu, hst, stageOfCode_stageCode, hb]
  | some b => simp [serveStageUnlock, hu, hst, stageOfCode_stageCode, hb, absent b hb]

/-- R18: a stage that the unit has is released from LOCKOUT, and refused STATE out of it. -/
theorem serveStageUnlock_record {unit stage : Byte} {st : StageName} {b : BoundUnit} {r : StageRec} {s : State}
    (hst : stage.toNat = stageCode st) (hu : unitNumber unit.toNat = true) (hb : s.unit unit.toNat = some b)
    (hr : b.stages.get st = some r) :
    serveStageUnlock unit stage s =
      if r.state = .lockout then
        accept (s.putUnit unit.toNat { b with stages := b.stages.set st (some (r.unlock b.copy)) }) []
      else refuse s .state := by
  simp [serveStageUnlock, hu, hst, stageOfCode_stageCode, hb, hr]

/-- Settles O34, refusal by refusal in the order of the checks. -/
theorem stageUnlockReleasesALockedOutStage : Obligations.StageUnlockReleasesALockedOutStage := by
  unfold Obligations.StageUnlockReleasesALockedOutStage
  intro tag unit stage s idle normal service
  have answered {t : State} {a : Answer} (served : serveStageUnlock unit stage s = (t, a)) :
      exec (.stageUnlock tag unit stage) s = .next (t.answering 0x19#8 tag a.result a.payload) :=
    exec_request_served (r := .stageUnlock unit stage) idle (commonCheck_stageUnlock normal service unit stage) served tag
  refine ⟨fun bad => answered (serveStageUnlock_index bad s), fun st hst low high => ⟨fun absent => ?_, ?_⟩⟩
  · exact answered (serveStageUnlock_absent hst (unitNumber_iff.mpr ⟨low, high⟩) absent)
  · intro b r hb hr
    have served := serveStageUnlock_record hst (unitNumber_iff.mpr ⟨low, high⟩) hb hr
    exact ⟨fun other => answered (served.trans (if_neg other)), fun lockout => answered (served.trans (if_pos lockout))⟩

/-! ### STAGE.GET (R20) -/

/-- R170: no common check refuses STAGE.GET. -/
theorem commonCheck_stageGet (unit : Byte) (s : State) : s.commonCheck (.stageGet unit) = none := by
  simp [State.commonCheck, requestMalformed, requestServiceOnly, requestHalted, requestTableChanging, requestLocked]

/-- R20: the number of records a unit has. -/
theorem records_length (b : BoundUnit) :
    b.records.length = allStages.countP fun st => (b.stages.get st).isSome := by
  simp [BoundUnit.records, List.length_filterMap_eq_countP]

/-- R20: what is sent for each record is sent stage by stage, nothing for a stage the unit does not have. -/
theorem records_flatMap (f : StageName × StageRec → List Byte) (b : BoundUnit) :
    b.records.flatMap f =
      allStages.flatMap fun st =>
        match b.stages.get st with
        | none => []
        | some r => f (st, r) := by
  rw [BoundUnit.records, List.filterMap_eq_flatMap_toList, List.flatMap_assoc]
  refine congrArg (List.flatMap · allStages) (funext fun st => ?_)
  cases b.stages.get st <;> simp

theorem serveStageGet_index {unit : Byte} (h : ¬(1 ≤ unit.toNat ∧ unit.toNat ≤ 24)) (s : State) :
    serveStageGet unit s = refuse s .index := by
  rw [serveStageGet, if_pos (Bool.eq_false_iff.mpr (mt unitNumber_iff.mp h))]

theorem serveStageGet_absent {unit : Byte} {s : State} (hu : unitNumber unit.toNat = true)
    (absent : s.unit unit.toNat = none) : serveStageGet unit s = refuse s .absent := by
  simp [serveStageGet, hu, absent]

theorem serveStageGet_bound {unit : Byte} {b : BoundUnit} {s : State} (hu : unitNumber unit.toNat = true)
    (hb : s.unit unit.toNat = some b) :
    serveStageGet unit s = accept s (enc8 b.zone ++ encList (fun p => encStageReport p.1 p.2) b.records) := by
  simp [serveStageGet, hu, hb]

/-! ### QUEUE.GET (R40) -/

/-- R170: no common check refuses QUEUE.GET. -/
theorem commonCheck_queueGet (first : Byte) (s : State) : s.commonCheck (.queueGet first) = none := by
  simp [State.commonCheck, requestMalformed, requestServiceOnly, requestHalted, requestTableChanging, requestLocked]

/-- R29: positions dropped from the front are counted on. -/
theorem numbered_drop (n k : Nat) (l : List Entry) : (numbered n l).drop k = numbered (n + k) (l.drop k) := by
  induction l generalizing n k with
  | nil => simp [numbered]
  | cons e l ih =>
    cases k with
    | zero => rfl
    | succ k =>
      rw [numbered, List.drop_succ_cons, List.drop_succ_cons, ih]
      congr 1
      omega

theorem numbered_take (n k : Nat) (l : List Entry) : (numbered n l).take k = numbered n (l.take k) := by
  induction l generalizing n k with
  | nil => simp [numbered]
  | cons e l ih => cases k <;> simp [numbered, ih]

/-- R29: the positions from `n` on are `n` and the place in the list. -/
theorem numbered_add (n k : Nat) (l : List Entry) :
    numbered (n + k) l = (l.zipIdx k).map fun p => (n + p.2, p.1) := by
  induction l generalizing k with
  | nil => rfl
  | cons e l ih => rw [numbered, List.zipIdx_cons, List.map_cons, Nat.add_assoc, ih]

theorem numbered_eq_zipIdx (n : Nat) (l : List Entry) : numbered n l = l.zipIdx.map fun p => (n + p.2, p.1) :=
  numbered_add n 0 l

/-- R40: the part of the queue that a QUEUE.GET from a position on sends. -/
theorem numbered_page {first : Nat} (low : 1 ≤ first) (l : List Entry) :
    ((numbered 1 l).drop (first - 1)).take 16 = numbered first ((l.drop (first - 1)).take 16) := by
  rw [numbered_drop, numbered_take, show 1 + (first - 1) = first by omega]

theorem serveQueueGet_index {first : Byte} (h : ¬(1 ≤ first.toNat ∧ first.toNat ≤ 32)) (s : State) :
    serveQueueGet first s = refuse s .index := by
  rw [serveQueueGet, if_neg (by simpa [within] using h)]

theorem serveQueueGet_page {first : Byte} (low : 1 ≤ first.toNat) (high : first.toNat ≤ 32) (s : State) :
    serveQueueGet first s =
      accept s
        (enc8 s.arbiter.queue.length ++ enc16 s.arbiter.stagger.remaining ++ encOption encAttempt s.arbiter.attempt ++
          encList encEntry (numbered first.toNat ((s.arbiter.queue.drop (first.toNat - 1)).take 16))) := by
  rw [serveQueueGet, if_pos (by simp [within, low, high]), numbered_page low]

/-- Settles O18: both replies read their records in order, and a refusal is met at the first check that fails. -/
theorem stageGetAndQueueGetReportTheirRecords : Obligations.StageGetAndQueueGetReportTheirRecords := by
  unfold Obligations.StageGetAndQueueGetReportTheirRecords
  refine ⟨fun tag unit s idle => ?_, fun tag first s idle => ?_⟩
  · have answered {t : State} {a : Answer} (served : serveStageGet unit s = (t, a)) :
        exec (.stageGet tag unit) s = .next (t.answering 0x18#8 tag a.result a.payload) :=
      exec_request_served (r := .stageGet unit) idle (commonCheck_stageGet unit s) served tag
    refine ⟨fun bad => answered (serveStageGet_index bad s),
      fun low high absent => answered (serveStageGet_absent (unitNumber_iff.mpr ⟨low, high⟩) absent),
      fun b low high hb => answered (a := { result := .accepted, payload := _ }) ?_⟩
    rw [serveStageGet_bound (unitNumber_iff.mpr ⟨low, high⟩) hb]
    simp only [accept, encList, records_length, records_flatMap, ← List.append_assoc]
    rfl
  · have answered {t : State} {a : Answer} (served : serveQueueGet first s = (t, a)) :
        exec (.queueGet tag first) s = .next (t.answering 0x1A#8 tag a.result a.payload) :=
      exec_request_served (r := .queueGet first) idle (commonCheck_queueGet first s) served tag
    refine ⟨fun bad => answered (serveQueueGet_index bad s), fun low high => ⟨_, rfl, ?_⟩⟩
    refine answered (a := { result := .accepted, payload := _ }) ?_
    rw [serveQueueGet_page low high, encList, numbered_eq_zipIdx, List.flatMap_map, List.length_map, List.length_zipIdx]
    simp only [accept, ← List.append_assoc]
    cases s.arbiter.attempt <;> rfl

end Sys2Proof.Machine
end

section
/-! PROOF. O45: what a stage record written at a stop does to its unit, and the ends of min-on and of proving. -/

namespace Sys2Proof.Machine

/-! ### Which stages are on (R1) -/

/-- Which stages are on is read from the stage records alone. -/
theorem isOn_congr {b c : BoundUnit} (h : c.stages = b.stages) : c.isOn = b.isOn := by
  funext st
  simp only [BoundUnit.isOn, BoundUnit.stageIs, h]

theorem anyOn_congr {b c : BoundUnit} (h : c.isOn = b.isOn) : c.anyOn = b.anyOn := by
  simp only [BoundUnit.anyOn, h]

theorem isOn_of_get {b : BoundUnit} {st : StageName} {r : StageRec} (hr : b.stages.get st = some r) :
    b.isOn st = r.state.isOn := by
  simp [BoundUnit.isOn, BoundUnit.stageIs, hr]

/-- Which stages are on once one record has been written. -/
theorem isOn_of_set {b c : BoundUnit} {st : StageName} {r : StageRec} (h : c.stages = b.stages.set st (some r))
    (x : StageName) : c.isOn x = if x = st then r.state.isOn else b.isOn x := by
  by_cases hx : x = st <;> simp [BoundUnit.isOn, BoundUnit.stageIs, h, Six_get_set, hx]

/-- A record written in the same state moves no stage into or out of the on set. -/
theorem isOn_of_set_same {b c : BoundUnit} {st : StageName} {r q : StageRec} (hr : b.stages.get st = some r)
    (h : c.stages = b.stages.set st (some q)) (same : q.state.isOn = r.state.isOn) : c.isOn = b.isOn := by
  funext x
  rw [isOn_of_set h]
  split
  · subst x
    rw [same, isOn_of_get hr]
  · rfl

/-! ### The gas channel (R87, R122) -/

/-- R114, R122: what the taking of a gas target leaves. -/
theorem setGasTarget_spec (g : Nat) (b : BoundUnit) :
    (b.setGasTarget g).gas.profile = b.gas.profile ∧ (b.setGasTarget g).gas.target = g ∧
      (g = 0 → b.gas.target ≠ 0 → (b.setGasTarget g).gas.position = 0 ∧ (b.setGasTarget g).gasReduction = 0) ∧
      (g ≠ 0 → (b.setGasTarget g).gas.position = b.gas.position ∧ (b.setGasTarget g).gasReduction = b.gasReduction) := by
  unfold BoundUnit.setGasTarget
  split
  · rename_i same
    exact ⟨rfl, same.symm, fun zero flowing => absurd (same ▸ zero) flowing, fun _ => ⟨rfl, rfl⟩⟩
  · split
    · rename_i zero
      exact ⟨rfl, zero.symm, fun _ _ => ⟨rfl, rfl⟩, fun nonzero => absurd zero nonzero⟩
    · rename_i nonzero
      exact ⟨rfl, rfl, fun zero => absurd zero nonzero, fun _ => ⟨rfl, rfl⟩⟩

/-- R87: a derivation of the gas target is what `GasFollows` says once a heat stage has moved. -/
theorem rederiveGas_follows (b : BoundUnit) : GasFollows True b.gasReduction b b.rederiveGas := by
  have stages : b.rederiveGas.isOn = b.isOn := isOn_congr (by rw [rederiveGas_frame])
  unfold GasFollows
  rw [stages]
  by_cases called : b.copy.kind = .modulatingGas ∧ b.zone ≠ 0
  · have taken : b.rederiveGas = b.setGasTarget b.gasCall := if_pos called
    obtain ⟨profile, target, closes, stays⟩ := setGasTarget_spec b.gasCall b
    rw [taken, target]
    exact ⟨profile, fun _ => ⟨rfl, closes, stays⟩, fun no => absurd ⟨trivial, called⟩ no⟩
  · have kept : b.rederiveGas = b := if_neg called
    rw [kept]
    exact ⟨rfl, fun yes => absurd yes.2 called, fun _ => ⟨rfl, rfl⟩⟩

/-- A gas channel that stays where no heat stage has moved follows the rules. -/
theorem gasFollows_of_same {heat : Prop} {reduction : Nat} {b c : BoundUnit} (still : ¬heat) (gas : c.gas = b.gas)
    (kept : c.gasReduction = reduction) : GasFollows heat reduction b c :=
  ⟨by rw [gas], fun moved => absurd moved.1 still, fun _ => ⟨gas, kept⟩⟩

/-- What `GasFollows` says rests on the on set, the gas channel and the reduction of the unit after the event. -/
theorem GasFollows.congr {heat heat' : Prop} {reduction : Nat} {b c c' : BoundUnit} (h : GasFollows heat reduction b c)
    (moved : heat' ↔ heat) (on : c'.isOn = c.isOn) (gas : c'.gas = c.gas) (kept : c'.gasReduction = c.gasReduction) :
    GasFollows heat' reduction b c' := by
  unfold GasFollows at h ⊢
  rw [on, gas, kept, moved]
  exact h

/-! ### A stage record written at a stop (R87, R119) -/

/-- The unit with one record written, before anything follows in it. -/
def BoundUnit.withStage (st : StageName) (r : StageRec) (b : BoundUnit) : BoundUnit :=
  { b with stages := b.stages.set st (some r) }

/-- The unit with one record written and its gas target derived again where a heat stage has moved (R87). -/
def BoundUnit.withStageGas (st : StageName) (r : StageRec) (b : BoundUnit) : BoundUnit :=
  if isHeat st && (b.isOn st != (b.withStage st r).isOn st) then (b.withStage st r).rederiveGas else b.withStage st r

theorem putStage_eq (run : RunState) (cause : StopCause) (st : StageName) (r : StageRec) (b : BoundUnit) :
    b.putStage run cause st r =
      if b.anyOn && !(b.withStage st r).anyOn then (b.withStageGas st r).startPurge run cause
      else b.withStageGas st r := rfl

theorem withStageGas_frame (st : StageName) (r : StageRec) (b : BoundUnit) :
    b.withStageGas st r =
      { b.withStage st r with gas := (b.withStageGas st r).gas, gasReduction := (b.withStageGas st r).gasReduction } := by
  unfold BoundUnit.withStageGas
  split
  · exact rederiveGas_frame _
  · rfl

/-- The purge timer is no matter of the gas channel. -/
theorem putStage_gas (run : RunState) (cause : StopCause) (st : StageName) (r : StageRec) (b : BoundUnit) :
    (b.putStage run cause st r).gas = (b.withStageGas st r).gas ∧
      (b.putStage run cause st r).gasReduction = (b.withStageGas st r).gasReduction := by
  rw [putStage_eq]
  split
  · rw [startPurge_frame]
    exact ⟨rfl, rfl⟩
  · exact ⟨rfl, rfl⟩

theorem putStage_isOn (run : RunState) (cause : StopCause) (st : StageName) (r : StageRec) (b : BoundUnit) :
    (b.putStage run cause st r).isOn = (b.withStage st r).isOn := isOn_congr (putStage_stages run cause st r b)

/-- R87: one of the two heat stages has moved exactly when the stage written is one and has moved. -/
theorem heatMoved_withStage (st : StageName) (r : StageRec) (b : BoundUnit) :
    HeatMoved b (b.withStage st r) ↔ (isHeat st && (b.isOn st != (b.withStage st r).isOn st)) = true := by
  have on := isOn_of_set (c := b.withStage st r) rfl
  cases st <;> simp [HeatMoved, on, isHeat, eq_comm (a := b.isOn _)]

/-- R87, R122: the gas channel of a unit after one record has been written. -/
theorem putStage_gasFollows (run : RunState) (cause : StopCause) (st : StageName) (r : StageRec) (b : BoundUnit) :
    GasFollows (HeatMoved b (b.putStage run cause st r)) b.gasReduction b (b.putStage run cause st r) := by
  have moved : HeatMoved b (b.putStage run cause st r) ↔ HeatMoved b (b.withStage st r) := by
    simp only [HeatMoved, putStage_isOn]
  obtain ⟨gas, reduction⟩ := putStage_gas run cause st r b
  rw [moved]
  by_cases heat : HeatMoved b (b.withStage st r)
  · have derived : b.withStageGas st r = (b.withStage st r).rederiveGas := if_pos ((heatMoved_withStage st r b).mp heat)
    have on : (b.withStage st r).rederiveGas.isOn = (b.withStage st r).isOn := isOn_congr (by rw [rederiveGas_frame])
    rw [derived] at gas reduction
    exact (rederiveGas_follows (b.withStage st r)).congr (iff_true_intro heat)
      ((putStage_isOn run cause st r b).trans on.symm) gas reduction
  · have kept : b.withStageGas st r = b.withStage st r := if_neg (mt (heatMoved_withStage st r b).mpr heat)
    rw [kept] at gas reduction
    exact gasFollows_of_same heat gas reduction

theorem startPurge_purge (run : RunState) (cause : StopCause) (b : BoundUnit) :
    (b.startPurge run cause).purge =
      if run = .normal ∧ cause ≠ .shutdown ∧ 0 < b.copy.purgeTime then .running b.copy.purgeTime else b.purge := by
  unfold BoundUnit.startPurge
  split <;> rfl

/-- R119: the purge timer of a unit after one record has been written. -/
theorem putStage_purgeFollows (run : RunState) (cause : StopCause) (st : StageName) (r : StageRec) (b : BoundUnit) :
    PurgeFollows run cause b (b.putStage run cause st r) := by
  unfold PurgeFollows
  rw [anyOn_congr (putStage_isOn run cause st r b), putStage_eq, withStageGas_frame]
  cases b.anyOn <;> cases (b.withStage st r).anyOn <;> simp [BoundUnit.withStage, startPurge_purge]

/-- R119, R87, R122: what follows in a unit when one record has been written. -/
theorem putStage_stopFollows (run : RunState) (cause : StopCause) (st : StageName) (r : StageRec) (b : BoundUnit) :
    StopFollows run cause b (b.putStage run cause st r) :=
  ⟨by conv_lhs => rw [putStage_frame]
      rw [putStage_stages], putStage_purgeFollows run cause st r b, putStage_gasFollows run cause st r b⟩

/-- What follows a stop does not rest on the rest of the record of the stage that was on. -/
theorem StopFollows.of_withStage {run : RunState} {cause : StopCause} {b b' : BoundUnit} {st : StageName}
    {r q : StageRec} (h : StopFollows run cause (b.withStage st q) b') (hr : b.stages.get st = some r)
    (same : q.state.isOn = r.state.isOn) : StopFollows run cause b b' := by
  have on : (b.withStage st q).isOn = b.isOn := isOn_of_set_same hr rfl same
  obtain ⟨frame, purge, gas⟩ := h
  refine ⟨frame, ?_, gas.congr (by simp only [HeatMoved, on]) rfl rfl rfl⟩
  unfold PurgeFollows at purge ⊢
  rw [← anyOn_congr on]
  exact purge

/-! ### Trips and their notices (R14) -/

/-- R8: every cause that is a trip stops a stage at once. -/
theorem stopClass_of_isTrip {cause : StopCause} : cause.isTrip = true → cause.stopClass = .immediate := by
  cases cause <;> decide

theorem takeStop_tripped {cause : StopCause} {r : StageRec} (on : r.state.isOn = true) (trip : cause.isTrip = true)
    (d : Descriptor) (now : Word) : Tripped d now cause r (r.takeStop d now cause) := by
  have immediate : r.takeStop d now cause = r.immediateStop d now cause := by
    rw [StageRec.takeStop, stopClass_of_isTrip trip]
  rw [immediate]
  exact immediateStop_trip d now trip on

/-- R8, R14: a trip of a stage that is on changes its unit and raises one notice, and nothing else changes. -/
theorem takeStop_trip {u : Nat} {st : StageName} {cause : StopCause} {b : BoundUnit} {r : StageRec} {s : State}
    (hb : s.unit u = some b) (hr : b.stages.get st = some r) (on : r.state.isOn = true) (trip : cause.isTrip = true) :
    ∃ b' r', b'.stages = b.stages.set st (some r') ∧ Tripped b.copy s.uptime cause r r' ∧
      StopFollows s.host.run cause b b' ∧
      s.takeStop u st cause =
        (s.putUnit u b').setHost
          (noting s (if r'.state = .lockout then .stageLockout else .stageTrip) (some u) (some st)
            (if b.zone = 0 then none else some b.zone) (some (r'.trips : Int))) := by
  refine ⟨_, _, putStage_stages .., takeStop_tripped on trip b.copy s.uptime, putStage_stopFollows .., ?_⟩
  simp only [State.takeStop, hb, hr, on, trip, Bool.and_self, if_true, State.raiseTrip, raise_eq, noticeZone]
  rfl

/-! ### The ends of min-on and of proving (R11, R7) -/

/-- R11: a HOLD stage at the end of its min-on. -/
def StageRec.endHold (d : Descriptor) (now : Word) (cause : StopCause) (r : StageRec) : StageRec :=
  { (({ r with minOn := .stopped } : StageRec).recordStop now cause).toRest d with pendingCause := none }

theorem endHold_stopped (d : Descriptor) (now : Word) (cause : StopCause) (r : StageRec) :
    StoppedToRest d now cause r (r.endHold d now cause) := ⟨rfl, rfl, recordStop_recorded now cause { r with minOn := .stopped }⟩

theorem execMinOnExpiry_hold {u : Nat} {st : StageName} {cause : StopCause} {b : BoundUnit} {r : StageRec} {s : State}
    (hb : s.unit u = some b) (hr : b.stages.get st = some r) (due : r.minOn = .running 0) (hold : r.state = .hold)
    (pending : r.pendingCause = some cause) :
    exec (.minOnExpiry u st) s =
      .next (s.putUnit u (b.putStage s.host.run cause st (r.endHold b.copy s.uptime cause))) := by
  simp only [exec, execMinOnExpiry, hb, hr, due, hold, pending, Timer.isDue, if_true]
  rfl

theorem execMinOnExpiry_other {u : Nat} {st : StageName} {b : BoundUnit} {r : StageRec} {s : State}
    (hb : s.unit u = some b) (hr : b.stages.get st = some r) (due : r.minOn = .running 0) (other : r.state ≠ .hold) :
    exec (.minOnExpiry u st) s =
      .next (s.putUnit u { b with stages := b.stages.set st (some { r with minOn := .stopped }) }) := by
  simp only [exec, execMinOnExpiry, hb, hr, due, Timer.isDue, if_true]
  split
  · contradiction
  · rfl

/-- R7: the end of proving of a PROVING stage, by its unit's link. -/
theorem execProvingExpiry_proving {u : Nat} {st : StageName} {b : BoundUnit} {r : StageRec} {s : State}
    (hb : s.unit u = some b) (hr : b.stages.get st = some r) (due : r.proving = .running 0) (proving : r.state = .proving) :
    exec (.provingExpiry u st) s =
      .next
        (if b.live.link = .online then
          (s.putUnit u (b.withStage st { r with proving := .stopped })).takeStop u st .noProof
        else
          s.putUnit u { b with stages := b.stages.set st (some { r with proving := .stopped, overdue := true }) }) := by
  simp only [exec, execProvingExpiry, hb, hr, due, proving, Timer.isDue, if_true]
  rfl

/-- Settles O45: each end of a timer is one stage record written, and what follows in the unit follows from that. -/
theorem minOnAndProvingEndRuns : Obligations.MinOnAndProvingEndRuns := by
  unfold Obligations.MinOnAndProvingEndRuns
  intro u st b r s hb hr
  refine ⟨fun cause due hold pending => ?_, fun due other => ?_, fun due proving online => ?_, fun due proving offline => ?_⟩
  · exact ⟨_, _, _, execMinOnExpiry_hold hb hr due hold pending, onlyUnit_putUnit u _ s, putStage_stages ..,
      endHold_stopped b.copy s.uptime cause r, rfl, rfl, rfl, rfl, rfl, putStage_stopFollows ..⟩
  · exact ⟨_, execMinOnExpiry_other hb hr due other, onlyUnit_putUnit u _ s⟩
  · have ended := execProvingExpiry_proving hb hr due proving
    rw [if_pos online] at ended
    have on : ({ r with proving := .stopped } : StageRec).state.isOn = true := by simp only [proving]; rfl
    obtain ⟨b', r', stages, tripped, follows, after⟩ :=
      takeStop_trip (b := b.withStage st { r with proving := .stopped }) (cause := .noProof)
        (unit_putUnit_same u _ s) (Six_get_set_same b.stages st _) on rfl
    refine ⟨_, b', r', ended, stages.trans (Six_set_set ..), tripped, follows.of_withStage hr rfl, ?_⟩
    rw [after]
    refine ⟨rfl, rfl, fun v => ?_⟩
    rw [setHost_unit, unit_putUnit, unit_putUnit]
    split <;> rfl
  · have ended := execProvingExpiry_proving hb hr due proving
    rw [if_neg offline] at ended
    exact ⟨_, ended, onlyUnit_putUnit u _ s⟩

end Sys2Proof.Machine
end

section
/-! PROOF. O55: a good reply, its bytes, its contents in any order, and what they leave of the stages. -/

namespace Sys2Proof.Machine

/-! ### The bytes of a reply frame (12.4, R159) -/

theorem half_extract (h : Half) : half (h.extractLsb' 8 8) (h.extractLsb' 0 8) = h :=
  (BitVec.extractLsb'_append_extractLsb'_eq_extractLsb' (start₁ := 0) rfl).trans BitVec.extractLsb'_eq_self

/-- 12.2: a temperature that its field can hold is read back as it was sent, and an absent one as absent. -/
theorem optionalTemp_sent {t : Option Int} (fits : ∀ x, t = some x → -32767 ≤ x ∧ x ≤ 32767) :
    optionalTemp (BitVec.ofInt 16 (t.getD (-32768))) = t := by
  cases t with
  | none => rfl
  | some x =>
    obtain ⟨low, high⟩ := fits x rfl
    have value : (BitVec.ofInt 16 x).toInt = x := BitVec.toInt_ofInt_eq_self (by decide) (by omega) (by omega)
    have present : BitVec.ofInt 16 x ≠ 0x8000#16 := fun absent => by
      rw [absent] at value
      have : (0x8000#16).toInt = -32768 := by decide
      omega
    simp [optionalTemp, present, value]

/-- R159: the frame of a reply from the unit's own address is judged a good reply with its contents. -/
theorem judgeReply_replyFrame {r : BoardReply} {address : Nat} (byte : address < 256)
    (fits : ∀ x : Int, r.space = some x ∨ r.discharge = some x ∨ r.outdoor = some x → -32767 ≤ x ∧ x ≤ 32767) :
    judgeReply address (replyFrame r address) = some r := by
  have same : (BitVec.ofNat 8 address).toNat = address := by simp; omega
  simp [judgeReply, replyFrame, replyBody, enc8, encTemp, halfBytes, fromStart, same, half_extract,
    optionalTemp_sent fun x h => fits x (.inl h), optionalTemp_sent fun x h => fits x (.inr (.inl h)),
    optionalTemp_sent fun x h => fits x (.inr (.inr h))]

/-! ### A good reply part by part (R160, R164, R165) -/

/-- R160, R164: the unit once the link state, the readings and the flags of a reply have been taken. -/
def BoundUnit.heard (now : Word) (r : BoardReply) (b : BoundUnit) : BoundUnit := (b.found now).takeReply r

/-- R160, R164: the state in which the contents of a reply reach the stages: the unit has heard the reply, and a LOST unit has
been found. -/
def State.hear (u : Nat) (r : BoardReply) (b : BoundUnit) (s : State) : State :=
  (if b.live.link = .lost then s.raise .unitFound (some u) none (noticeZone b.zone) (b.sinceGood s.uptime) else s).putUnit u
    (b.heard s.uptime r)

/-- The contents of a reply taken one after another. -/
def State.takeEvents (u : Nat) (events : List ReplyEvent) (s : State) : State :=
  events.foldl (fun s e => s.takeEvent u e) s

/-- R165: the unit with its unexpected-run set rebuilt. -/
def BoundUnit.rebuilt (b : BoundUnit) : BoundUnit := { b with live := { b.live with unexpected := b.unexpectedNow } }

theorem goodReply_eq {u : Nat} {b : BoundUnit} {s : State} (hb : s.unit u = some b) (r : BoardReply) :
    s.goodReply u r =
      (((((s.hear u r b).takeEvents u ((b.heard s.uptime r).replyEvents s.freeCount)).useFree
        (((b.heard s.uptime r).replyEvents s.freeCount).length + 2)).onUnit u BoundUnit.fanFailStop).rebuildUnexpected u) := by
  simp only [State.goodReply, hb, State.hear]
  split <;> rfl

theorem hear_unit (u : Nat) (r : BoardReply) (b : BoundUnit) (s : State) :
    (s.hear u r b).unit u = some (b.heard s.uptime r) := unit_putUnit_same ..

theorem hear_uptime (u : Nat) (r : BoardReply) (b : BoundUnit) (s : State) : (s.hear u r b).uptime = s.uptime := by
  unfold State.hear
  split <;> rfl

/-- R165: the rebuilding of the unexpected-run set reaches the unit's live record alone. -/
theorem rebuildUnexpected_unit (u : Nat) (s : State) :
    (s.rebuildUnexpected u).unit u = (s.unit u).map BoundUnit.rebuilt := by
  have raised (joined : List StageName) (zone : Option Nat) (s : State) :
      (joined.foldl (fun s st => s.raise .unexpectedRun (some u) (some st) zone none) s).unit u = s.unit u := by
    induction joined generalizing s with
    | nil => rfl
    | cons st rest ih => rw [List.foldl_cons, ih, raise_unit]
  unfold State.rebuildUnexpected
  cases hb : s.unit u with
  | none => exact hb
  | some b => simp only [useFree_unit, raised, unit_putUnit_same]; rfl

/-- What the contents of a reply leave of the unit, a reply leaves but for the fan hard stop and the unexpected-run set. -/
theorem goodReply_unit {u : Nat} {r : BoardReply} {b c : BoundUnit} {s : State} (hb : s.unit u = some b)
    (hc : ((s.hear u r b).takeEvents u ((b.heard s.uptime r).replyEvents s.freeCount)).unit u = some c) :
    (s.goodReply u r).unit u = some c.fanFailStop.rebuilt := by
  rw [goodReply_eq hb, rebuildUnexpected_unit, unit_onUnit, if_pos rfl, useFree_unit, hc]
  rfl

/-- R159: the end of a visit with a good reply of its unit. -/
theorem execVisitEnd_good {v : Visit} {r : BoardReply} {received : List Byte} {s : State} (visit : s.roof.visit = some v)
    (live : v.live = true) (judged : judgeReply v.address received = some r) :
    exec (.visitEnd received) s = .next (s.goodReply v.unit r).nextVisit := by
  simp [exec, execVisitEnd, visit, live, judged]

theorem nextVisit_unit (s : State) (u : Nat) : s.nextVisit.unit u = s.unit u := by
  rw [nextVisit_frame]
  rfl

/-! ### Which contents a reply has (R135, R164) -/

/-- R164, R135: every content of a reply is taken once, whichever part comes first. -/
theorem replyEvents_perm (n : Nat) (b : BoundUnit) : (b.replyEvents n).Perm (b.stageEvents ++ b.softEvents) := by
  obtain ⟨stages, soft, hstages, hsoft, first | second⟩ := arrangeParts_cases n b.stageEvents b.softEvents
  · rw [BoundUnit.replyEvents, first]
    exact hstages.append hsoft
  · rw [BoundUnit.replyEvents, second]
    exact (hsoft.append hstages).trans List.perm_append_comm

/-- R164: without trips, FLAME_FAIL and FAN_FAIL the stage controller's part is the proof. -/
theorem stageEvents_proofs {b : BoundUnit} (trips : ∀ st, b.limit.trips.get st = false) (flame : b.limit.flameFail = false)
    (fan : b.limit.fanFail = false) : b.stageEvents = (allStages.filter b.proofActs).map .proof := by
  simp [BoundUnit.stageEvents, trips, flame, fan]

/-- R129: of two modes of which one has nothing to do, the other one alone acts. -/
theorem softEvents_one {b : BoundUnit} {heat : Bool} (other : b.softActs (!heat) = false) :
    b.softEvents = if b.softActs heat then [.soft heat] else [] := by
  cases heat <;> simp_all [BoundUnit.softEvents, List.filter_cons] <;> split <;> rfl

/-! ### Proof (R6, R7) -/

/-- A record written as the proof judges it. -/
theorem proofsTaken_of_set {now : Word} {st : StageName} {r : StageRec} {b c : BoundUnit} (hr : b.stages.get st = some r)
    (live : c.live = b.live) (limit : c.limit = b.limit) (copy : c.copy = b.copy)
    (stages : c.stages = b.stages.set st (some (r.judgeProof b.copy now (b.live.running.get st)))) :
    ProofsTaken now [.proof st] b c := by
  refine ⟨live, limit, copy, fun x => ?_⟩
  rw [stages, Six_get_set]
  by_cases hx : x = st
  · subst hx
    simp [hr]
  · simp [hx]

/-- The proof of a stage has nothing to do on a record that it leaves as it is. -/
theorem proofsTaken_of_same {now : Word} {st : StageName} {b : BoundUnit}
    (same : ∀ r, b.stages.get st = some r → r.judgeProof b.copy now (b.live.running.get st) = r) :
    ProofsTaken now [.proof st] b b := by
  refine ⟨rfl, rfl, rfl, fun x => ?_⟩
  by_cases hx : x = st
  · subst hx
    cases hr : b.stages.get x with
    | none => simp
    | some r => simp [same r hr]
  · simp [hx]

theorem takeProof_taken {u : Nat} {b : BoundUnit} {s : State} (hb : s.unit u = some b) (st : StageName) :
    ∃ c, (s.takeProof u st).unit u = some c ∧ ProofsTaken s.uptime [.proof st] b c := by
  cases hr : b.stages.get st with
  | none =>
    refine ⟨b, ?_, proofsTaken_of_same fun r h => by simp [hr] at h⟩
    simp only [State.takeProof, hb, hr, BoundUnit.onStage, Option.any_none, Bool.false_eq_true, if_false]
    split
    · exact unit_putUnit_same ..
    · exact hb
  | some r =>
    by_cases running : b.live.running.get st = true
    · refine ⟨_, by simp only [State.takeProof, hb, running, if_true]; exact unit_putUnit_same .., ?_⟩
      rw [onStage_of_get hr]
      exact proofsTaken_of_set hr rfl rfl rfl (by simp [StageRec.judgeProof, running])
    · by_cases overdue : r.state = .proving ∧ r.overdue = true
      · refine ⟨_, by simpa [State.takeProof, hb, hr, running, overdue] using takeStop_unit .noProof hb hr, ?_⟩
        refine proofsTaken_of_set hr ?_ ?_ ?_ ?_
        iterate 3 rw [putStage_frame]
        rw [putStage_stages, StageRec.judgeProof, if_neg running, if_pos overdue]
      · refine ⟨b, by simp [State.takeProof, hb, hr, running, overdue], proofsTaken_of_same fun q hq => ?_⟩
        obtain rfl : r = q := by simpa [hr] using hq
        rw [StageRec.judgeProof, if_neg running, if_neg overdue]

theorem takeEvent_uptime (u : Nat) (e : ReplyEvent) (s : State) : (s.takeEvent u e).uptime = s.uptime := by
  rw [takeEvent_frame]

/-- R6, R7: the proofs of different stages do not meet. -/
theorem takeEvents_proofs {u : Nat} {events : List ReplyEvent} {b : BoundUnit} {s : State} (hb : s.unit u = some b)
    (proofs : ∀ e ∈ events, ∃ st, e = .proof st) (once : events.Nodup) :
    ∃ c, (s.takeEvents u events).unit u = some c ∧ ProofsTaken s.uptime events b c := by
  induction events generalizing b s with
  | nil => exact ⟨b, hb, rfl, rfl, rfl, fun st => by simp⟩
  | cons e rest ih =>
    obtain ⟨st, rfl⟩ := proofs _ List.mem_cons_self
    obtain ⟨new, once⟩ := List.nodup_cons.mp once
    obtain ⟨m, hm, first⟩ := takeProof_taken hb st
    obtain ⟨c, hc, others⟩ := ih (s := s.takeEvent u (.proof st)) hm (fun e he => proofs e (List.mem_cons_of_mem _ he)) once
    rw [takeEvent_uptime] at others
    refine ⟨c, hc, others.live.trans first.live, others.limit.trans first.limit, others.copy.trans first.copy, fun x => ?_⟩
    rw [others.stages, first.stages, first.copy, first.live]
    by_cases hx : x = st
    · subst hx
      simp [new]
    · simp [hx]

/-! ### The soft-limit action (R129 to R131) -/

/-- R129: the limited stages of a mode in the words of the rule. -/
theorem limitedStages_eq (b : BoundUnit) (heat : Bool) :
    b.limitedStages heat =
      (if heat then [StageName.h1, .h2] else [StageName.c1, .c2, .c3, .c4]).filter fun st =>
        (b.stages.get st).any fun r => decide (r.state = .proving) || decide (r.state = .run) ||
          (decide (r.state = .hold) && decide (r.pendingCause = some .satisfied)) := by
  have limited : StageRec.isLimited = fun r => decide (r.state = .proving) || decide (r.state = .run) ||
      (decide (r.state = .hold) && decide (r.pendingCause = some .satisfied)) := by
    funext r
    rw [Bool.eq_iff_iff]
    cases h : r.state <;> simp [StageRec.isLimited, h]
  rw [← limited]
  cases heat <;> simp [BoundUnit.limitedStages, allStages, isHeat, List.filter_cons]

/-- R129: the action is taken for a flagged mode with enough limited stages while the hold-off is stopped. -/
theorem softActs_iff (b : BoundUnit) (heat : Bool) :
    b.softActs heat = true ↔
      b.softLimited heat = true ∧ b.copy.softCount ≤ (b.limitedStages heat).length ∧ b.limit.holdOff = .stopped := by
  simp only [BoundUnit.softActs, Bool.and_eq_true, Bool.not_eq_true', decide_eq_true_eq, ← Bool.not_eq_true, isRunning_iff,
    not_not, and_assoc]

theorem softBacksOff_iff (b : BoundUnit) (heat : Bool) :
    b.softBacksOff heat = true ↔ heat = true ∧ b.copy.kind = .modulatingGas ∧ b.copy.gasLowFire < b.gas.position := by
  simp only [BoundUnit.softBacksOff, Bool.and_eq_true, decide_eq_true_eq, beq_iff_eq, and_assoc]

/-- R129, R127: the unit with its hold-off started. -/
def BoundUnit.startHoldOff (b : BoundUnit) : BoundUnit :=
  { b with limit := { b.limit with holdOff := .start Config.holdOffTime } }

/-- R131: a modulating unit with its valve above low fire backs its gas off. -/
theorem softLimitAction_backsOff {u : Nat} {heat : Bool} {b : BoundUnit} {s : State} (hb : s.unit u = some b)
    (acts : b.softActs heat = true) (backs : b.softBacksOff heat = true) :
    (s.softLimitAction u heat).unit u = some b.startHoldOff.backOffGas := by
  simp only [State.softLimitAction, hb, acts, backs, if_true, unit_onUnit, unit_putUnit_same]
  rfl

/-- R130: otherwise the highest limited stage takes a SOFT_LIMIT stop. -/
theorem softLimitAction_stops {u : Nat} {heat : Bool} {st : StageName} {b : BoundUnit} {r : StageRec} {s : State}
    (hb : s.unit u = some b) (acts : b.softActs heat = true) (stops : ¬b.softBacksOff heat = true)
    (last : (b.limitedStages heat).getLast? = some st) (hr : b.stages.get st = some r) :
    (s.softLimitAction u heat).unit u =
      some (b.startHoldOff.putStage s.host.run .softLimit st (r.takeStop b.copy s.uptime .softLimit)) := by
  simp only [State.softLimitAction, hb, acts, stops, last, if_true]
  exact takeStop_unit (b := b.startHoldOff) .softLimit (unit_putUnit_same ..) hr

/-- R129: a stage that is the highest limited one has a record that counts. -/
theorem limited_of_getLast? {b : BoundUnit} {heat : Bool} {st : StageName}
    (last : (b.limitedStages heat).getLast? = some st) : ∃ r, b.stages.get st = some r ∧ r.isLimited = true := by
  have counted := (List.mem_filter.mp (List.mem_of_getLast? last)).2
  simp only [Bool.and_eq_true, Option.any_eq_true] at counted
  exact counted.2

/-- R9, R130: what a SOFT_LIMIT stop makes of the record of a limited stage. -/
theorem takeStop_softLimit {r : StageRec} (limited : r.isLimited = true) (d : Descriptor) (now : Word) :
    if r.state = .hold ∨ (r.state = .run ∧ r.minOn ≠ .stopped) then
      r.takeStop d now .softLimit = { r with state := .hold, pendingCause := some .softLimit }
    else StoppedToRest d now .softLimit r (r.takeStop d now .softLimit) ∧
      MarksKept r (r.takeStop d now .softLimit) ∧
      (r.takeStop d now .softLimit).proving = (if r.state = .proving then .stopped else r.proving) := by
  have deferred : r.takeStop d now .softLimit = r.deferredStop d now .softLimit := rfl
  rw [deferred, StageRec.deferredStop]
  cases state : r.state with
  | proving =>
    simp only [reduceCtorEq, false_and, or_self, if_false, if_true]
    exact ⟨⟨rfl, rfl, recordStop_recorded now .softLimit r⟩, ⟨rfl, rfl, rfl, rfl⟩, trivial⟩
  | run =>
    simp only [reduceCtorEq, true_and, false_or, if_false]
    by_cases runs : r.minOn = .stopped
    · simp only [runs, ne_eq, not_true, if_false, Timer.isRunning, Bool.false_eq_true]
      exact ⟨⟨rfl, rfl, recordStop_recorded now .softLimit r⟩, ⟨rfl, rfl, rfl, rfl⟩, rfl⟩
    · simp only [ne_eq, runs, not_false_eq_true, if_true, isRunning_iff.mpr runs]
  | hold => simp only [true_or, if_true, ← state]
  | off => simp [StageRec.isLimited, state] at limited
  | rest => simp [StageRec.isLimited, state] at limited
  | queued => simp [StageRec.isLimited, state] at limited
  | lockout => simp [StageRec.isLimited, state] at limited

/-! ### A unit after any contents of a reply -/

theorem softLimitAction_idle {u : Nat} {heat : Bool} {b : BoundUnit} {s : State} (hb : s.unit u = some b)
    (idle : ¬b.softActs heat = true) : s.softLimitAction u heat = s := by
  simp only [State.softLimitAction, hb, idle]
  rfl

theorem takeStop_bound {u : Nat} {b : BoundUnit} {s : State} (hb : s.unit u = some b) (st : StageName) (cause : StopCause) :
    ∃ c, (s.takeStop u st cause).unit u = some c ∧ c.limit = b.limit := by
  cases hr : b.stages.get st with
  | none => exact ⟨b, by simp [State.takeStop, hb, hr], rfl⟩
  | some r => exact ⟨_, takeStop_unit cause hb hr, by rw [putStage_frame]⟩

theorem softLimitAction_bound {u : Nat} {b : BoundUnit} {s : State} (hb : s.unit u = some b) (heat : Bool) :
    ∃ c, (s.softLimitAction u heat).unit u = some c ∧ c.limit.fanFail = b.limit.fanFail := by
  by_cases acts : b.softActs heat = true
  · by_cases backs : b.softBacksOff heat = true
    · exact ⟨_, softLimitAction_backsOff hb acts backs, rfl⟩
    · cases last : (b.limitedStages heat).getLast? with
      | none => exact ⟨b.startHoldOff, by simp [State.softLimitAction, hb, acts, backs, last, unit_putUnit]; rfl, rfl⟩
      | some st =>
        obtain ⟨r, hr, _⟩ := limited_of_getLast? last
        exact ⟨_, softLimitAction_stops hb acts backs last hr, by rw [putStage_frame]; rfl⟩
  · exact ⟨b, by rw [softLimitAction_idle hb acts, hb], rfl⟩

/-- R134: no content that reaches a stage touches the report of FAN_FAIL. -/
theorem takeEvent_bound {u : Nat} {b : BoundUnit} {s : State} (hb : s.unit u = some b) (e : ReplyEvent) :
    ∃ c, (s.takeEvent u e).unit u = some c ∧ c.limit.fanFail = b.limit.fanFail := by
  have stopped (st : StageName) (cause : StopCause) :
      ∃ c, (s.takeStop u st cause).unit u = some c ∧ c.limit.fanFail = b.limit.fanFail := by
    obtain ⟨c, hc, limit⟩ := takeStop_bound hb st cause
    exact ⟨c, hc, by rw [limit]⟩
  cases e with
  | proof st =>
    obtain ⟨c, hc, taken⟩ := takeProof_taken hb st
    exact ⟨c, hc, by rw [taken.limit]⟩
  | trip st => exact stopped st .hardLimit
  | flame st => exact stopped st .hardLimit
  | fan st => exact stopped st .fanFail
  | soft heat => exact softLimitAction_bound hb heat

theorem takeEvents_bound {u : Nat} {b : BoundUnit} {s : State} (hb : s.unit u = some b) (events : List ReplyEvent) :
    ∃ c, (s.takeEvents u events).unit u = some c ∧ c.limit.fanFail = b.limit.fanFail := by
  induction events generalizing b s with
  | nil => exact ⟨b, hb, rfl⟩
  | cons e rest ih =>
    obtain ⟨m, hm, first⟩ := takeEvent_bound hb e
    obtain ⟨c, hc, others⟩ := ih hm
    exact ⟨c, hc, others.trans first⟩

/-! ### The unit that has heard a reply (R127, R128, R159, R164) -/

theorem heard_running (now : Word) (r : BoardReply) (b : BoundUnit) (st : StageName) :
    (b.heard now r).live.running.get st = (r.running.getLsbD (stageCode st - 1) && b.names st) := Six_get_ofFn _ st

theorem heard_trips {r : BoardReply} (none : r.trips = 0#8) (now : Word) (b : BoundUnit) (st : StageName) :
    (b.heard now r).limit.trips.get st = false := by
  simp [BoundUnit.heard, BoundUnit.takeReply, namedSet, none]

theorem heard_softLimited (now : Word) (r : BoardReply) (b : BoundUnit) (heat : Bool) :
    (b.heard now r).softLimited heat =
      if heat then r.flags.getLsbD 2 else r.flags.getLsbD 0 || r.flags.getLsbD 1 := by cases heat <;> rfl

theorem heard_gasReduction (now : Word) (r : BoardReply) (b : BoundUnit) :
    (b.heard now r).gasReduction =
      if b.limit.heatLimited = true ∧ r.flags.getLsbD 2 = false then 0 else b.gasReduction := by
  simp [BoundUnit.heard, BoundUnit.takeReply, BoundUnit.found, BoardReply.datHigh]

/-- R6, R7: proof has something to do on a PROVING stage that runs or is overdue. -/
theorem heard_proofActs {r : BoardReply} {b : BoundUnit} {st : StageName} {q : StageRec} (hq : b.stages.get st = some q)
    (now : Word) :
    (b.heard now r).proofActs st = true ↔
      q.state = .proving ∧ (r.running.getLsbD (stageCode st - 1) = true ∨ q.overdue = true) := by
  have named : b.names st = true := by simp [BoundUnit.names, hq]
  have stages : (b.heard now r).stages = b.stages := rfl
  simp [BoundUnit.proofActs, stages, hq, heard_running, named]

/-- R6, R7: a record after the proof of a reply. -/
theorem judged_stage {r : BoardReply} {now : Word} {events : List ReplyEvent} {b c : BoundUnit} {st : StageName}
    {q : StageRec} (taken : ProofsTaken now events (b.heard now r) c)
    (all : .proof st ∈ events ↔ (b.heard now r).proofActs st = true) (hq : b.stages.get st = some q) :
    ∃ q', c.stages.get st = some q' ∧
      if q.state = .proving ∧ r.running.getLsbD (stageCode st - 1) = true then
        q' = { q with state := .run, proving := .stopped, overdue := false }
      else if q.state = .proving ∧ q.overdue = true then Tripped b.copy now .noProof q q'
      else q' = q := by
  have named : b.names st = true := by simp [BoundUnit.names, hq]
  have stage := taken.stages st
  rw [heard_running, named, Bool.and_true, show (b.heard now r).stages.get st = some q from hq, Option.map_some] at stage
  rw [heard_proofActs hq] at all
  by_cases runs : q.state = .proving ∧ r.running.getLsbD (stageCode st - 1) = true
  · obtain ⟨proving, running⟩ := runs
    rw [if_pos (all.mpr ⟨proving, .inl running⟩), running] at stage
    refine ⟨_, stage, ?_⟩
    rw [if_pos ⟨proving, running⟩, StageRec.judgeProof, if_pos rfl, StageRec.prove, if_pos proving]
  · by_cases overdue : q.state = .proving ∧ q.overdue = true
    · obtain ⟨proving, late⟩ := overdue
      have silent : r.running.getLsbD (stageCode st - 1) = false := by simpa [proving] using runs
      rw [if_pos (all.mpr ⟨proving, .inr late⟩), silent] at stage
      refine ⟨_, stage, ?_⟩
      rw [if_neg runs, if_pos ⟨proving, late⟩, StageRec.judgeProof, if_neg Bool.false_ne_true, if_pos ⟨proving, late⟩]
      exact takeStop_tripped (by rw [proving]; rfl) rfl b.copy now
    · rw [if_neg (by rw [all]; tauto)] at stage
      exact ⟨q, stage, by rw [if_neg runs, if_neg overdue]⟩

/-- R1: a name without a record has none after the proof either. -/
theorem judged_absent {r : BoardReply} {now : Word} {events : List ReplyEvent} {b c : BoundUnit} {st : StageName}
    (taken : ProofsTaken now events (b.heard now r) c) (absent : b.stages.get st = none) : c.stages.get st = none := by
  simpa [show (b.heard now r).stages.get st = none from absent] using taken.stages st

/-! ### Replies with nothing but proof, and with nothing but a soft limit -/

/-- R129: without a soft flag no soft-limit action is taken. -/
theorem softEvents_unflagged {r : BoardReply} (coil : r.flags.getLsbD 0 = false) (head : r.flags.getLsbD 1 = false)
    (dat : r.flags.getLsbD 2 = false) (now : Word) (b : BoundUnit) : (b.heard now r).softEvents = [] := by
  have idle (heat : Bool) : ¬(b.heard now r).softActs heat = true := fun acts => by
    have flag := ((softActs_iff _ heat).mp acts).1
    rw [heard_softLimited, coil, head, dat] at flag
    cases heat <;> exact Bool.false_ne_true flag
  simp [BoundUnit.softEvents, idle]

/-- R129: a mode without limited stages has no action, since a soft count is at least 1. -/
theorem softActs_of_none_limited {b : BoundUnit} {heat : Bool} (one : 1 ≤ b.copy.softCount)
    (none : b.limitedStages heat = []) : b.softActs heat = false :=
  Bool.eq_false_iff.mpr fun acts => by
    have enough := ((softActs_iff b heat).mp acts).2.1
    rw [none, List.length_nil] at enough
    exact absurd (Nat.le_trans one enough) (by decide)

/-- R6, R7: no PROVING stage that runs or is overdue leaves no proof to judge. -/
theorem proofs_silent {r : BoardReply} {b : BoundUnit}
    (silent : ∀ st q, b.stages.get st = some q → q.state = .proving →
      r.running.getLsbD (stageCode st - 1) = false ∧ q.overdue = false) (now : Word) :
    allStages.filter (b.heard now r).proofActs = [] := by
  rw [List.filter_eq_nil_iff]
  intro st _ acts
  cases hq : b.stages.get st with
  | none => simp [BoundUnit.proofActs, show (b.heard now r).stages.get st = none from hq] at acts
  | some q =>
    obtain ⟨proving, proof⟩ := (heard_proofActs hq now).mp acts
    simp [silent st q hq proving] at proof

/-- R164, R129: with no trips, no failure and no proof to judge, the contents of a reply are one soft-limit action at most. -/
theorem takeEvents_soft {u n : Nat} {heat : Bool} {b : BoundUnit} (stages : b.stageEvents = [])
    (other : b.softActs (!heat) = false) (s : State) :
    s.takeEvents u (b.replyEvents n) = if b.softActs heat then s.softLimitAction u heat else s := by
  have contents := replyEvents_perm n b
  rw [stages, softEvents_one other, List.nil_append] at contents
  split at contents
  · rw [List.perm_singleton.mp contents]
    rename_i acts
    rw [if_pos acts]
    rfl
  · rw [contents.eq_nil]
    rename_i idle
    rw [if_neg idle]
    rfl

/-- R164, R6, R7: with no trips, no failure and no soft limit, the contents of a reply are the proof of its stages. -/
theorem takeEvents_judged {u n : Nat} {r : BoardReply} {b c : BoundUnit} {s : State}
    (proofs : (b.heard s.uptime r).stageEvents = (allStages.filter (b.heard s.uptime r).proofActs).map .proof)
    (soft : (b.heard s.uptime r).softEvents = [])
    (hc : ((s.hear u r b).takeEvents u ((b.heard s.uptime r).replyEvents n)).unit u = some c) :
    ∃ events, ProofsTaken s.uptime events (b.heard s.uptime r) c ∧
      ∀ st, .proof st ∈ events ↔ (b.heard s.uptime r).proofActs st = true := by
  have contents := replyEvents_perm n (b.heard s.uptime r)
  rw [proofs, soft, List.append_nil] at contents
  have each (e : ReplyEvent) (he : e ∈ (b.heard s.uptime r).replyEvents n) : ∃ st, e = .proof st := by
    obtain ⟨st, _, rfl⟩ := List.mem_map.mp (contents.mem_iff.mp he)
    exact ⟨st, rfl⟩
  have once : ((b.heard s.uptime r).replyEvents n).Nodup :=
    contents.nodup_iff.mpr (((by decide : allStages.Nodup).filter _).map fun _ _ => ReplyEvent.proof.inj)
  obtain ⟨d, hd, taken⟩ := takeEvents_proofs (hear_unit u r b s) each once
  obtain rfl : c = d := by simpa [hc] using hd
  rw [hear_uptime] at taken
  refine ⟨_, taken, fun st => ?_⟩
  rw [contents.mem_iff]
  simp [mem_allStages]

/-- R130, R9: the unit after its highest limited stage has taken a SOFT_LIMIT stop. -/
theorem softLimitAction_highest {u : Nat} {heat : Bool} {b : BoundUnit} {s : State} (hb : s.unit u = some b)
    (one : 1 ≤ b.copy.softCount) (acts : b.softActs heat = true) (stops : ¬b.softBacksOff heat = true) :
    ∃ st r c, (b.limitedStages heat).getLast? = some st ∧ b.stages.get st = some r ∧ r.isLimited = true ∧
      (s.softLimitAction u heat).unit u = some c ∧
      c.stages = b.stages.set st (some (r.takeStop b.copy s.uptime .softLimit)) ∧
      c.limit.holdOff = .running 120 ∧ GasFollows (HeatMoved b c) b.gasReduction b c := by
  obtain ⟨_, enough, _⟩ := (softActs_iff b heat).mp acts
  cases last : (b.limitedStages heat).getLast? with
  | none =>
    rw [List.getLast?_eq_none_iff.mp last, List.length_nil] at enough
    omega
  | some st =>
    obtain ⟨r, hr, limited⟩ := limited_of_getLast? last
    refine ⟨st, r, _, rfl, hr, limited, softLimitAction_stops hb acts stops last hr, putStage_stages .., ?_,
      putStage_gasFollows (b := b.startHoldOff) ..⟩
    rw [putStage_frame]
    rfl

/-- Settles O55: the contents of a reply are its proofs, which do not meet, or one soft-limit action; the rest of the reply
leaves stages, hold-off and gas as these leave them. -/
theorem goodRepliesProveStagesAndLimitThem : Obligations.GoodRepliesProveStagesAndLimitThem := by
  unfold Obligations.GoodRepliesProveStagesAndLimitThem
  intro r v b s limited byte visit live hb fits trips flame fan hlimited
  have hh := hear_unit v.unit r b s
  obtain ⟨c, hc, fanFail⟩ := takeEvents_bound hh ((b.heard s.uptime r).replyEvents s.freeCount)
  have kept : c.fanFailStop = c := if_neg (by rw [fanFail]; exact fun failed => Bool.false_ne_true (fan.symm.trans failed))
  have after := goodReply_unit hb hc
  rw [kept] at after
  have proofs := stageEvents_proofs (b := b.heard s.uptime r) (heard_trips trips s.uptime b) flame fan
  have counts (heat : Bool) : (b.heard s.uptime r).limitedStages heat = limited heat := by
    rw [hlimited, limitedStages_eq]
    rfl
  refine ⟨_, c.rebuilt, execVisitEnd_good visit live (judgeReply_replyFrame byte fits), (nextVisit_unit ..).trans after,
    fun coil head dat => ?_, fun heat flagged reduction hflagged hreduction raised other one silent => ?_⟩
  · obtain ⟨events, taken, all⟩ := takeEvents_judged proofs (softEvents_unflagged coil head dat s.uptime b) hc
    refine ⟨congrArg (·.holdOff) taken.limit, fun st => ?_⟩
    cases hq : b.stages.get st with
    | none => exact (judged_absent taken hq :)
    | some q =>
      obtain ⟨q', hq', judged⟩ := judged_stage taken (all st) hq
      exact ⟨q', hq', judged⟩
  · have nothing : (b.heard s.uptime r).stageEvents = [] := by rw [proofs, proofs_silent silent, List.map_nil]
    have rests : (b.heard s.uptime r).softActs (!heat) = false :=
      softActs_of_none_limited one ((counts !heat).trans other)
    have flag : (b.heard s.uptime r).softLimited heat = true := by rw [heard_softLimited, ← hflagged, raised]
    have reduced : (b.heard s.uptime r).gasReduction = reduction := by rw [heard_gasReduction, hreduction]
    rw [takeEvents_soft nothing rests] at hc
    refine ⟨fun idle => ?_, fun enough stopped => ?_⟩
    · have idle : ¬(b.heard s.uptime r).softActs heat = true := fun acts => by
        obtain ⟨_, enough, stopped⟩ := (softActs_iff _ heat).mp acts
        rw [counts] at enough
        exact idle.elim (Nat.not_lt.mpr enough) (· stopped)
      rw [if_neg idle, hh] at hc
      cases hc
      exact ⟨rfl, rfl, rfl, reduced⟩
    · have acts : (b.heard s.uptime r).softActs heat = true :=
        (softActs_iff _ heat).mpr ⟨flag, by rw [counts]; exact enough, stopped⟩
      rw [if_pos acts] at hc
      by_cases backs : (b.heard s.uptime r).softBacksOff heat = true
      · rw [softLimitAction_backsOff hh acts backs] at hc
        cases hc
        have gas := (softBacksOff_iff _ heat).mp backs
        refine ⟨rfl, fun _ => ⟨rfl, rfl, ?_⟩, fun stops => absurd gas stops⟩
        rw [← reduced]
        rfl
      · obtain ⟨st, q, d, last, hq, counted, hd, stages, holdOff, gas⟩ := softLimitAction_highest hh one acts backs
        obtain rfl : c = d := by simpa [hc] using hd
        rw [reduced] at gas
        rw [counts] at last
        rw [hear_uptime] at stages
        exact ⟨holdOff, fun yes => absurd ((softBacksOff_iff (b.heard s.uptime r) heat).mpr yes) backs,
          fun _ => ⟨gas, st, q, _, last, hq, stages, takeStop_softLimit counted b.copy s.uptime⟩⟩

end Sys2Proof.Machine
end

section
/-! PROOF. O46: a grant attempt in the words of its rules. -/

namespace Sys2Proof.Machine

/-! ### Load and ceiling in the words of R50 to R60 -/

theorem presentLoad_eq (s : State) : s.presentLoad = Rule.presentLoad s := by
  have stages (b : BoundUnit) : b.stageLoad = ([StageName.c1, .c2, .c3, .c4, .h1, .h2].map fun st =>
      if (if b.live.link = .lost then b.lostOn.get st
          else b.isOn st || (decide (b.live.link = .online) && b.live.unexpected.get st)) then b.copy.loads.get st
      else 0).sum := by
    unfold BoundUnit.stageLoad BoundUnit.stageCounts allStages
    rfl
  unfold State.presentLoad Rule.presentLoad State.hvacLoad Rule.hvacLoad
  simp only [stages]
  rfl

theorem projectionFails_eq (k : Nat) (s : State) : s.projectionFails k = Rule.projectionFails s k := by
  unfold State.projectionFails Rule.projectionFails State.loadWith Rule.loadWith
  rw [presentLoad_eq]
  rfl

theorem instantFails_eq (k : Nat) (s : State) : s.instantFails k = Rule.instantFails s k := by
  unfold State.instantFails Rule.instantFails State.loadWith Rule.loadWith
  rw [presentLoad_eq]
  rfl

/-! ### Skip reasons (R36) -/

theorem softLimited_iff (e : Entry) (b : BoundUnit) : b.softLimited (isHeat e.stage) = true ↔ Rule.Soft e b := by
  cases h : isHeat e.stage <;> simp [BoundUnit.softLimited, Rule.Soft, h]

/-- R36: an entry of a bound unit is skipped for the first condition that holds. -/
theorem skips_of_skipReason {e : Entry} {why : SkipReason} {s : State} (bound : s.unit e.unit ≠ none)
    (skipped : s.skipReason e = some why) : Rule.Skips s e why := by
  obtain ⟨b, hb⟩ := Option.ne_none_iff_exists'.mp bound
  refine ⟨b, hb, ?_⟩
  simp only [State.skipReason, hb] at skipped
  split at skipped
  · cases skipped
    assumption
  rename_i online
  rw [not_not] at online
  split at skipped
  · cases skipped
    exact ⟨online, (softLimited_iff e b).mp ‹_›⟩
  rename_i soft
  rw [softLimited_iff] at soft
  split at skipped
  · cases skipped
    exact ⟨online, soft, ‹_›⟩
  rename_i air
  split at skipped
  · cases skipped
    rename_i stagger
    obtain ⟨compressor, runs⟩ := Bool.and_eq_true_iff.mp stagger
    exact ⟨online, soft, Nat.le_of_not_lt air, compressor, isRunning_iff.mp runs⟩
  · cases skipped

/-- R36: an entry that is not skipped is a candidate. -/
theorem candidate_of_skipReason {e : Entry} {s : State} (kept : s.skipReason e = none) : Rule.Candidate s e := by
  unfold State.skipReason at kept
  split at kept
  · cases kept
  rename_i b hb
  split at kept
  · cases kept
  split at kept
  · cases kept
  split at kept
  · cases kept
  split at kept
  · cases kept
  rename_i online soft air stagger
  refine ⟨b, hb, not_not.mp online, mt (softLimited_iff e b).mpr soft, Nat.le_of_not_lt air, fun compressor => ?_⟩
  by_contra runs
  exact stagger (by rw [compressor, isRunning_iff.mpr runs]; rfl)

/-! ### The unit of a granted stage (R5, R87, R119) -/

/-- R5, R119: the unit with a stage granted, before a heat stage's gas target is derived again. -/
def BoundUnit.granted (now : Word) (st : StageName) (r : StageRec) (b : BoundUnit) : BoundUnit :=
  { b with stages := b.stages.set st (some (r.grant b.copy now)), purge := .stopped }

theorem grantStage_queued {now : Word} {st : StageName} {b : BoundUnit} {r : StageRec} (hr : b.stages.get st = some r)
    (queued : r.state = .queued) :
    b.grantStage now st = if isHeat st then (b.granted now st r).rederiveGas else b.granted now st r := by
  simp only [BoundUnit.grantStage, hr, queued, if_true]
  rfl

theorem grantStage_frame {now : Word} {st : StageName} {b : BoundUnit} {r : StageRec} (hr : b.stages.get st = some r)
    (queued : r.state = .queued) :
    b.grantStage now st =
      { b.granted now st r with gas := (b.grantStage now st).gas, gasReduction := (b.grantStage now st).gasReduction } := by
  rw [grantStage_queued hr queued]
  split
  · exact rederiveGas_frame _
  · rfl

theorem grantStage_gasFollows {now : Word} {st : StageName} {b : BoundUnit} {r : StageRec} (hr : b.stages.get st = some r)
    (queued : r.state = .queued) :
    GasFollows (isHeat st = true) b.gasReduction b (b.grantStage now st) := by
  rw [grantStage_queued hr queued]
  split
  · rename_i heat
    exact (rederiveGas_follows (b.granted now st r)).congr (iff_true_intro heat) rfl rfl rfl
  · rename_i compressor
    exact gasFollows_of_same compressor rfl rfl

/-! ### A grant and an attempt (R36 to R39) -/

theorem grant_eq (e : Entry) (s : State) :
    s.grant e = { s with
      units := (s.grant e).units
      arbiter := { s.arbiter with
        queue := s.arbiter.queue.filter fun f => !(f.unit == e.unit && f.stage == e.stage)
        stagger := if e.compressor then .running s.meter.limits.spacing else s.arbiter.stagger } } := by
  unfold State.grant State.startStagger
  simp only
  rw [onUnit_frame]
  split <;> rfl

theorem grant_unit (e : Entry) (v : Nat) (s : State) :
    (s.grant e).unit v =
      if v = e.unit then (s.unit e.unit).map (BoundUnit.grantStage s.uptime e.stage) else s.unit v := by
  have granted : (s.grant e).unit v =
      ((s.removeEntry e.unit e.stage).onUnit e.unit (BoundUnit.grantStage s.uptime e.stage)).unit v := by
    unfold State.grant
    simp only
    split <;> rfl
  rw [granted, unit_onUnit]
  rfl

/-- R36: the walk parts the queue into the entries skipped and the rest, which begins with the candidate. -/
theorem walk_parts (s : State) (queue : List Entry) :
    ∃ skipped rest, queue = skipped ++ rest ∧ (∀ e ∈ skipped, (s.skipReason e).isSome = true) ∧
      (∀ e behind, rest = e :: behind → s.skipReason e = none) ∧
      s.walk queue = (skipped.length, skipped.head?.bind s.skipReason, rest.head?) := by
  refine ⟨_, _, List.takeWhile_append_dropWhile.symm,
    fun e he => List.mem_takeWhile_imp (p := fun e => (s.skipReason e).isSome) he, fun e behind first => ?_, walk_eq s queue⟩
  have stays := List.head?_dropWhile_not (fun e => (s.skipReason e).isSome) queue
  rw [first] at stays
  exact Option.not_isSome_iff_eq_none.mp (Bool.eq_false_iff.mp stays)

/-- R36 to R39: what a grant attempt leaves, as the rules say it. -/
theorem attempt_result (cause : AttemptCause) {s : State} (bound : ∀ e ∈ s.arbiter.queue, s.unit e.unit ≠ none) :
    AttemptResult cause s (s.attempt cause) := by
  obtain ⟨skipped, rest, parts, skips, candidate, walk⟩ := walk_parts s s.arbiter.queue
  have reason : ∀ e ∈ skipped, ∃ why, s.skipReason e = some why ∧ Rule.Skips s e why := fun e he => by
    obtain ⟨why, skipped⟩ := Option.isSome_iff_exists.mp (skips e he)
    exact ⟨why, skipped, skips_of_skipReason (bound e (parts ▸ List.mem_append_left _ he)) skipped⟩
  refine ⟨skipped, skipped.head?.bind s.skipReason, fun e he => (reason e he).imp fun _ h => h.2, ?_, ?_, ?_⟩
  · rintro rfl
    rfl
  · rintro e behind rfl
    exact reason e List.mem_cons_self
  cases rest with
  | nil =>
    left
    rw [List.append_nil] at parts
    refine ⟨parts, ?_⟩
    simp only [State.attempt, walk]
    rfl
  | cons e behind =>
    right
    refine ⟨e, behind, parts, candidate_of_skipReason (candidate e behind rfl), ?_⟩
    simp only [State.attempt, walk, List.head?_cons, projectionFails_eq, instantFails_eq]
    by_cases fails : (Rule.projectionFails s e.load || Rule.instantFails s e.load) = true
    · rw [if_pos fails, if_pos fails]
      rfl
    · rw [if_neg fails, if_neg fails]
      refine ⟨?_, fun u other => (grant_unit e u s).trans (if_neg other), fun b r hb hr queued => ?_⟩
      · conv_lhs => rw [State.recordAttempt, grant_eq]
        rfl
      · refine ⟨b.grantStage s.uptime e.stage, ?_, ?_, ?_, grantStage_gasFollows hr queued⟩
        · exact (grant_unit e e.unit s).trans (by rw [if_pos rfl, hb]; rfl)
        · rw [grantStage_frame hr queued]
          simp only [BoundUnit.granted, StageRec.grant, queued, if_true]
          rfl
        · conv_lhs => rw [grantStage_frame hr queued]
          rw [grantStage_frame hr queued]
          rfl

/-- Settles O46: the due expiry is an attempt with the timer stopped. -/
theorem staggerExpiryMakesAGrantAttempt : Obligations.StaggerExpiryMakesAGrantAttempt := by
  unfold Obligations.StaggerExpiryMakesAGrantAttempt
  intro s bound
  refine ⟨fun due => ⟨_, ?_, attempt_result .stagger (s := s.setArbiter { s.arbiter with stagger := .stopped }) bound⟩,
    fun early => ?_⟩
  · exact congrArg Host.Outcome.next (if_pos (isDue_iff.mpr due))
  · exact congrArg Host.Outcome.next (if_neg (mt isDue_iff.mp early))

end Sys2Proof.Machine
end

section
/-! PROOF. O3: the reset state. -/

namespace Sys2Proof.Machine

theorem reset_unit (u : Nat) : State.reset.unit u = none := rfl

theorem reset_zone (z : Nat) : State.reset.zone z = none := rfl

theorem tableLaw_reset : TableLaw State.reset := ⟨rfl, rfl, rfl, rfl, rfl, rfl, rfl, rfl, rfl⟩

theorem noticeLaw_reset : NoticeLaw State.reset := ⟨Nat.zero_le _, rfl, fun dropped => absurd dropped Bool.false_ne_true⟩

theorem meterLaw_reset : MeterLaw State.reset where
  history := Nat.zero_le _
  length := by unfold IntervalLength; decide
  pending n h := by cases h
  image := by unfold IntervalLength; decide
  interval := by decide
  energy := by decide
  peak := by decide

theorem queueLaw_reset : QueueLaw State.reset where
  units := rfl
  size := Nat.zero_le _
  kinds e h := by cases h
  single := .nil
  waiting u st := by simp [reset_unit, show State.reset.arbiter.queue = [] from rfl]
  shutdown h := by cases h

theorem fanLaw_reset : FanLaw State.reset where
  units := rfl
  floor u b h := by cases h
  held u b h := by cases h
  copies u b h := by cases h
  stored p h := by cases h
  saved p h := by cases h

theorem bindingLaw_reset : BindingLaw State.reset where
  units := rfl
  zones := rfl
  saved := rfl
  numbers u b h := by cases h
  listed u z := by simp [reset_unit, reset_zone]
  lists z r h := by cases h
  bindings p h := by cases h
  rising := rfl
  addresses u v b c h := by cases h

/-- Settles O3: the reset state is written out, and its empty tables and queue meet every law. -/
theorem resetStateHoldsThePowerOnValues : Obligations.ResetStateHoldsThePowerOnValues := by
  unfold Obligations.ResetStateHoldsThePowerOnValues
  refine ⟨rfl, rfl, rfl, rfl, rfl, rfl, rfl, rfl, rfl, rfl, rfl, rfl, rfl, rfl, rfl, rfl, rfl, rfl, rfl, rfl, rfl, rfl, rfl,
    rfl, rfl, rfl, rfl, rfl, rfl, fun _ => rfl, rfl, rfl, rfl, rfl, rfl, rfl, fun _ => rfl, tableLaw_reset, noticeLaw_reset,
    meterLaw_reset, queueLaw_reset, fanLaw_reset, bindingLaw_reset⟩

end Sys2Proof.Machine
end

section
/-! PROOF. The states of the stages as the grant queue sees them (R1, R27), and what may happen to them while nothing joins,
leaves the queue or starts. -/

namespace Sys2Proof.Machine

/-! ### The state of a stage -/

/-- R1: the state of a stage of a unit; none for a name without a record. -/
def BoundUnit.stateOf (b : BoundUnit) (st : StageName) : Option StageState := (b.stages.get st).map StageRec.state

/-- R1: the state of a stage of the part; none where no unit is bound or the unit has no such stage. -/
def State.stageState (s : State) (u : Nat) (st : StageName) : Option StageState := (s.unit u).bind fun b => b.stateOf st

/-- Whether a stage of the part is on (R1). -/
def State.stageOn (s : State) (u : Nat) (st : StageName) : Bool := (s.stageState u st).any StageState.isOn

/-- Whether a stage of the part is engaged (R1). -/
def State.stageEngaged (s : State) (u : Nat) (st : StageName) : Bool := (s.stageState u st).any StageState.isEngaged

theorem stageIs_eq (p : StageState → Bool) (b : BoundUnit) (st : StageName) : b.stageIs p st = (b.stateOf st).any p := by
  unfold BoundUnit.stageIs BoundUnit.stateOf
  cases b.stages.get st <;> rfl

theorem stageState_of_unit {u : Nat} {b : BoundUnit} {s : State} (hb : s.unit u = some b) (st : StageName) :
    s.stageState u st = b.stateOf st := by simp [State.stageState, hb]

theorem stageState_unbound {u : Nat} {s : State} (unbound : s.unit u = none) (st : StageName) :
    s.stageState u st = none := by simp [State.stageState, unbound]

/-- The states of the stages are read from the units alone. -/
theorem stageState_congr {s t : State} (units : t.units = s.units) (u : Nat) (st : StageName) :
    t.stageState u st = s.stageState u st := by
  unfold State.stageState State.unit
  rw [units]

theorem stateOf_congr {b c : BoundUnit} (h : c.stages = b.stages) : c.stateOf = b.stateOf := by
  funext st
  rw [BoundUnit.stateOf, BoundUnit.stateOf, h]

/-- The states of a unit's stages once one record has been written. -/
theorem stateOf_of_set {b c : BoundUnit} {st : StageName} {r : StageRec} (h : c.stages = b.stages.set st (some r))
    (x : StageName) : c.stateOf x = if x = st then some r.state else b.stateOf x := by
  by_cases hx : x = st <;> simp [BoundUnit.stateOf, h, Six_get_set, hx]

theorem stageOn_of_unit {u : Nat} {b : BoundUnit} {s : State} (hb : s.unit u = some b) (st : StageName) :
    s.stageOn u st = b.isOn st := by
  rw [State.stageOn, stageState_of_unit hb, BoundUnit.isOn, stageIs_eq]

theorem stageOn_iff {u : Nat} {st : StageName} {s : State} :
    s.stageOn u st = true ↔ ∃ b, s.unit u = some b ∧ b.isOn st = true := by
  cases hb : s.unit u with
  | none => simp [State.stageOn, stageState_unbound hb]
  | some b => simp [stageOn_of_unit hb]

/-- R1: a stage waits exactly when its unit has a record of it in QUEUED. -/
theorem queued_iff {u : Nat} {st : StageName} {s : State} :
    s.stageState u st = some .queued ↔
      ∃ b r, s.unit u = some b ∧ b.stages.get st = some r ∧ r.state = .queued := by
  simp [State.stageState, BoundUnit.stateOf, Option.bind_eq_some_iff, Option.map_eq_some_iff]

theorem isEngaged_iff {a : StageState} : a.isEngaged = true ↔ a = .queued ∨ a.isOn = true := by
  cases a <;> decide

/-- R1: a stage is engaged when it waits or is on. -/
theorem stageEngaged_iff {u : Nat} {st : StageName} {s : State} :
    s.stageEngaged u st = true ↔ s.stageState u st = some .queued ∨ s.stageOn u st = true := by
  unfold State.stageEngaged State.stageOn
  cases s.stageState u st <;> simp [isEngaged_iff]

theorem anyEngaged_eq_false_iff {u : Nat} {b : BoundUnit} {s : State} (hb : s.unit u = some b) :
    b.anyEngaged = false ↔ ∀ st, s.stageEngaged u st = false := by
  simp only [State.stageEngaged, stageState_of_unit hb, BoundUnit.anyEngaged, List.any_eq_false, Bool.not_eq_true,
    stageIs_eq]
  exact ⟨fun h st => h st (mem_allStages st), fun h st _ => h st⟩

/-! ### Moves that leave the queue and the starts alone -/

/-- A stage that neither joins nor leaves the queue and does not start. -/
structure RestfulMove (a c : Option StageState) : Prop where
  queued : c = some .queued ↔ a = some .queued
  on : c.any StageState.isOn = true → a.any StageState.isOn = true

theorem RestfulMove.refl (a : Option StageState) : RestfulMove a a := ⟨Iff.rfl, id⟩

theorem RestfulMove.trans {a c d : Option StageState} (h : RestfulMove a c) (k : RestfulMove c d) : RestfulMove a d :=
  ⟨k.queued.trans h.queued, h.on ∘ k.on⟩

/-- A stage that is on may go anywhere but to the queue. -/
theorem RestfulMove.of_on {a : StageState} {c : Option StageState} (on : a.isOn = true) (out : c ≠ some .queued) :
    RestfulMove (some a) c := by
  refine ⟨iff_of_false out fun waits => ?_, fun _ => on⟩
  cases waits
  cases on

/-- A stage that does not wait may go to any state that is not engaged. -/
theorem RestfulMove.of_idle {a c : Option StageState} (out : a ≠ some .queued) (idle : c.any StageState.isEngaged = false) :
    RestfulMove a c := by
  cases c with
  | none => exact ⟨iff_of_false nofun out, nofun⟩
  | some x =>
    have neither := mt isEngaged_iff.mpr (Bool.eq_false_iff.mp idle)
    exact ⟨iff_of_false (fun h => neither (.inl (Option.some.inj h))) out, fun on => absurd (.inr on) neither⟩

/-- R8: no stop of a stage that is on puts it into the queue. -/
theorem takeStop_ne_queued {r : StageRec} (on : r.state.isOn = true) (d : Descriptor) (now : Word) (cause : StopCause) :
    (r.takeStop d now cause).state ≠ .queued := by
  have here : r.state ≠ .queued := fun waits => by rw [waits] at on; cases on
  unfold StageRec.takeStop
  cases cause.stopClass with
  | deferred =>
    simp only [StageRec.deferredStop]
    split
    · exact nofun
    · split <;> exact nofun
    · split <;> exact here
    · exact here
  | shed =>
    simp only [StageRec.shedStop]
    split
    · exact nofun
    · exact here
  | immediate =>
    simp only [StageRec.immediateStop, on, if_true]
    split
    · split <;> exact nofun
    · exact nofun

/-- R8: a stop takes no stage into the queue or out of it, and starts none. -/
theorem takeStop_move (d : Descriptor) (now : Word) (cause : StopCause) (r : StageRec) :
    RestfulMove (some r.state) (some (r.takeStop d now cause).state) := by
  cases on : r.state.isOn with
  | false =>
    rw [takeStop_off d now cause on]
    exact .refl _
  | true =>
    exact .of_on on fun waits => takeStop_ne_queued on d now cause (Option.some.inj waits)

/-! ### Changes of the part that leave the queue and the starts alone -/

/-- Two states with the same units, queue, stagger timer, limits and run state. -/
structure SameStarts (s t : State) : Prop where
  units : t.units = s.units
  queue : t.arbiter.queue = s.arbiter.queue
  stagger : t.arbiter.stagger = s.arbiter.stagger
  limits : t.meter.limits = s.meter.limits
  run : t.host.run = s.host.run

/-- A change in which no stage joins the queue, leaves it or starts, and which leaves the queue, the stagger timer, the limits
and the run state as they are. -/
structure Restful (s t : State) : Prop where
  form : Table.wf s.units = true → Table.wf t.units = true
  queue : t.arbiter.queue = s.arbiter.queue
  stagger : t.arbiter.stagger = s.arbiter.stagger
  limits : t.meter.limits = s.meter.limits
  run : t.host.run = s.host.run
  move : ∀ u st, RestfulMove (s.stageState u st) (t.stageState u st)

theorem SameStarts.restful {s t : State} (h : SameStarts s t) : Restful s t :=
  ⟨fun form => h.units ▸ form, h.queue, h.stagger, h.limits, h.run, fun u st => by rw [stageState_congr h.units]; exact .refl _⟩

theorem SameStarts.refl (s : State) : SameStarts s s := ⟨rfl, rfl, rfl, rfl, rfl⟩

theorem SameStarts.trans {s m t : State} (h : SameStarts s m) (k : SameStarts m t) : SameStarts s t :=
  ⟨k.units.trans h.units, k.queue.trans h.queue, k.stagger.trans h.stagger, k.limits.trans h.limits, k.run.trans h.run⟩

theorem Restful.refl (s : State) : Restful s s := (SameStarts.refl s).restful

theorem Restful.trans {s m t : State} (h : Restful s m) (k : Restful m t) : Restful s t :=
  ⟨k.form ∘ h.form, k.queue.trans h.queue, k.stagger.trans h.stagger, k.limits.trans h.limits, k.run.trans h.run,
    fun u st => (h.move u st).trans (k.move u st)⟩

theorem Restful.on {s t : State} (h : Restful s t) {u : Nat} {st : StageName} (on : t.stageOn u st = true) :
    s.stageOn u st = true := (h.move u st).on on

theorem Restful.engaged {s t : State} (h : Restful s t) {u : Nat} {st : StageName} (engaged : t.stageEngaged u st = true) :
    s.stageEngaged u st = true :=
  stageEngaged_iff.mpr ((stageEngaged_iff.mp engaged).imp (h.move u st).queued.mp (h.move u st).on)

theorem restful_foldl {α : Type} {f : State → α → State} (each : ∀ s a, Restful s (f s a)) (l : List α) (s : State) :
    Restful s (l.foldl f s) := by
  induction l generalizing s with
  | nil => exact .refl s
  | cons a l ih => exact (each s a).trans (ih _)

/-! ### One unit, every unit -/

theorem wf_putUnit {u : Nat} {b : BoundUnit} {s : State} (hb : s.unit u = some b) (c : BoundUnit)
    (form : Table.wf s.units = true) : Table.wf (s.putUnit u c).units = true :=
  wf_put (lt_and_put_of_find form hb).1 c form

theorem wf_onUnit (u : Nat) (f : BoundUnit → BoundUnit) {s : State} (form : Table.wf s.units = true) :
    Table.wf (s.onUnit u f).units = true := by
  unfold State.onUnit
  split
  · exact form
  · exact wf_putUnit ‹_› _ form

theorem stageState_putUnit (u v : Nat) (st : StageName) (c : BoundUnit) (s : State) :
    (s.putUnit u c).stageState v st = if v = u then c.stateOf st else s.stageState v st := by
  unfold State.stageState
  rw [unit_putUnit]
  split <;> rfl

theorem restful_putUnit {u : Nat} {b c : BoundUnit} {s : State} (hb : s.unit u = some b)
    (move : ∀ st, RestfulMove (b.stateOf st) (c.stateOf st)) : Restful s (s.putUnit u c) := by
  refine ⟨wf_putUnit hb c, rfl, rfl, rfl, rfl, fun v st => ?_⟩
  rw [stageState_putUnit]
  split
  · subst v
    rw [stageState_of_unit hb]
    exact move st
  · exact .refl _

theorem restful_onUnit (u : Nat) {f : BoundUnit → BoundUnit} (s : State)
    (move : ∀ b, s.unit u = some b → ∀ st, RestfulMove (b.stateOf st) ((f b).stateOf st)) : Restful s (s.onUnit u f) := by
  unfold State.onUnit
  split
  · exact .refl s
  · exact restful_putUnit ‹_› (move _ ‹_›)

/-- A change of one unit that leaves its stage records. -/
theorem restful_onUnit_stages (u : Nat) {f : BoundUnit → BoundUnit} (same : ∀ b, (f b).stages = b.stages) (s : State) :
    Restful s (s.onUnit u f) :=
  restful_onUnit u s fun b _ st => by rw [stateOf_congr (same b)]; exact .refl _

theorem restful_update {f : Nat → BoundUnit → BoundUnit} (move : ∀ u b st, RestfulMove (b.stateOf st) ((f u b).stateOf st))
    (s : State) : Restful s (s.setUnits (Table.update f s.units)) := by
  refine ⟨wf_update f, rfl, rfl, rfl, rfl, fun u st => ?_⟩
  unfold State.stageState
  rw [setUnits_unit, find_update]
  cases hb : s.unit u with
  | none => rw [show Table.find u s.units = none from hb]; exact .refl _
  | some b => rw [show Table.find u s.units = some b from hb]; exact move u b st

theorem restful_update_stages {f : Nat → BoundUnit → BoundUnit} (same : ∀ u b, (f u b).stages = b.stages) (s : State) :
    Restful s (s.setUnits (Table.update f s.units)) :=
  restful_update (fun u b st => by rw [stateOf_congr (same u b)]; exact .refl _) s

/-- One stage record written in a state to which its stage may move. -/
theorem restful_set {u : Nat} {st : StageName} {b c : BoundUnit} {r q : StageRec} {s : State} (hb : s.unit u = some b)
    (hr : b.stages.get st = some r) (stages : c.stages = b.stages.set st (some q))
    (move : RestfulMove (some r.state) (some q.state)) : Restful s (s.putUnit u c) := by
  refine restful_putUnit hb fun x => ?_
  rw [stateOf_of_set stages]
  split
  · subst x
    rw [BoundUnit.stateOf, hr]
    exact move
  · exact .refl _

theorem onStage_move {f : StageRec → StageRec} (move : ∀ r, RestfulMove (some r.state) (some (f r).state))
    (st x : StageName) (b : BoundUnit) : RestfulMove (b.stateOf x) ((b.onStage st f).stateOf x) := by
  cases hr : b.stages.get st with
  | none => simp only [BoundUnit.onStage, hr]; exact .refl _
  | some r =>
    have stages : (b.onStage st f).stages = b.stages.set st (some (f r)) := by rw [onStage_of_get hr]
    rw [stateOf_of_set stages]
    split
    · subst x
      rw [BoundUnit.stateOf, hr]
      exact move r
    · exact .refl _

theorem restful_onStage (u : Nat) (st : StageName) {f : StageRec → StageRec}
    (move : ∀ r, RestfulMove (some r.state) (some (f r).state)) (s : State) :
    Restful s (s.onUnit u (BoundUnit.onStage st f)) :=
  restful_onUnit u s fun b _ x => onStage_move move st x b

/-- A unit written with the stage records that it has. -/
theorem restful_putUnit_stages {u : Nat} {b c : BoundUnit} {s : State} (hb : s.unit u = some b)
    (same : c.stages = b.stages) : Restful s (s.putUnit u c) :=
  restful_putUnit hb fun st => by rw [stateOf_congr same]; exact .refl _

theorem sameStarts_raise (kind : NoticeKind) (unit : Option Nat) (stage : Option StageName) (zone : Option Nat)
    (value : Option Int) (s : State) : SameStarts s (s.raise kind unit stage zone value) :=
  ⟨rfl, rfl, rfl, rfl, by simp⟩

/-! ### Stops (R8) -/

theorem restful_takeStop (u : Nat) (st : StageName) (cause : StopCause) (s : State) : Restful s (s.takeStop u st cause) := by
  unfold State.takeStop
  split
  · exact .refl s
  · split
    · exact .refl s
    · rename_i b hb _ r hr
      have stopped := restful_set hb hr (putStage_stages s.host.run cause st _ b) (takeStop_move b.copy s.uptime cause r)
      dsimp only
      split
      · exact stopped.trans (sameStarts_raise ..).restful
      · exact stopped

theorem restful_stopAll (u : Nat) (cause : StopCause) (stages : List StageName) (s : State) :
    Restful s (s.stopAll u cause stages) := restful_foldl (fun s st => restful_takeStop u st cause s) stages s

end Sys2Proof.Machine
end

section
/-! PROOF. The grant queue and the stages in agreement (R27): what withdrawals, grants, joins and the stopping of every stage
keep of it, and which stages they start. -/

namespace Sys2Proof.Machine

/-! ### The agreement (R26, R27) -/

/-- R26, R27: `QueueLaw` without what it says of SHUTDOWN, with the states of stages read as `State.stageState`. -/
structure QueueAgrees (s : State) : Prop where
  units : Table.wf s.units = true
  size : s.arbiter.queue.length ≤ 32
  kinds : ∀ e ∈ s.arbiter.queue, e.compressor = !isHeat e.stage
  single : s.arbiter.queue.Pairwise fun e f => ¬(e.unit = f.unit ∧ e.stage = f.stage)
  waiting : ∀ u st, s.stageState u st = some .queued ↔ ∃ e ∈ s.arbiter.queue, e.unit = u ∧ e.stage = st

theorem QueueLaw.agrees {s : State} (law : QueueLaw s) : QueueAgrees s :=
  ⟨law.units, law.size, law.kinds, law.single, fun u st => queued_iff.trans (law.waiting u st)⟩

theorem QueueLaw.idle {s : State} (law : QueueLaw s) (shutdown : s.host.run = .shutdown) (u : Nat) (st : StageName) :
    s.stageEngaged u st = false := by
  cases hb : s.unit u with
  | none => simp [State.stageEngaged, stageState_unbound hb]
  | some b => exact (anyEngaged_eq_false_iff hb).mp ((law.shutdown shutdown).2 u b hb) st

/-- With no engaged stage nothing waits. -/
theorem QueueAgrees.queue_eq_nil {s : State} (agrees : QueueAgrees s) (idle : ∀ u st, s.stageEngaged u st = false) :
    s.arbiter.queue = [] := by
  refine List.eq_nil_iff_forall_not_mem.mpr fun e he => ?_
  have waits := (agrees.waiting e.unit e.stage).mpr ⟨e, he, rfl, rfl⟩
  exact Bool.eq_false_iff.mp (idle e.unit e.stage) (stageEngaged_iff.mpr (.inl waits))

/-- R136: the law is the agreement, with no engaged stage in SHUTDOWN. -/
theorem QueueAgrees.law {s : State} (agrees : QueueAgrees s)
    (idle : s.host.run = .shutdown → ∀ u st, s.stageEngaged u st = false) : QueueLaw s :=
  ⟨agrees.units, agrees.size, agrees.kinds, agrees.single, fun u st => queued_iff.symm.trans (agrees.waiting u st),
    fun shutdown => ⟨agrees.queue_eq_nil (idle shutdown),
      fun _ _ hb => (anyEngaged_eq_false_iff hb).mpr (idle shutdown _)⟩⟩

/-- R136: a waiting stage is met in NORMAL alone. -/
theorem QueueLaw.normal_of_queued {s : State} (law : QueueLaw s) {u : Nat} {st : StageName}
    (waits : s.stageState u st = some .queued) : s.host.run = .normal := by
  cases run : s.host.run with
  | normal => rfl
  | shutdown => exact absurd (stageEngaged_iff.mpr (.inl waits)) (Bool.eq_false_iff.mp (law.idle run u st))

theorem QueueAgrees.isFor_iff {s : State} (agrees : QueueAgrees s) (u : Nat) (st : StageName) :
    s.arbiter.queue.any (Entry.isFor u st) = true ↔ s.stageState u st = some .queued := by
  rw [agrees.waiting, List.any_eq_true]
  simp [Entry.isFor]

/-! ### Changes that keep the agreement and start nothing -/

/-- A change that keeps the agreement, engages and starts no stage, and leaves the stagger timer, the limits and the run state. -/
structure Keeping (s t : State) : Prop where
  agrees : QueueAgrees s → QueueAgrees t
  engaged : ∀ u st, t.stageEngaged u st = true → s.stageEngaged u st = true
  on : ∀ u st, t.stageOn u st = true → s.stageOn u st = true
  stagger : t.arbiter.stagger = s.arbiter.stagger
  limits : t.meter.limits = s.meter.limits
  run : t.host.run = s.host.run

theorem Keeping.refl (s : State) : Keeping s s := ⟨id, fun _ _ => id, fun _ _ => id, rfl, rfl, rfl⟩

theorem Keeping.trans {s m t : State} (h : Keeping s m) (k : Keeping m t) : Keeping s t :=
  ⟨k.agrees ∘ h.agrees, fun u st => h.engaged u st ∘ k.engaged u st, fun u st => h.on u st ∘ k.on u st,
    k.stagger.trans h.stagger, k.limits.trans h.limits, k.run.trans h.run⟩

theorem Keeping.idle {s t : State} (h : Keeping s t) (idle : ∀ u st, s.stageEngaged u st = false) (u : Nat)
    (st : StageName) : t.stageEngaged u st = false :=
  Bool.eq_false_iff.mpr fun engaged => Bool.eq_false_iff.mp (idle u st) (h.engaged u st engaged)

theorem Keeping.law {s t : State} (h : Keeping s t) (law : QueueLaw s) : QueueLaw t :=
  (h.agrees law.agrees).law fun shutdown => h.idle (law.idle (h.run ▸ shutdown))

theorem Restful.keeping {s t : State} (h : Restful s t) : Keeping s t where
  agrees agrees :=
    ⟨h.form agrees.units, h.queue ▸ agrees.size, h.queue ▸ agrees.kinds, h.queue ▸ agrees.single,
      fun u st => by rw [(h.move u st).queued, h.queue, agrees.waiting]⟩
  engaged _ _ := h.engaged
  on _ _ := h.on
  stagger := h.stagger
  limits := h.limits
  run := h.run

theorem SameStarts.keeping {s t : State} (h : SameStarts s t) : Keeping s t := h.restful.keeping

theorem keeping_foldl {α : Type} {f : State → α → State} (each : ∀ s a, Keeping s (f s a)) (l : List α) (s : State) :
    Keeping s (l.foldl f s) := by
  induction l generalizing s with
  | nil => exact .refl s
  | cons a l ih => exact (each s a).trans (ih _)

/-! ### A stage that leaves the queue (R4, R5) -/

/-- A waiting stage that leaves QUEUED together with its entry keeps the agreement. -/
theorem QueueAgrees.leave {s t : State} (agrees : QueueAgrees s) {u : Nat} {st : StageName} {q : StageState}
    (out : q ≠ .queued) (form : Table.wf t.units = true)
    (queue : t.arbiter.queue = s.arbiter.queue.filter fun e => !e.isFor u st)
    (states : ∀ v x, t.stageState v x = if v = u ∧ x = st then some q else s.stageState v x) : QueueAgrees t where
  units := form
  size := queue ▸ (List.length_filter_le _ _).trans agrees.size
  kinds e he := agrees.kinds e (List.mem_of_mem_filter (queue ▸ he))
  single := queue ▸ agrees.single.filter _
  waiting v x := by
    rw [states, queue]
    split
    · rename_i here
      obtain ⟨rfl, rfl⟩ := here
      refine iff_of_false (fun same => out (Option.some.inj same)) fun ⟨e, he, same⟩ => ?_
      simpa [Entry.isFor, same] using List.of_mem_filter he
    · rename_i elsewhere
      rw [agrees.waiting]
      refine exists_congr fun e => and_congr_left fun ⟨hu, hst⟩ => ?_
      subst hu hst
      have kept : (!e.isFor u st) = true := by
        rw [Bool.not_eq_true', Bool.eq_false_iff]
        simpa [Entry.isFor] using elsewhere
      rw [List.mem_filter, and_iff_left kept]

theorem stageState_onStage (u v : Nat) (st x : StageName) (f : StageRec → StageRec) (s : State) :
    (s.onUnit u (BoundUnit.onStage st f)).stageState v x =
      if v = u ∧ x = st then ((s.unit u).bind fun b => b.stages.get st).map fun r => (f r).state
      else s.stageState v x := by
  unfold State.stageState
  rw [unit_onUnit]
  by_cases hv : v = u
  · subst hv
    cases hb : s.unit v with
    | none => simp
    | some b =>
      cases hr : b.stages.get st with
      | none => by_cases hx : x = st <;> simp [BoundUnit.onStage, BoundUnit.stateOf, hr, hx]
      | some r => simp [onStage_of_get hr, BoundUnit.stateOf, Six_get_set, hr]; split <;> simp_all
  · simp [hv]

theorem withdraw_record (r : StageRec) : r.withdraw.state = if r.state = .queued then .off else r.state := by
  unfold StageRec.withdraw
  split <;> rfl

/-- R4, R30: the state of a stage after a withdrawal of a stage that waits. -/
theorem withdraw_stageState {u : Nat} {st : StageName} {s : State} (entry : s.arbiter.queue.any (Entry.isFor u st) = true)
    (v : Nat) (x : StageName) :
    (s.withdraw u st).stageState v x =
      if v = u ∧ x = st then (s.stageState u st).map fun a => if a = .queued then .off else a else s.stageState v x := by
  have removed (v x) : (s.removeEntry u st).stageState v x = s.stageState v x := rfl
  rw [State.withdraw, if_pos entry, stageState_onStage, removed]
  refine if_congr Iff.rfl ?_ rfl
  simp only [State.stageState, BoundUnit.stateOf, withdraw_record, show (s.removeEntry u st).unit u = s.unit u from rfl]
  cases s.unit u with
  | none => rfl
  | some b => simp only [Option.bind_some, Option.map_map]; rfl

theorem wf_withdraw (u : Nat) (st : StageName) {s : State} (form : Table.wf s.units = true) :
    Table.wf (s.withdraw u st).units = true := by
  unfold State.withdraw
  split
  · exact wf_onUnit u _ form
  · exact form

theorem keeping_withdraw (u : Nat) (st : StageName) (s : State) : Keeping s (s.withdraw u st) := by
  by_cases entry : s.arbiter.queue.any (Entry.isFor u st) = true
  · have states := withdraw_stageState entry
    refine ⟨fun agrees => ?_, fun v x => ?_, fun v x => ?_, by rw [withdraw_arbiter], by rw [withdraw_frame],
      by rw [withdraw_frame]⟩
    · refine agrees.leave (u := u) (st := st) (q := .off) nofun (wf_withdraw u st agrees.units) (by rw [withdraw_arbiter])
        fun v x => ?_
      rw [states, (agrees.isFor_iff u st).mp entry]
      rfl
    · unfold State.stageEngaged
      rw [states]
      split
      · rename_i here
        obtain ⟨rfl, rfl⟩ := here
        cases s.stageState v x with
        | none => exact id
        | some a => cases a <;> simp [StageState.isEngaged]
      · exact id
    · unfold State.stageOn
      rw [states]
      split
      · rename_i here
        obtain ⟨rfl, rfl⟩ := here
        cases s.stageState v x with
        | none => exact id
        | some a => cases a <;> simp [StageState.isOn]
      · exact id
  · rw [State.withdraw, if_neg entry]
    exact .refl s

theorem keeping_withdrawAll (es : List Entry) (s : State) : Keeping s (s.withdrawAll es) :=
  keeping_foldl (f := fun s (e : Entry) => s.withdraw e.unit e.stage) (fun s e => keeping_withdraw e.unit e.stage s) es s

/-! ### A grant attempt (R36 to R39) -/

/-- No compressor stage starts. -/
def NoStart (s t : State) : Prop :=
  ∀ u st, isHeat st = false → t.stageOn u st = true → s.stageOn u st = true

/-- At most one compressor stage starts. -/
def OneStart (s t : State) : Prop :=
  ∃ u st, ∀ v x, isHeat x = false → t.stageOn v x = true → s.stageOn v x = true ∨ (v = u ∧ x = st)

/-- R34, R36, R37: a change that keeps the law of the queue and the limits, and starts no compressor stage, or one while the
stagger timer is stopped, which it starts. -/
structure Spaced (s t : State) : Prop where
  law : QueueLaw t
  limits : t.meter.limits = s.meter.limits
  starts : (t.arbiter.stagger = s.arbiter.stagger ∧ NoStart s t) ∨
    (s.arbiter.stagger = .stopped ∧ t.arbiter.stagger = .running s.meter.limits.spacing ∧ OneStart s t)

theorem Keeping.noStart {s t : State} (h : Keeping s t) : NoStart s t := fun u st _ => h.on u st

theorem NoStart.trans {s m t : State} (h : NoStart s m) (k : NoStart m t) : NoStart s t :=
  fun u st compressor => h u st compressor ∘ k u st compressor

theorem OneStart.after {s m t : State} (h : NoStart s m) (k : OneStart m t) : OneStart s t := by
  obtain ⟨u, st, only⟩ := k
  exact ⟨u, st, fun v x compressor on => (only v x compressor on).imp (h v x compressor) id⟩

theorem OneStart.before {s m t : State} (h : OneStart s m) (k : NoStart m t) : OneStart s t := by
  obtain ⟨u, st, only⟩ := h
  exact ⟨u, st, fun v x compressor on => only v x compressor (k v x compressor on)⟩

theorem Keeping.spaced {s t : State} (h : Keeping s t) (law : QueueLaw s) : Spaced s t :=
  ⟨h.law law, h.limits, .inl ⟨h.stagger, h.noStart⟩⟩

theorem Spaced.after {s m t : State} (k : Spaced m t) (stagger : m.arbiter.stagger = s.arbiter.stagger)
    (limits : m.meter.limits = s.meter.limits) (starts : NoStart s m) : Spaced s t := by
  refine ⟨k.law, k.limits.trans limits, k.starts.imp ?_ ?_⟩
  · exact fun ⟨timer, rest⟩ => ⟨timer.trans stagger, starts.trans rest⟩
  · exact fun ⟨stopped, runs, one⟩ => ⟨stagger ▸ stopped, limits ▸ runs, one.after starts⟩

theorem Spaced.before {s m t : State} (h : Spaced s m) (k : Keeping m t) : Spaced s t := by
  refine ⟨k.law h.law, k.limits.trans h.limits, h.starts.imp ?_ ?_⟩
  · exact fun ⟨timer, rest⟩ => ⟨k.stagger.trans timer, rest.trans k.noStart⟩
  · exact fun ⟨stopped, runs, one⟩ => ⟨stopped, k.stagger.trans runs, one.before k.noStart⟩

theorem Spaced.behind {s m t : State} (h : Keeping s m) (k : Spaced m t) : Spaced s t :=
  k.after h.stagger h.limits h.noStart

theorem QueueLaw.entry_bound {s : State} (law : QueueLaw s) {e : Entry} (he : e ∈ s.arbiter.queue) :
    ∃ b r, s.unit e.unit = some b ∧ b.stages.get e.stage = some r ∧ r.state = .queued :=
  (law.waiting e.unit e.stage).mpr ⟨e, he, rfl, rfl⟩

theorem wf_grant (e : Entry) {s : State} (form : Table.wf s.units = true) : Table.wf (s.grant e).units = true := by
  have removed := wf_onUnit e.unit (BoundUnit.grantStage s.uptime e.stage) (s := s.removeEntry e.unit e.stage) form
  unfold State.grant
  dsimp only
  split <;> exact removed

theorem wf_attempt (cause : AttemptCause) {s : State} (form : Table.wf s.units = true) :
    Table.wf (s.attempt cause).units = true := by
  unfold State.attempt
  dsimp only
  split
  · exact form
  · split
    · exact form
    · exact wf_grant _ form

/-- R36 to R39: an attempt writes its record alone, or moves one waiting stage to PROVING. -/
theorem spaced_attempt (cause : AttemptCause) {s : State} (law : QueueLaw s) : Spaced s (s.attempt cause) := by
  have bound : ∀ e ∈ s.arbiter.queue, s.unit e.unit ≠ none := fun e he none => by
    obtain ⟨b, r, hb, _⟩ := law.entry_bound he
    rw [none] at hb
    cases hb
  have form := wf_attempt cause law.units
  obtain ⟨skipped, firstSkip, _, _, _, ⟨_, recorded⟩ | ⟨e, behind, parts, ⟨c, hc, _, _, _, spaced⟩, result⟩⟩ :=
    attempt_result cause bound
  · rw [recorded]
    refine Keeping.spaced (SameStarts.keeping ?_) law
    exact ⟨rfl, rfl, rfl, rfl, rfl⟩
  split at result
  · rw [result]
    refine Keeping.spaced (SameStarts.keeping ?_) law
    exact ⟨rfl, rfl, rfl, rfl, rfl⟩
  have he : e ∈ s.arbiter.queue := by simp [parts]
  obtain ⟨b, r, hb, hr, queued⟩ := law.entry_bound he
  obtain ⟨granted, others, record⟩ := result
  obtain ⟨b', hb', stages, _, _⟩ := record b r hb hr queued
  generalize s.attempt cause = t at *
  have states (v : Nat) (x : StageName) : t.stageState v x =
      if v = e.unit ∧ x = e.stage then some .proving else s.stageState v x := by
    by_cases hv : v = e.unit
    · subst hv
      rw [stageState_of_unit hb', stateOf_of_set stages, stageState_of_unit hb]
      simp
    · simp [State.stageState, others v hv, hv]
  have waits : s.stageState e.unit e.stage = some .queued := queued_iff.mpr ⟨b, r, hb, hr, queued⟩
  have agrees : QueueAgrees t := law.agrees.leave (q := .proving) nofun form (by rw [granted]; rfl) states
  have run : t.host.run = .normal := by rw [granted]; exact law.normal_of_queued waits
  have on (v : Nat) (x : StageName) (started : t.stageOn v x = true) :
      s.stageOn v x = true ∨ (v = e.unit ∧ x = e.stage) := by
    unfold State.stageOn at started
    rw [states] at started
    split at started
    · exact .inr ‹_›
    · exact .inl started
  refine ⟨agrees.law fun shutdown => (nomatch run.symm.trans shutdown), by rw [granted], ?_⟩
  cases kind : e.compressor with
  | true => exact .inr ⟨spaced kind, by rw [granted, kind]; rfl, e.unit, e.stage, fun v x _ => on v x⟩
  | false =>
    have heat : isHeat e.stage = true := by simpa [kind] using law.kinds e he
    refine .inl ⟨by rw [granted, kind]; rfl, fun v x compressor started => (on v x started).resolve_right ?_⟩
    rintro ⟨rfl, rfl⟩
    exact Bool.false_ne_true (compressor.symm.trans heat)

/-! ### A join (R3, R28) -/

theorem placeEntry_perm (e : Entry) (l : List Entry) : (placeEntry e l).Perm (e :: l) := by
  induction l with
  | nil => exact .refl _
  | cons a l ih =>
    unfold placeEntry
    split
    · exact .refl _
    · exact (ih.cons a).trans (.swap e a l)

/-- A stage out of the queue that takes QUEUED together with its entry keeps the agreement. -/
theorem QueueAgrees.join {s t : State} (agrees : QueueAgrees s) {e : Entry} (form : Table.wf t.units = true)
    (room : s.arbiter.queue.length < 32) (out : s.stageState e.unit e.stage ≠ some .queued)
    (kind : e.compressor = !isHeat e.stage) (queue : t.arbiter.queue.Perm (e :: s.arbiter.queue))
    (states : ∀ v x, t.stageState v x = if v = e.unit ∧ x = e.stage then some .queued else s.stageState v x) :
    QueueAgrees t where
  units := form
  size := by rw [queue.length_eq]; exact room
  kinds f hf := by
    rcases List.mem_cons.mp (queue.mem_iff.mp hf) with rfl | hf
    · exact kind
    · exact agrees.kinds f hf
  single := by
    refine (queue.pairwise_iff fun hne h => hne ⟨h.1.symm, h.2.symm⟩).mpr (List.pairwise_cons.mpr ⟨fun f hf same => ?_,
      agrees.single⟩)
    exact out ((agrees.waiting _ _).mpr ⟨f, hf, same.1.symm, same.2.symm⟩)
  waiting v x := by
    simp only [states, queue.mem_iff, List.mem_cons, exists_eq_or_imp]
    split
    · rename_i here
      simp [here.1, here.2]
    · rename_i elsewhere
      rw [agrees.waiting]
      exact ⟨.inr, fun h => h.resolve_left fun same => elsewhere ⟨same.1.symm, same.2.symm⟩⟩

/-- R26: the entry with which a stage joins. -/
def State.entryOf (u : Nat) (st : StageName) (b : BoundUnit) (s : State) : Entry :=
  { unit := u, stage := st, zone := b.zone, priority := s.zonePriority b.zone, load := b.copy.loads.get st,
    compressor := !isHeat st, joinUptime := s.uptime, joinRank := s.arbiter.joinRank }

/-- R3, R28: the state after a join and before its attempt. -/
def State.joined (u : Nat) (st : StageName) (b : BoundUnit) (r : StageRec) (s : State) : State :=
  (s.putUnit u (b.withStage st { r with state := .queued })).setArbiter
    { s.arbiter with
      queue := placeEntry (s.entryOf u st b) s.arbiter.queue, joinRank := s.arbiter.joinRank + 1#32 }

theorem request_eq {u : Nat} {st : StageName} {b : BoundUnit} {r : StageRec} {s : State} (hb : s.unit u = some b)
    (hr : b.stages.get st = some r) :
    s.request u st =
      if r.state = .off ∧ s.arbiter.queue.length < 32 then (s.joined u st b r).attempt .join else s := by
  simp only [State.request, hb, hr]
  rfl

theorem joined_stageState {u : Nat} {st : StageName} {b : BoundUnit} {r : StageRec} {s : State} (hb : s.unit u = some b)
    (v : Nat) (x : StageName) :
    (s.joined u st b r).stageState v x = if v = u ∧ x = st then some .queued else s.stageState v x := by
  have put : (s.joined u st b r).stageState v x =
      if v = u then (b.withStage st { r with state := .queued }).stateOf x else s.stageState v x :=
    stageState_putUnit u v x _ s
  rw [put, stateOf_of_set (b := b) rfl]
  by_cases hv : v = u
  · subst hv
    rw [stageState_of_unit hb]
    simp
  · simp [hv]

/-- R3, R28: in NORMAL a request is a join followed by an attempt, and keeps the law with at most one start. -/
theorem spaced_request (u : Nat) (st : StageName) {s : State} (law : QueueLaw s) (normal : s.host.run = .normal) :
    Spaced s (s.request u st) := by
  have unchanged : Spaced s s := (Keeping.refl s).spaced law
  cases hb : s.unit u with
  | none => simpa only [State.request, hb] using unchanged
  | some b =>
    cases hr : b.stages.get st with
    | none => simpa only [State.request, hb, hr] using unchanged
    | some r =>
      rw [request_eq hb hr]
      split
      · rename_i may
        obtain ⟨off, room⟩ := may
        have out : s.stageState u st ≠ some .queued := by
          rw [stageState_of_unit hb, BoundUnit.stateOf, hr, Option.map_some, off]
          exact nofun
        have agrees : QueueAgrees (s.joined u st b r) :=
          law.agrees.join (e := s.entryOf u st b) (wf_putUnit hb _ law.units) room out rfl (placeEntry_perm _ _)
            (joined_stageState hb)
        have starts : NoStart s (s.joined u st b r) := fun v x _ on => by
          unfold State.stageOn at on
          rw [joined_stageState hb] at on
          split at on
          · cases on
          · exact on
        exact (spaced_attempt .join (agrees.law fun shutdown => (nomatch normal.symm.trans shutdown))).after rfl rfl starts
      · exact unchanged

/-! ### Stopping every stage (R23, R24) -/

/-- R12: an immediate stop leaves no stage on. -/
theorem immediateStop_off (d : Descriptor) (now : Word) (cause : StopCause) (r : StageRec) :
    (r.immediateStop d now cause).state.isOn = false := by
  unfold StageRec.immediateStop
  split
  · dsimp only
    split
    · split <;> rfl
    · rfl
  · exact Bool.eq_false_iff.mpr ‹_›

theorem takeStop_stageOn {u : Nat} {st : StageName} {cause : StopCause} (immediate : cause.stopClass = .immediate)
    (s : State) : (s.takeStop u st cause).stageOn u st = false := by
  unfold State.stageOn
  cases hb : s.unit u with
  | none => simp [State.takeStop, hb, stageState_unbound hb]
  | some b =>
    cases hr : b.stages.get st with
    | none => simp [State.takeStop, hb, hr, stageState_of_unit hb, BoundUnit.stateOf]
    | some r =>
      rw [stageState_of_unit (takeStop_unit cause hb hr), stateOf_of_set (putStage_stages ..), if_pos rfl,
        StageRec.takeStop, immediate]
      exact immediateStop_off ..

/-- R12: what is on after immediate stops was on before, and was not among the stages stopped. -/
theorem stopAll_on {u : Nat} {cause : StopCause} (immediate : cause.stopClass = .immediate) {stages : List StageName}
    {s : State} {v : Nat} {x : StageName} (on : (s.stopAll u cause stages).stageOn v x = true) :
    s.stageOn v x = true ∧ ¬(v = u ∧ x ∈ stages) := by
  induction stages generalizing s with
  | nil => exact ⟨on, nofun⟩
  | cons st rest ih =>
    obtain ⟨still, apart⟩ := ih (s := s.takeStop u st cause) on
    refine ⟨(restful_takeStop u st cause s).on still, ?_⟩
    rintro ⟨rfl, member⟩
    rcases List.mem_cons.mp member with rfl | member
    · exact Bool.false_ne_true ((takeStop_stageOn immediate s).symm.trans still)
    · exact apart ⟨rfl, member⟩

/-- R23, R24: of stages that are on, those of the listed units are stopped. -/
theorem stopListed_on {cause : StopCause} (immediate : cause.stopClass = .immediate) {units : Table BoundUnit} {s : State}
    {v : Nat} {x : StageName}
    (on : (units.foldl (fun s p => s.stopAll p.1 cause p.2.onStages) s).stageOn v x = true) :
    s.stageOn v x = true ∧ ∀ p ∈ units, ¬(v = p.1 ∧ x ∈ p.2.onStages) := by
  induction units generalizing s with
  | nil => exact ⟨on, List.forall_mem_nil _⟩
  | cons p rest ih =>
    obtain ⟨still, apart⟩ := ih (s := s.stopAll p.1 cause p.2.onStages) on
    obtain ⟨before, other⟩ := stopAll_on immediate still
    exact ⟨before, List.forall_mem_cons.mpr ⟨other, apart⟩⟩

theorem withdrawAll_queue (es : List Entry) (s : State) :
    (s.withdrawAll es).arbiter.queue = s.arbiter.queue.filter fun e => es.all fun f => !e.isFor f.unit f.stage := by
  induction es generalizing s with
  | nil => simp [State.withdrawAll]
  | cons f rest ih =>
    have first : s.withdrawAll (f :: rest) = (s.withdraw f.unit f.stage).withdrawAll rest := rfl
    rw [first, ih, withdraw_arbiter]
    simp [List.filter_filter, Bool.and_comm]

theorem withdrawAll_self (s : State) : (s.withdrawAll s.arbiter.queue).arbiter.queue = [] := by
  rw [withdrawAll_queue, List.filter_eq_nil_iff]
  intro e he all
  simpa [Entry.isFor] using List.all_eq_true.mp all e he

theorem keeping_stopEverything (cause : StopCause) (s : State) : Keeping s (s.stopEverything cause) :=
  (keeping_withdrawAll s.arbiter.queue s).trans
    (restful_foldl (fun s (p : Nat × BoundUnit) => restful_stopAll p.1 cause p.2.onStages s) _ _).keeping

/-- R23, R24: with the queue and the stages in agreement, stopping everything at once leaves no stage engaged. -/
theorem stopEverything_idle {cause : StopCause} (immediate : cause.stopClass = .immediate) {s : State}
    (agrees : QueueAgrees s) (u : Nat) (st : StageName) : (s.stopEverything cause).stageEngaged u st = false := by
  have withdrawn := (keeping_withdrawAll s.arbiter.queue s).agrees agrees
  have stops := restful_foldl (fun s (p : Nat × BoundUnit) => restful_stopAll p.1 cause p.2.onStages s)
    (s.withdrawAll s.arbiter.queue).units (s.withdrawAll s.arbiter.queue)
  refine Bool.eq_false_iff.mpr fun engaged => ?_
  rcases stageEngaged_iff.mp engaged with waits | on
  · obtain ⟨e, he, _⟩ := (withdrawn.waiting u st).mp ((stops.move u st).queued.mp waits)
    rw [withdrawAll_self] at he
    cases he
  · obtain ⟨before, apart⟩ := stopListed_on immediate on
    obtain ⟨b, hb, runs⟩ := stageOn_iff.mp before
    have listed := (mem_iff_find withdrawn.units u b).mpr ⟨(lt_and_put_of_find withdrawn.units hb).1, hb⟩
    exact apart (u, b) listed ⟨rfl, List.mem_filter.mpr ⟨mem_allStages st, runs⟩⟩

end Sys2Proof.Machine
end

section
/-! PROOF. What each block's events and requests keep of the grant queue, and that they start no stage. -/

namespace Sys2Proof.Machine

/-! ### Zones (chapter 4) -/

theorem sameStarts_onZone (z : Nat) (f : Zone → Zone) (s : State) : SameStarts s (s.onZone z f) := by
  rw [onZone_frame]
  exact ⟨rfl, rfl, rfl, rfl, rfl⟩

theorem sameStarts_putZone (z : Nat) (r : Zone) (s : State) : SameStarts s (s.putZone z r) := ⟨rfl, rfl, rfl, rfl, rfl⟩

theorem sameStarts_temperatureStep (z : Nat) (s : State) : SameStarts s (s.temperatureStep z) := by
  unfold State.temperatureStep
  split
  · exact .refl s
  · split
    · exact sameStarts_putZone ..
    · split
      · exact (sameStarts_putZone ..).trans (sameStarts_raise ..)
      · exact .refl s

theorem keeping_modeStep (z : Nat) (s : State) : Keeping s (s.modeStep z) := by
  unfold State.modeStep
  split
  · exact .refl s
  · split
    · split
      · exact (sameStarts_putZone ..).keeping
      · exact .refl s
    · split
      · exact (sameStarts_putZone ..).keeping.trans (keeping_withdrawAll ..)
      · exact .refl s

/-- R11: a reclaim moves a stage from HOLD to RUN, so none starts. -/
theorem reclaim_move (r : StageRec) : RestfulMove (some r.state) (some r.reclaim.state) := by
  unfold StageRec.reclaim
  split
  · rename_i held
    exact .of_on (by rw [held.1]; rfl) nofun
  · exact .refl _

theorem restful_reclaimStep (z short : Nat) (s : State) : Restful s (s.reclaimStep z short) := by
  unfold State.reclaimStep
  split
  · exact .refl s
  · exact (sameStarts_putZone ..).restful.trans
      (restful_foldl (fun s (p : Nat × StageName) => restful_onStage p.1 p.2 reclaim_move s) _ _)

theorem spaced_requestStep (z : Nat) {s : State} (law : QueueLaw s) (normal : s.host.run = .normal) :
    Spaced s (s.requestStep z) := by
  have unchanged : Spaced s s := (Keeping.refl s).spaced law
  unfold State.requestStep
  split
  · exact unchanged
  · split
    · split
      · exact unchanged
      · split
        · exact (spaced_request _ _ law normal).before (sameStarts_putZone ..).keeping
        · exact unchanged
    · exact unchanged

theorem keeping_giveUpStep (z : Nat) (s : State) : Keeping s (s.giveUpStep z) := by
  unfold State.giveUpStep
  split
  · exact .refl s
  · split
    · exact keeping_withdraw ..
    · split
      · exact .refl s
      · rename_i c _
        have stopped := (restful_takeStop c.unit c.stage .satisfied s).keeping
        dsimp only
        split
        · exact stopped.trans (sameStarts_putZone ..).keeping
        · exact stopped

/-- R82 to R85: of all of the matching only the request can start a stage. -/
theorem spaced_matchStep (z : Nat) {s : State} (law : QueueLaw s) (normal : s.host.run = .normal) :
    Spaced s (s.matchStep z) := by
  have unchanged : Spaced s s := (Keeping.refl s).spaced law
  unfold State.matchStep
  split
  · exact unchanged
  rename_i r _
  split
  · exact unchanged
  dsimp only
  split
  · have reclaimed := (restful_reclaimStep z (r.wanted - s.activeCount r) s).keeping
    split
    · exact .behind reclaimed (spaced_requestStep z (reclaimed.law law) (reclaimed.run.trans normal))
    · exact reclaimed.spaced law
  · split
    · exact (keeping_giveUpStep z s).spaced law
    · exact unchanged

theorem takeTargets_stages (r : Zone) (b : BoundUnit) : (b.takeTargets r).stages = b.stages := by
  unfold BoundUnit.takeTargets
  rw [rederiveGas_frame]

theorem restful_channelStep (z : Nat) (s : State) : Restful s (s.channelStep z) := by
  unfold State.channelStep
  split
  · exact .refl s
  · exact restful_foldl (fun s u => restful_onUnit_stages u (takeTargets_stages _) s) _ s

/-- R71: an evaluation starts at most one stage, by its request. -/
theorem spaced_evaluate (z : Nat) {s : State} (law : QueueLaw s) : Spaced s (s.evaluate z) := by
  have cell : SameStarts s (s.refreshCell z) := by
    unfold State.refreshCell
    split
    · exact .refl s
    · exact sameStarts_onZone ..
  have read : Keeping s (((s.refreshCell z).temperatureStep z).onZone z Zone.withSetpoints) :=
    ((cell.trans (sameStarts_temperatureStep ..)).trans (sameStarts_onZone ..)).keeping
  unfold State.evaluate
  generalize ((s.refreshCell z).temperatureStep z).onZone z Zone.withSetpoints = m at read ⊢
  dsimp only
  split
  · rename_i normal
    have levelled : Keeping s ((m.modeStep z).levelStep z) :=
      (read.trans (keeping_modeStep ..)).trans (sameStarts_onZone ..).keeping
    have run := levelled.run.trans (read.run.symm.trans normal)
    exact (Spaced.behind levelled (spaced_matchStep z (levelled.law law) run)).before (restful_channelStep ..).keeping
  · exact read.spaced law

/-! ### The demand meter (chapter 3) -/

theorem sameStarts_closeInterval (ceiling : Nat) (atClockSet : Bool) (s : State) :
    SameStarts s (s.closeInterval ceiling atClockSet) := by
  unfold State.closeInterval
  dsimp only
  split
  · exact ⟨rfl, rfl, rfl, rfl, by simp [State.openInterval]⟩
  · exact ⟨rfl, rfl, rfl, rfl, rfl⟩

theorem sameStarts_recordOverrun (load : Nat) (s : State) : SameStarts s (s.recordOverrun load) := by
  unfold State.recordOverrun
  dsimp only
  split
  · exact ⟨rfl, rfl, rfl, rfl, rfl⟩
  · exact ⟨rfl, rfl, rfl, rfl, by simp⟩

/-- R57: the state once a second of load has been added to the interval. -/
def State.metered (s : State) : State := s.setMeter { s.meter with interval := s.meter.interval.add s.presentLoad }

theorem execAccumulationEvent_eq (s : State) : exec .accumulationEvent s = .next
    (if s.metered.meter.interval.elapsed = s.metered.meter.interval.effective then
      s.metered.closeInterval s.metered.ceiling false
    else if s.metered.shedNeeded s.presentLoad then
      match s.metered.shedChoice with
      | some c => s.metered.shed c
      | none => (s.metered.recordOverrun s.presentLoad).attempt .meter
    else s.metered.attempt .meter) := rfl

/-- R61: a shed is a stop. -/
theorem keeping_shed (c : ShedCandidate) (s : State) : Keeping s (s.shed c) :=
  (restful_takeStop c.unit c.stage .shed s).keeping.trans (SameStarts.keeping ⟨rfl, rfl, rfl, rfl, rfl⟩)

/-- R57, R58: an accumulation event starts at most one stage, by its grant attempt. -/
theorem spaced_accumulationEvent {s t : State} (law : QueueLaw s) (run : exec .accumulationEvent s = .next t) :
    Spaced s t := by
  have added : Keeping s s.metered := SameStarts.keeping ⟨rfl, rfl, rfl, rfl, rfl⟩
  rw [execAccumulationEvent_eq] at run
  cases run
  split
  · exact (added.trans (sameStarts_closeInterval ..).keeping).spaced law
  split
  · split
    · exact (added.trans (keeping_shed ..)).spaced law
    · have overrun := added.trans (sameStarts_recordOverrun s.presentLoad s.metered).keeping
      exact .behind overrun (spaced_attempt .meter (overrun.law law))
  · exact .behind added (spaced_attempt .meter (added.law law))

end Sys2Proof.Machine
end

section
/-! PROOF. The grant queue under the roof bus, the unit table and the stage controller's expiries (R27). -/

namespace Sys2Proof.Machine

/-! ### Fallback (R162) -/

theorem restful_takeFallback (u : Nat) (s : State) : Restful s (s.takeFallback u) := by
  unfold State.takeFallback
  split
  · exact .refl s
  · split
    · exact (restful_stopAll u .unitLost _ s).trans (restful_onUnit_stages u (f := BoundUnit.fallBack) (fun _ => rfl) _)
    · exact .refl s

/-! ### The contents of a reply (R135, R164) -/

/-- R6: proof moves a stage from PROVING to RUN, so none starts. -/
theorem prove_move (r : StageRec) : RestfulMove (some r.state) (some r.prove.state) := by
  unfold StageRec.prove
  split
  · rename_i proving
    exact .of_on (by rw [proving]; rfl) nofun
  · exact .refl _

theorem restful_takeProof (u : Nat) (st : StageName) (s : State) : Restful s (s.takeProof u st) := by
  unfold State.takeProof
  split
  · exact .refl s
  · rename_i b hb
    split
    · exact restful_putUnit hb fun x => onStage_move prove_move st x b
    · split
      · exact restful_takeStop ..
      · exact .refl s

theorem restful_softLimitAction (u : Nat) (heat : Bool) (s : State) : Restful s (s.softLimitAction u heat) := by
  unfold State.softLimitAction
  split
  · exact .refl s
  · rename_i b hb
    split
    · have held : Restful s (s.putUnit u b.startHoldOff) := restful_putUnit_stages hb (by rfl)
      dsimp only
      split
      · exact held.trans (restful_onUnit_stages u (f := BoundUnit.backOffGas) (fun _ => rfl) _)
      · split
        · exact held.trans (restful_takeStop ..)
        · exact held
    · exact .refl s

/-- R135: no content of a reply starts a stage or reaches the queue. -/
theorem restful_takeEvent (u : Nat) (e : ReplyEvent) (s : State) : Restful s (s.takeEvent u e) := by
  cases e with
  | proof st => exact restful_takeProof u st s
  | trip st => exact restful_takeStop ..
  | flame st => exact restful_takeStop ..
  | fan st => exact restful_takeStop ..
  | soft heat => exact restful_softLimitAction u heat s

theorem fanFailStop_stages (b : BoundUnit) : b.fanFailStop.stages = b.stages := by
  unfold BoundUnit.fanFailStop
  split <;> rfl

theorem sameStarts_useFree (n : Nat) (s : State) : SameStarts s (s.useFree n) := ⟨rfl, rfl, rfl, rfl, rfl⟩

theorem restful_rebuildUnexpected (u : Nat) (s : State) : Restful s (s.rebuildUnexpected u) := by
  unfold State.rebuildUnexpected
  split
  · exact .refl s
  · rename_i b hb
    dsimp only
    exact ((restful_putUnit_stages hb (by rfl)).trans (restful_foldl (fun s st => (sameStarts_raise ..).restful) _ _)).trans
      (sameStarts_useFree ..).restful

theorem restful_goodReply (u : Nat) (r : BoardReply) (s : State) : Restful s (s.goodReply u r) := by
  cases hb : s.unit u with
  | none =>
    simp only [State.goodReply, hb]
    exact .refl s
  | some b =>
    have heard : Restful s (s.hear u r b) := by
      unfold State.hear
      split
      · exact (sameStarts_raise ..).restful.trans (restful_putUnit_stages (b := b) hb (by rfl))
      · exact restful_putUnit_stages hb (by rfl)
    rw [goodReply_eq hb]
    exact (((heard.trans (restful_foldl (fun s e => restful_takeEvent u e s) _ _)).trans (sameStarts_useFree ..).restful).trans
      (restful_onUnit_stages u fanFailStop_stages _)).trans (restful_rebuildUnexpected u _)

/-! ### Misses and visits (R158 to R161) -/

theorem keeping_withdrawUnit (u : Nat) (s : State) : Keeping s (s.withdrawUnit u) := keeping_withdrawAll ..

theorem keeping_declareLost {u : Nat} {b : BoundUnit} {s : State} {c : BoundUnit} (hc : s.unit u = some c)
    (same : b.stages = c.stages) : Keeping s (s.declareLost u b) := by
  unfold State.declareLost
  dsimp only
  refine Keeping.trans ?_ (restful_takeFallback u _).keeping
  refine Keeping.trans ?_ (keeping_withdrawUnit ..)
  exact ((restful_putUnit_stages hc (by exact same)).trans (sameStarts_raise ..).restful).keeping

theorem keeping_miss (u : Nat) (s : State) : Keeping s (s.miss u) := by
  unfold State.miss
  split
  · exact .refl s
  · rename_i b hb
    dsimp only
    split
    · exact (restful_putUnit_stages hb (by rfl)).keeping
    · exact (restful_putUnit_stages hb (by rfl)).keeping
    · exact (restful_putUnit_stages hb (by rfl)).keeping
    · split
      · exact (restful_putUnit_stages hb (by rfl)).keeping
      · exact keeping_declareLost hb rfl

theorem sameStarts_nextVisit (s : State) : SameStarts s s.nextVisit := by
  rw [nextVisit_frame]
  exact ⟨rfl, rfl, rfl, rfl, rfl⟩

theorem keeping_visitEnd {received : List Byte} {s t : State} (run : exec (.visitEnd received) s = .next t) :
    Keeping s t := by
  cases run
  split
  · exact .refl s
  · dsimp only
    refine Keeping.trans ?_ (sameStarts_nextVisit _).keeping
    split
    · split
      · exact (restful_goodReply ..).keeping
      · exact keeping_miss ..
    · exact .refl s

/-! ### The stage controller's expiries (R7, R11, R15, R16) -/

theorem restful_minOnExpiry {u : Nat} {st : StageName} {s t : State} (run : exec (.minOnExpiry u st) s = .next t) :
    Restful s t := by
  cases run
  split
  · exact .refl s
  rename_i b hb
  split
  · exact .refl s
  rename_i r hr
  split
  · dsimp only
    split
    · rename_i hold _
      exact restful_set hb hr (putStage_stages ..) (.of_on (by rw [show r.state = .hold from hold]; rfl) nofun)
    · exact restful_set hb hr rfl (.refl _)
  · exact .refl s

theorem restful_minOffExpiry {u : Nat} {st : StageName} {s t : State} (run : exec (.minOffExpiry u st) s = .next t) :
    Restful s t := by
  cases run
  refine restful_onStage u st (fun r => ?_) s
  split
  · dsimp only
    split
    · rename_i rest
      rw [rest]
      exact .of_idle nofun rfl
    · exact .refl _
  · exact .refl _

theorem restful_provingExpiry {u : Nat} {st : StageName} {s t : State} (run : exec (.provingExpiry u st) s = .next t) :
    Restful s t := by
  cases run
  split
  · exact .refl s
  rename_i b hb
  split
  · exact .refl s
  rename_i r hr
  split
  · have ended := restful_set (q := { r with proving := .stopped }) hb hr
      (c := b.withStage st { r with proving := .stopped }) rfl (.refl _)
    dsimp only
    split
    · split
      · exact ended.trans (restful_takeStop ..)
      · exact restful_set hb hr rfl (.refl _)
    · exact ended
  · exact .refl s

theorem restful_tripCountClear {u : Nat} {st : StageName} {s t : State} (run : exec (.tripCountClear u st) s = .next t) :
    Restful s t := by
  cases run
  refine restful_onStage u st (fun r => ?_) s
  split
  · exact .refl _
  · split <;> exact .refl _

/-! ### Binding, freeing and refreshing (R146, R148, R149) -/

/-- R21, R146: the stages of a unit as it is made are in REST. -/
theorem make_idle (z : Nat) (d : Descriptor) (counters : StageName → Nat × Nat) (st : StageName) :
    ((BoundUnit.make z d counters).stateOf st).any StageState.isEngaged = false := by
  rw [BoundUnit.stateOf, BoundUnit.make, Six_get_ofFn]
  split <;> rfl

theorem restful_bindUnit {u : Nat} (z : Nat) (d : Descriptor) (counters : StageName → Nat × Nat) {s : State}
    (number : 0 < u) (unbound : s.unit u = none) : Restful s (s.bindUnit u z d counters) := by
  have bound : Restful s (s.putUnit u (BoundUnit.make z d counters)) := by
    refine ⟨wf_put number _, rfl, rfl, rfl, rfl, fun v st => ?_⟩
    rw [stageState_putUnit]
    split
    · subst v
      rw [stageState_unbound unbound]
      exact .of_idle nofun (make_idle z d counters st)
    · exact .refl _
  exact bound.trans (sameStarts_onZone ..).restful

/-- R145: a unit that passes the checks of a binding has an index and is unbound. -/
theorem bindFailure_none {u z : Nat} {s : State} (passes : s.bindFailure u z = none) :
    unitNumber u = true ∧ s.unit u = none := by
  unfold State.bindFailure at passes
  split at passes
  · cases passes
  rename_i range
  split at passes
  · cases passes
  split at passes
  · cases passes
  split at passes
  · cases passes
  rename_i free
  exact ⟨by simpa using fun no => range (.inl no), by simpa using free⟩

/-- R148: freeing a unit without an engaged stage. -/
theorem restful_freeUnit {u : Nat} {s : State} (idle : ∀ st, s.stageEngaged u st = false) : Restful s (s.freeUnit u) := by
  unfold State.freeUnit
  split
  · exact .refl s
  · refine Restful.trans ?_ (sameStarts_onZone ..).restful
    refine ⟨wf_erase u, rfl, rfl, rfl, rfl, fun v st => ?_⟩
    have erased : ((s.setUnits (Table.erase u s.units)).setRoof (s.roof.dropUnit u)).stageState v st =
        if v = u then none else s.stageState v st := by
      unfold State.stageState
      rw [setRoof_unit, setUnits_unit, find_erase]
      split <;> rfl
    rw [erased]
    split
    · subst v
      refine .of_idle (fun waits => ?_) rfl
      exact Bool.eq_false_iff.mp (idle st) (stageEngaged_iff.mpr (.inl waits))
    · exact .refl _

/-- R25: a stage that is not engaged at a refresh stays so. -/
theorem refreshStage_idle (d : Descriptor) {old : Option StageRec} (st : StageName)
    (idle : (old.map StageRec.state).any StageState.isEngaged = false) :
    ((refreshStage d old st).map StageRec.state).any StageState.isEngaged = false := by
  unfold refreshStage
  split
  · cases old with
    | none => rfl
    | some r =>
      dsimp only
      split <;> exact idle
  · rfl

theorem restful_refresh {u : Nat} {b : BoundUnit} (d : Descriptor) {s : State} (hb : s.unit u = some b)
    (idle : b.anyEngaged = false) : Restful s (s.putUnit u (b.refresh d)) := by
  refine restful_putUnit hb fun st => ?_
  have before : (b.stateOf st).any StageState.isEngaged = false := by
    have still := (anyEngaged_eq_false_iff hb).mp idle st
    rwa [State.stageEngaged, stageState_of_unit hb] at still
  refine .of_idle (fun waits => by rw [waits] at before; cases before) ?_
  rw [BoundUnit.stateOf, BoundUnit.refresh, Six_get_ofFn]
  exact refreshStage_idle d st before

/-- R18: a stage released from LOCKOUT goes to REST. -/
theorem restful_unlock {u : Nat} {st : StageName} {b : BoundUnit} {r : StageRec} {s : State} (hb : s.unit u = some b)
    (hr : b.stages.get st = some r) (lockout : r.state = .lockout) :
    Restful s (s.putUnit u { b with stages := b.stages.set st (some (r.unlock b.copy)) }) :=
  restful_set hb hr rfl (.of_idle (by rw [lockout]; exact nofun) rfl)

end Sys2Proof.Machine
end

section
/-! PROOF. What a command leaves of the queue, the starts and the stagger timer, and the events that stop everything or load the
part anew. -/

namespace Sys2Proof.Machine

/-! ### What a command leaves -/

/-- R35, R136: the law of the queue holds; the stagger timer stays or starts with the spacing in force; and no compressor stage
starts, or one while the timer is stopped, which then starts. -/
structure Settled (s t : State) : Prop where
  law : QueueLaw t
  timer : t.arbiter.stagger = s.arbiter.stagger ∨ t.arbiter.stagger = .running t.meter.limits.spacing
  starts : NoStart s t ∨
    (s.arbiter.stagger = .stopped ∧ t.arbiter.stagger = .running s.meter.limits.spacing ∧ OneStart s t)

theorem Spaced.settled {s t : State} (h : Spaced s t) : Settled s t := by
  obtain ⟨law, limits, ⟨timer, rest⟩ | ⟨stopped, runs, one⟩⟩ := h
  · exact ⟨law, .inl timer, .inl rest⟩
  · exact ⟨law, .inr (by rw [runs, limits]), .inr ⟨stopped, runs, one⟩⟩

theorem Keeping.settled {s t : State} (h : Keeping s t) (law : QueueLaw s) : Settled s t := (h.spaced law).settled

theorem Restful.settled {s t : State} (h : Restful s t) (law : QueueLaw s) : Settled s t := h.keeping.settled law

theorem SameStarts.settled {s t : State} (h : SameStarts s t) (law : QueueLaw s) : Settled s t := h.keeping.settled law

theorem Settled.before {s m t : State} (h : Settled s m) (k : Keeping m t) : Settled s t := by
  refine ⟨k.law h.law, by rw [k.stagger, k.limits]; exact h.timer, h.starts.imp (·.trans k.noStart) ?_⟩
  exact fun ⟨stopped, runs, one⟩ => ⟨stopped, k.stagger.trans runs, one.before k.noStart⟩

theorem Settled.behind {s m t : State} (h : Keeping s m) (k : Settled m t) : Settled s t := by
  refine ⟨k.law, by rw [← h.stagger]; exact k.timer, k.starts.imp h.noStart.trans ?_⟩
  exact fun ⟨stopped, runs, one⟩ => ⟨h.stagger ▸ stopped, h.limits ▸ runs, one.after h.noStart⟩

theorem noStart_congr {s t : State} (units : t.units = s.units) : NoStart s t := fun u st _ on => by
  unfold State.stageOn at on
  rwa [stageState_congr units] at on

theorem noStart_of_idle {t : State} (idle : ∀ u st, t.stageEngaged u st = false) (s : State) : NoStart s t :=
  fun u st _ on => absurd (stageEngaged_iff.mpr (.inr on)) (Bool.eq_false_iff.mp (idle u st))

/-- The agreement is one of the units and the queue alone. -/
theorem QueueAgrees.congr {s t : State} (agrees : QueueAgrees s) (units : t.units = s.units)
    (queue : t.arbiter.queue = s.arbiter.queue) : QueueAgrees t :=
  ⟨units ▸ agrees.units, queue ▸ agrees.size, queue ▸ agrees.kinds, queue ▸ agrees.single,
    fun u st => by rw [stageState_congr units, queue, agrees.waiting]⟩

/-- R47: a change of the limits record is no matter of the queue and the timer. -/
theorem settled_of_same {s t : State} (law : QueueLaw s) (units : t.units = s.units)
    (queue : t.arbiter.queue = s.arbiter.queue) (stagger : t.arbiter.stagger = s.arbiter.stagger)
    (run : t.host.run = s.host.run) : Settled s t := by
  refine ⟨(law.agrees.congr units queue).law fun shutdown u st => ?_, .inl stagger, .inl (noStart_congr units)⟩
  unfold State.stageEngaged
  rw [stageState_congr units]
  exact law.idle (run ▸ shutdown) u st

/-! ### Smoke and restart (R136, R138, R171) -/

theorem smokeAction_stages (b : BoundUnit) : b.smokeAction.stages = b.stages := by
  unfold BoundUnit.smokeAction
  split <;> rfl

theorem releaseParked_stages (b : BoundUnit) : b.releaseParked.stages = b.stages := by
  unfold BoundUnit.releaseParked
  split <;> rfl

theorem restful_smokeActions (s : State) :
    Restful s (s.setUnits (Table.update (fun _ b => b.smokeAction) s.units)) :=
  restful_update_stages (fun _ => smokeAction_stages) s

/-- R136: an entry into SHUTDOWN stops everything, and the timer runs on. -/
theorem settled_enterShutdown {s : State} (law : QueueLaw s) : Settled s s.enterShutdown := by
  unfold State.enterShutdown
  extract_lets _ m stopped acted zoned
  have agrees : QueueAgrees m := law.agrees.congr rfl rfl
  have stops : Keeping m stopped := keeping_stopEverything .shutdown m
  have after : Keeping stopped zoned.closeWindow :=
    (restful_smokeActions stopped).keeping.trans (SameStarts.keeping ⟨rfl, rfl, rfl, rfl, rfl⟩)
  have idle := after.idle (stopEverything_idle rfl agrees)
  have kept := stops.trans after
  exact ⟨(kept.agrees agrees).law fun _ => idle, .inl kept.stagger, .inl (noStart_of_idle idle s)⟩

/-- R138: a release starts the timer, and no stage. -/
theorem settled_release {s : State} (law : QueueLaw s) : Settled s s.release := by
  unfold State.release
  extract_lets _ noted m
  have agrees : QueueAgrees m := law.agrees.congr rfl rfl
  have parked : Restful m (m.setUnits (Table.update (fun _ b => b.releaseParked) m.units)) :=
    restful_update_stages (fun _ => releaseParked_stages) m
  have normal : m.host.run = .normal := by simp [m, noted, State.startStagger]
  refine ⟨(parked.keeping.agrees agrees).law fun shutdown => (nomatch normal.symm.trans (parked.run.symm.trans shutdown)),
    .inr rfl, .inl ((noStart_congr (t := m) rfl).trans parked.keeping.noStart)⟩

/-- R171: a restart stops everything and starts the timer. -/
theorem settled_restart {s : State} (law : QueueLaw s) : Settled s s.restart := by
  unfold State.restart
  extract_lets stopped armed zoned
  have agrees : QueueAgrees zoned.closeWindow := ((keeping_stopEverything .restart s).agrees law.agrees).congr rfl rfl
  have idle : ∀ u st, zoned.closeWindow.stageEngaged u st = false := stopEverything_idle rfl law.agrees
  exact ⟨agrees.law fun _ => idle, .inr rfl, .inl (noStart_of_idle idle s)⟩

/-! ### Clearing and power-on (R179, R180) -/

theorem restful_freeAll (units : Table BoundUnit) {s : State} (idle : ∀ u st, s.stageEngaged u st = false) :
    Restful s (units.foldl (fun s p => s.freeUnit p.1) s) := by
  induction units generalizing s with
  | nil => exact .refl s
  | cons p rest ih =>
    have freed := restful_freeUnit (idle p.1)
    exact freed.trans (ih (freed.keeping.idle idle))

theorem idle_of_anyEngaged {s : State} (form : Table.wf s.units = true) (none : s.anyEngaged = false) (u : Nat)
    (st : StageName) : s.stageEngaged u st = false := by
  cases hb : s.unit u with
  | none => simp [State.stageEngaged, stageState_unbound hb]
  | some b =>
    have listed := (mem_iff_find form u b).mpr ⟨(lt_and_put_of_find form hb).1, hb⟩
    exact (anyEngaged_eq_false_iff hb).mp (Bool.eq_false_iff.mpr (List.any_eq_false.mp none (u, b) listed)) st

theorem settled_clear {s : State} (law : QueueLaw s) (none : s.anyEngaged = false) : Settled s s.clear := by
  have freed := restful_freeAll s.units (idle_of_anyEngaged law.units none)
  exact .behind freed.keeping (settled_of_same (freed.keeping.law law) rfl rfl rfl rfl)

/-- R180: one stored binding re-made or dropped. -/
theorem restful_remake (s : State) (p : Nat × SavedBinding) : Restful s (s.remake p) := by
  unfold State.remake
  split
  · rename_i d passes _
    obtain ⟨number, unbound⟩ := bindFailure_none passes
    refine (restful_bindUnit p.2.zone d p.2.counter (unitNumber_iff.mp number).1 unbound).trans ?_
    unfold State.smokeAtBinding
    split
    · exact restful_onUnit_stages p.1 smokeAction_stages _
    · exact .refl _
  · exact (sameStarts_raise ..).restful
  · exact .refl s

/-- R180: the load leaves no unit bound and the timer running. -/
theorem loaded_empty (smoke service protect : Bool) (s : State) :
    (s.loaded smoke service protect).units = [] ∧ (s.loaded smoke service protect).arbiter.queue = [] ∧
      (s.loaded smoke service protect).arbiter.stagger =
        .running (s.loaded smoke service protect).meter.limits.spacing := by
  unfold State.loaded
  dsimp only
  split <;> exact ⟨rfl, rfl, rfl⟩

theorem settled_powerOn {smoke service protect : Bool} {s t : State} (run : exec (.powerOn smoke service protect) s = .next t) :
    Settled s t := by
  cases run
  obtain ⟨units, queue, timer⟩ := loaded_empty smoke service protect s
  generalize s.loaded smoke service protect = m at *
  have bound := restful_foldl restful_remake s.store.image.load.bindings m
  have absent (u : Nat) (st : StageName) : m.stageState u st = none :=
    stageState_unbound (by rw [State.unit, units]; rfl) st
  have idle (u : Nat) (st : StageName) : m.stageEngaged u st = false := by rw [State.stageEngaged, absent]; rfl
  have agrees : QueueAgrees m :=
    ⟨by rw [units]; rfl, by rw [queue]; exact Nat.zero_le _, by simp [queue], by simp [queue], by simp [queue, absent]⟩
  have placed : Keeping m _ := bound.keeping.trans (SameStarts.keeping
    (t := (s.store.image.load.bindings.foldl State.remake m).setRoof
      { (s.store.image.load.bindings.foldl State.remake m).roof with
        places := (s.store.image.load.bindings.foldl State.remake m).cyclePlaces }) ⟨rfl, rfl, rfl, rfl, rfl⟩)
  exact ⟨(placed.agrees agrees).law fun _ => placed.idle idle, .inr (by rw [placed.stagger, placed.limits]; exact timer),
    .inl (noStart_of_idle (placed.idle idle) s)⟩

end Sys2Proof.Machine
end

section
/-! PROOF. O58 and O19: every command keeps the grant queue and the stages in agreement, and starts at most one compressor stage,
while the stagger timer is stopped. -/

namespace Sys2Proof.Machine

/-! ### Requests (R169, R170) -/

/-- The requests whose owner only reads. -/
def requestReads : Request → Bool
  | .partStatus | .clockGet | .unitGet .. | .unitReadings .. | .stageGet .. | .queueGet .. | .zoneGet .. | .schedGet ..
  | .profileGet .. | .demandGet | .demandHistory .. => true
  | _ => false

theorem serve_read {r : Request} (reads : requestReads r = true) (s : State) : (serve r s).1 = s := by
  cases r with
  | partStatus => rfl
  | clockGet => rfl
  | demandGet => rfl
  | unitGet unit selector =>
    simp only [serve, serveUnitGet]
    split
    · rfl
    split
    · rfl
    split <;> rfl
  | unitReadings unit =>
    simp only [serve, serveUnitReadings]
    split
    · rfl
    split <;> rfl
  | stageGet unit =>
    simp only [serve, serveStageGet]
    split
    · rfl
    split <;> rfl
  | queueGet first =>
    simp only [serve, serveQueueGet]
    split <;> rfl
  | zoneGet zone =>
    simp only [serve, serveZoneGet]
    split
    · rfl
    split <;> rfl
  | schedGet day zone slot count =>
    simp only [serve, serveSchedGet]
    split <;> rfl
  | profileGet profile =>
    simp only [serve, serveProfileGet]
    split
    · rfl
    split <;> rfl
  | demandHistory offset count =>
    simp only [serve, serveDemandHistory]
    split <;> rfl
  | _ => cases reads

theorem sameStarts_deliver (s : State) : SameStarts s s.deliver := by
  rw [deliver_frame]
  exact ⟨rfl, rfl, rfl, rfl, rfl⟩

theorem sameStarts_setSchedule (c : Schedule) (s : State) : SameStarts s (s.setSchedule c) := ⟨rfl, rfl, rfl, rfl, rfl⟩

theorem sameStarts_meterClockSet (ceiling : Nat) (s : State) : SameStarts s (s.meterClockSet ceiling) := by
  unfold State.meterClockSet
  split
  · exact ⟨rfl, rfl, rfl, rfl, rfl⟩
  · exact sameStarts_closeInterval ..

/-- The requests that write tables, zones, the schedule, the meter or the store, and no unit. -/
def requestWritesTables : Request → Bool
  | .partProtect .. | .noteTake | .clockSet .. | .unitPut .. | .zonePut .. | .zoneOverride .. | .schedWindow ..
  | .schedFill .. | .schedEnd | .profilePut .. | .demandSite .. | .storeSave => true
  | _ => false

theorem takeNotices_run (h : HostLink) : h.takeNotices.run = h.run := by
  unfold HostLink.takeNotices
  dsimp only
  split <;> rfl

theorem sameStarts_deliverWritten (cells : List Nat) (s : State) : SameStarts s (s.deliverWritten cells) := by
  unfold State.deliverWritten
  split
  · exact .refl s
  · exact ⟨rfl, rfl, rfl, rfl, rfl⟩

theorem sameStarts_defineZone (z : Nat) (c : ZoneConfig) (s : State) : SameStarts s (s.defineZone z c) := by
  unfold State.defineZone
  split <;> exact sameStarts_putZone ..

theorem sameStarts_serve {r : Request} (writes : requestWritesTables r = true) (s : State) : SameStarts s (serve r s).1 := by
  cases r with
  | partProtect level hold =>
    simp only [serve, servePartProtect]
    split
    · exact .refl s
    split
    · exact .refl s
    split
    · exact .refl s
    · exact ⟨rfl, rfl, rfl, rfl, rfl⟩
  | noteTake => exact ⟨rfl, rfl, rfl, rfl, takeNotices_run _⟩
  | clockSet day minute second mark weekday =>
    simp only [serve, serveClockSet]
    split
    · exact .refl s
    · exact (((sameStarts_setSchedule ..).trans (sameStarts_deliver _)).trans (sameStarts_meterClockSet ..)).trans
        (sameStarts_useFree ..)
  | unitPut unit pairs =>
    simp only [serve, serveUnitPut]
    split
    · exact .refl s
    split
    · exact .refl s
    split
    · exact .refl s
    split
    · exact .refl s
    · exact ⟨rfl, rfl, rfl, rfl, rfl⟩
  | zonePut zone flag fields =>
    simp only [serve, serveZonePut]
    split
    · exact .refl s
    split
    · split
      · exact .refl s
      · exact sameStarts_defineZone ..
    split
    · split
      · exact ⟨rfl, rfl, rfl, rfl, rfl⟩
      · exact .refl s
    · exact .refl s
  | zoneOverride zone duration cool heat modeForce occForce =>
    simp only [serve, serveZoneOverride]
    split
    · exact .refl s
    split
    · exact .refl s
    split
    · exact .refl s
    split <;> exact sameStarts_putZone ..
  | schedWindow day zLo zHi sLo sHi order direction mask compare occupancy =>
    simp only [serve, serveSchedWindow]
    split
    · exact .refl s
    split
    · exact .refl s
    · exact sameStarts_setSchedule ..
  | schedFill mask values =>
    simp only [serve, serveSchedFill]
    split
    · exact .refl s
    split
    · exact .refl s
    split
    · exact .refl s
    · exact (sameStarts_setSchedule ..).trans (sameStarts_deliverWritten ..)
  | schedEnd =>
    simp only [serve, serveSchedEnd]
    split
    · exact .refl s
    · exact sameStarts_setSchedule ..
  | profilePut profile segments =>
    simp only [serve, serveProfilePut]
    split
    · exact .refl s
    split
    · exact .refl s
    split
    · split
      · exact .refl s
      · exact ⟨rfl, rfl, rfl, rfl, rfl⟩
    split
    · exact .refl s
    · exact ⟨rfl, rfl, rfl, rfl, rfl⟩
  | demandSite load => exact ⟨rfl, rfl, rfl, rfl, rfl⟩
  | storeSave =>
    simp only [serve, serveStoreSave]
    split
    · exact .refl s
    · exact ⟨rfl, rfl, rfl, rfl, rfl⟩
  | _ => cases writes

theorem restful_serveUnitBind (unit zone : Byte) (s : State) : Restful s (serveUnitBind unit zone s).1 := by
  unfold serveUnitBind
  split
  · exact .refl s
  · exact .refl s
  · rename_i passes
    obtain ⟨number, unbound⟩ := bindFailure_none passes
    split
    · exact .refl s
    · exact restful_bindUnit _ _ _ (unitNumber_iff.mp number).1 unbound

theorem restful_serveUnitFree (unit : Byte) (s : State) : Restful s (serveUnitFree unit s).1 := by
  unfold serveUnitFree
  split
  · exact .refl s
  split
  · exact .refl s
  rename_i b hb
  split
  · exact .refl s
  · exact restful_freeUnit ((anyEngaged_eq_false_iff hb).mp (Bool.eq_false_iff.mpr ‹_›))

theorem restful_serveUnitRefresh (unit : Byte) (s : State) : Restful s (serveUnitRefresh unit s).1 := by
  unfold serveUnitRefresh
  dsimp only
  split
  · exact .refl s
  split
  · rename_i b d hb _
    split
    · exact .refl s
    rename_i idle
    split
    · exact .refl s
    split
    · exact .refl s
    have refreshed := restful_refresh d hb (Bool.eq_false_iff.mpr idle)
    unfold accept
    dsimp only
    split
    · exact refreshed.trans (restful_takeFallback ..)
    · exact refreshed
  · exact .refl s

theorem restful_serveStageUnlock (unit stage : Byte) (s : State) : Restful s (serveStageUnlock unit stage s).1 := by
  unfold serveStageUnlock
  split
  · split
    · exact .refl s
    · split
      · exact .refl s
      · split
        · exact restful_unlock ‹_› ‹_› ‹_›
        · exact .refl s
  · exact .refl s

theorem settled_applyLimits (l : Limits) {s : State} (law : QueueLaw s) : Settled s (s.applyLimits l) := by
  unfold State.applyLimits
  dsimp only
  split
  · exact settled_of_same law rfl rfl rfl (by simp [State.noteStale])
  · exact settled_of_same law rfl rfl rfl rfl

theorem settled_refl {s : State} (law : QueueLaw s) : Settled s s := (Keeping.refl s).settled law

/-- R170: what the owner of a request leaves of the queue and the timer. -/
theorem settled_serve (r : Request) {s : State} (law : QueueLaw s) : Settled s (serve r s).1 := by
  cases r with
  | partRestart =>
    simp only [serve, servePartRestart]
    split
    · exact settled_refl law
    · exact settled_restart law
  | partRelease =>
    simp only [serve, servePartRelease]
    split
    · exact settled_refl law
    · unfold accept
      dsimp only
      split
      · exact settled_release law
      · exact settled_refl law
  | demandLimits ceiling recovery cap length fallback stale spacing =>
    simp only [serve, serveDemandLimits]
    split
    · exact settled_refl law
    · exact settled_applyLimits _ law
  | storeClear =>
    simp only [serve, serveStoreClear]
    split
    · exact settled_refl law
    split
    · exact settled_refl law
    · exact settled_clear law (Bool.eq_false_iff.mpr ‹_›)
  | unitBind unit zone => exact (restful_serveUnitBind unit zone s).settled law
  | unitFree unit => exact (restful_serveUnitFree unit s).settled law
  | unitRefresh unit => exact (restful_serveUnitRefresh unit s).settled law
  | stageUnlock unit stage => exact (restful_serveStageUnlock unit stage s).settled law
  | partProtect | noteTake | clockSet | unitPut | zonePut | zoneOverride | schedWindow | schedFill | schedEnd | profilePut
  | demandSite | storeSave => exact (sameStarts_serve rfl s).settled law
  | partStatus | clockGet | unitGet | unitReadings | stageGet | queueGet | zoneGet | schedGet | profileGet | demandGet
  | demandHistory =>
    rw [serve_read rfl]
    exact settled_refl law

theorem sameStarts_reply (code tag : Byte) (a : Answer) (s : State) : SameStarts s (s.reply code tag a) :=
  ⟨rfl, rfl, rfl, rfl, rfl⟩

theorem settled_takeRequest (tag : Byte) (r : Request) {s : State} (law : QueueLaw s) :
    Settled s (s.takeRequest tag r) := by
  have answered : Settled s (s.answerTo r).1 := by
    unfold State.answerTo
    split
    · exact settled_refl law
    · exact settled_serve r law
  exact answered.before (sameStarts_reply ..).keeping

theorem settled_takeFrame (f : Frame) {s : State} (law : QueueLaw s) : Settled s (s.takeFrame f) := by
  unfold State.takeFrame
  split
  · exact (sameStarts_reply ..).settled law
  · exact (sameStarts_reply ..).settled law
  · exact settled_takeRequest _ _ law

theorem sameStarts_holdFrame (f : Frame) (s : State) : SameStarts s (s.holdFrame f) := by
  unfold State.holdFrame
  split
  · exact ⟨rfl, rfl, rfl, rfl, rfl⟩
  · exact .refl s

theorem settled_offerFrame (f : Frame) {s : State} (law : QueueLaw s) : Settled s (s.offerFrame f) := by
  unfold State.offerFrame
  split
  · exact settled_takeFrame f law
  · exact (sameStarts_holdFrame f s).settled law

theorem settled_offerRequest (tag : Byte) (r : Request) {s : State} (law : QueueLaw s) :
    Settled s (s.offerRequest tag r) := by
  unfold State.offerRequest
  split
  · exact settled_takeRequest tag r law
  · exact (sameStarts_holdFrame _ s).settled law

/-! ### The line (R167, R168) -/

theorem sameStarts_setReceiver (r : Receiver) (s : State) : SameStarts s (s.setReceiver r) := ⟨rfl, rfl, rfl, rfl, rfl⟩

theorem settled_hostByteReceived {byte : Byte} {s t : State} (law : QueueLaw s)
    (run : exec (.hostByteReceived byte) s = .next t) : Settled s t := by
  cases run
  split
  · split
    · exact (sameStarts_setReceiver ..).settled law
    · exact settled_refl law
  · unfold State.collect
    split
    · exact (sameStarts_setReceiver ..).settled law
    · dsimp only
      split
      · exact (sameStarts_setReceiver ..).settled law
      · split
        · exact (sameStarts_setReceiver ..).settled law
        · have hunting := (sameStarts_setReceiver .hunting s).keeping
          exact .behind hunting (settled_offerFrame _ (hunting.law law))

theorem settled_replySent {s t : State} (law : QueueLaw s) (run : exec .replySent s = .next t) : Settled s t := by
  cases run
  split
  · exact settled_refl law
  · split
    · exact settled_of_same law rfl rfl rfl rfl
    · rename_i f _
      have idle : Keeping s (s.setHost { s.host with phase := .idle, reply := none, holding := none }) :=
        SameStarts.keeping ⟨rfl, rfl, rfl, rfl, rfl⟩
      exact .behind idle (settled_takeFrame f (idle.law law))

/-! ### Every command -/

theorem settled_smokeAsserted {s t : State} (law : QueueLaw s) (run : exec .smokeAsserted s = .next t) : Settled s t := by
  cases run
  have level : Keeping s (s.setHost { s.host with smoke := true }) := SameStarts.keeping ⟨rfl, rfl, rfl, rfl, rfl⟩
  split
  · exact .behind level (settled_enterShutdown (level.law law))
  · exact level.settled law

theorem sameStarts_saveCompletion {equal : Bool} {s t : State} (run : exec (.saveCompletion equal) s = .next t) :
    SameStarts s t := by
  cases run
  split
  · unfold State.completeSave
    dsimp only
    split <;> exact ⟨rfl, rfl, rfl, rfl, by simp⟩
  · exact .refl s

theorem sameStarts_siteStale {s t : State} (run : exec .siteStale s = .next t) : SameStarts s t := by
  cases run
  split
  · exact ⟨rfl, rfl, rfl, rfl, by simp [State.goStale, State.noteStale]⟩
  · exact .refl s

theorem sameStarts_overrideEnd {zone : Nat} {s t : State} (run : exec (.overrideEnd zone) s = .next t) :
    SameStarts s t := by
  cases run
  split
  · exact .refl s
  split
  · exact .refl s
  split
  · exact (sameStarts_putZone ..).trans (sameStarts_raise ..)
  · exact .refl s

theorem sameStarts_clockTick {s t : State} (run : exec .clockTick s = .next t) : SameStarts s t := by
  cases run
  split
  · exact .refl s
  dsimp only
  split
  · exact (sameStarts_setSchedule ..).trans (sameStarts_deliver _)
  · exact sameStarts_setSchedule ..

theorem sameStarts_pollCycleStart {ms : Nat} {s t : State} (run : exec (.pollCycleStart ms) s = .next t) :
    SameStarts s t := by
  cases run
  split
  · refine SameStarts.trans ?_ (sameStarts_nextVisit _)
    exact ⟨rfl, rfl, rfl, rfl, rfl⟩
  · exact .refl s

theorem spaced_zoneEvaluation {zone : Nat} {s t : State} (law : QueueLaw s)
    (run : exec (.zoneEvaluation zone) s = .next t) : Spaced s t := by
  cases run
  split
  · exact (Keeping.refl s).spaced law
  rename_i r _
  split
  · have armed := (sameStarts_putZone zone { r with evaluation := .start r.config.period } s).keeping
    exact .behind armed (spaced_evaluate zone (armed.law law))
  · exact (Keeping.refl s).spaced law

theorem rampStep_stages (run : RunState) (profiles : Table (List Segment)) (b : BoundUnit) :
    (b.rampStep run profiles).stages = b.stages := by
  unfold BoundUnit.rampStep
  split <;> rfl

theorem restful_rampStep {s t : State} (run : exec .rampStep s = .next t) : Restful s t := by
  cases run
  exact restful_update_stages (fun _ => rampStep_stages s.host.run s.profiles) s

theorem restful_purgeExpiry {u : Nat} {s t : State} (run : exec (.purgeExpiry u) s = .next t) : Restful s t := by
  cases run
  exact restful_onUnit_stages u (fun b => by split <;> rfl) s

theorem restful_holdOffExpiry {u : Nat} {s t : State} (run : exec (.holdOffExpiry u) s = .next t) : Restful s t := by
  cases run
  exact restful_onUnit_stages u (fun b => by split <;> rfl) s

/-- R35: every command but the stagger expiry. -/
theorem settled_exec {c : Instr} {s t : State} (law : QueueLaw s) (other : c ≠ .staggerExpiry) (run : exec c s = .next t) :
    Settled s t := by
  cases c with
  | staggerExpiry => exact absurd rfl other
  | powerOn => exact settled_powerOn run
  | smokeAsserted => exact settled_smokeAsserted law run
  | smokeNegated | serviceLineChange | protectLineChange | receiveGapTimeout =>
    cases run
    exact settled_of_same law rfl rfl rfl rfl
  | hostByteReceived => exact settled_hostByteReceived law run
  | replySent => exact settled_replySent law run
  | saveCompletion => exact (sameStarts_saveCompletion run).settled law
  | minOnExpiry => exact (restful_minOnExpiry run).settled law
  | minOffExpiry => exact (restful_minOffExpiry run).settled law
  | provingExpiry => exact (restful_provingExpiry run).settled law
  | tripCountClear => exact (restful_tripCountClear run).settled law
  | accumulationEvent => exact (spaced_accumulationEvent law run).settled
  | siteStale => exact (sameStarts_siteStale run).settled law
  | zoneEvaluation => exact (spaced_zoneEvaluation law run).settled
  | changeoverExpiry =>
    cases run
    exact (sameStarts_onZone ..).settled law
  | overrideEnd => exact (sameStarts_overrideEnd run).settled law
  | clockTick => exact (sameStarts_clockTick run).settled law
  | rampStep => exact (restful_rampStep run).settled law
  | purgeExpiry => exact (restful_purgeExpiry run).settled law
  | holdOffExpiry => exact (restful_holdOffExpiry run).settled law
  | pollCycleStart => exact (sameStarts_pollCycleStart run).settled law
  | visitEnd => exact (keeping_visitEnd run).settled law
  | fallbackExpiry =>
    cases run
    exact (restful_takeFallback ..).settled law
  | _ =>
    cases run
    exact settled_offerRequest _ _ law

/-! ### The stagger expiry and the seconds (R34, R2) -/

/-- R34: the state in which the attempt of a due stagger expiry is made. -/
def State.staggerStopped (s : State) : State := s.setArbiter { s.arbiter with stagger := .stopped }

theorem execStaggerExpiry_eq (s : State) :
    exec .staggerExpiry s = .next (if s.arbiter.stagger.isDue then s.staggerStopped.attempt .stagger else s) := rfl

theorem staggerStopped_law {s : State} (law : QueueLaw s) : QueueLaw s.staggerStopped :=
  ⟨law.units, law.size, law.kinds, law.single, law.waiting, law.shutdown⟩

/-- R34: a stagger expiry that is not due changes nothing, and a due one makes its attempt with the timer stopped. -/
theorem staggerExpiry_cases {s t : State} (law : QueueLaw s) (run : exec .staggerExpiry s = .next t) :
    t = s ∨ (s.arbiter.stagger = .running 0 ∧ Spaced s.staggerStopped t) := by
  rw [execStaggerExpiry_eq] at run
  cases run
  split
  · exact .inr ⟨isDue_iff.mp ‹_›, spaced_attempt .stagger (staggerStopped_law law)⟩
  · exact .inl rfl

theorem tick_move (b : BoundUnit) (st : StageName) : RestfulMove (b.stateOf st) (b.tick.stateOf st) := by
  have same : b.tick.stateOf st = b.stateOf st := by
    rw [BoundUnit.stateOf, BoundUnit.tick, Six_get_ofFn, Option.map_map]
    rfl
  rw [same]
  exact .refl _

/-- R2: a second takes no stage anywhere. -/
theorem restful_secondUnits (s : State) :
    Restful s (s.setUnits (Table.update (fun _ b => b.tick) s.units)) := restful_update (fun _ => tick_move) s

theorem secondPasses_law {s : State} (law : QueueLaw s) : QueueLaw (secondPasses s) := by
  obtain ⟨units, size, kinds, single, waiting, shutdown⟩ := (restful_secondUnits s).keeping.law law
  exact ⟨units, size, kinds, single, waiting, shutdown⟩

theorem secondPasses_noStart (s : State) : NoStart s (secondPasses s) := (restful_secondUnits s).keeping.noStart

/-! ### The two statements -/

/-- A step is a second, or the run of the front command on the queue's rest. -/
theorem step_cases {s t : State} (run : step s = .next t) :
    (s.pending = [] ∧ t = secondPasses s) ∨
      ∃ c rest, s.pending = c :: rest ∧ exec c { s with pending := rest } = .next t := by
  unfold step at run
  split at run
  · cases run
    exact .inl ⟨‹_›, rfl⟩
  · exact .inr ⟨_, _, ‹_›, run⟩

theorem keeping_pending (rest : List Instr) (s : State) : Keeping s { s with pending := rest } :=
  SameStarts.keeping ⟨rfl, rfl, rfl, rfl, rfl⟩

/-- Settles O58: every command keeps the agreement of the queue and the stages. -/
theorem everyStepKeepsTheQueueAndTheStagesInAgreement : Obligations.EveryStepKeepsTheQueueAndTheStagesInAgreement := by
  unfold Obligations.EveryStepKeepsTheQueueAndTheStagesInAgreement
  intro s t law run
  obtain ⟨_, rfl⟩ | ⟨c, rest, _, run⟩ := step_cases run
  · exact secondPasses_law law
  · have law := (keeping_pending rest s).law law
    by_cases expiry : c = .staggerExpiry
    · subst expiry
      obtain rfl | ⟨_, spaced⟩ := staggerExpiry_cases law run
      · exact law
      · exact spaced.law
    · exact (settled_exec law expiry run).law

/-- R35: what a step does to the starts and the timer, in the words of `Settled`. -/
theorem step_starts {s t : State} (law : QueueLaw s) (run : step s = .next t) :
    NoStart s t ∨
      ((s.arbiter.stagger = .stopped ∨ s.arbiter.stagger = .running 0 ∧ s.pending.head? = some .staggerExpiry) ∧
        t.arbiter.stagger = .running s.meter.limits.spacing ∧ OneStart s t) := by
  obtain ⟨_, rfl⟩ | ⟨c, rest, pending, run⟩ := step_cases run
  · exact .inl (secondPasses_noStart s)
  · have law := (keeping_pending rest s).law law
    by_cases expiry : c = .staggerExpiry
    · subst expiry
      obtain rfl | ⟨due, spaced⟩ := staggerExpiry_cases law run
      · exact .inl fun _ _ _ => id
      · exact spaced.starts.imp And.right fun ⟨_, runs, one⟩ => ⟨.inr ⟨due, by rw [pending]; rfl⟩, runs, one⟩
    · exact (settled_exec law expiry run).starts.imp id fun ⟨stopped, runs, one⟩ => ⟨.inl stopped, runs, one⟩

theorem step_timer {s t : State} (law : QueueLaw s) (run : step s = .next t) (commanded : s.pending ≠ []) :
    t.arbiter.stagger = s.arbiter.stagger ∨ t.arbiter.stagger = .running t.meter.limits.spacing ∨
      (s.pending.head? = some .staggerExpiry ∧ s.arbiter.stagger = .running 0 ∧ t.arbiter.stagger = .stopped) := by
  obtain ⟨empty, _⟩ | ⟨c, rest, pending, run⟩ := step_cases run
  · exact absurd empty commanded
  · have law := (keeping_pending rest s).law law
    by_cases expiry : c = .staggerExpiry
    · subst expiry
      obtain rfl | ⟨due, spaced⟩ := staggerExpiry_cases law run
      · exact .inl rfl
      · obtain ⟨timer, _⟩ | ⟨_, runs, _⟩ := spaced.starts
        · exact .inr (.inr ⟨by rw [pending]; rfl, due, timer⟩)
        · exact .inr (.inl (by rw [runs, spaced.limits]))
    · exact (settled_exec law expiry run).timer.imp id .inl

/-- Settles O19: a stage that comes on is the one start of its step. -/
theorem compressorStartsKeepTheStartSpacing : Obligations.CompressorStartsKeepTheStartSpacing := by
  unfold Obligations.CompressorStartsKeepTheStartSpacing
  intro s t law run
  have started {u st b} (hb : t.unit u = some b) (on : b.isOn st = true)
      (off : ∀ c, s.unit u = some c → c.isOn st = false) : t.stageOn u st = true ∧ ¬s.stageOn u st = true := by
    refine ⟨stageOn_iff.mpr ⟨b, hb, on⟩, fun before => ?_⟩
    obtain ⟨c, hc, runs⟩ := stageOn_iff.mp before
    exact Bool.eq_false_iff.mp (off c hc) runs
  refine ⟨fun u st b compressor hb on off => ?_, step_timer law run, fun empty => ?_⟩
  · obtain ⟨now, before⟩ := started hb on off
    obtain none | ⟨timer, runs, w, x, only⟩ := step_starts law run
    · exact absurd (none u st compressor now) before
    · refine ⟨timer, runs, fun v st' c compressor' hc on' off' => ?_⟩
      obtain ⟨now', before'⟩ := started hc on' off'
      obtain ⟨rfl, rfl⟩ := (only u st compressor now).resolve_left before
      exact (only v st' compressor' now').resolve_left before'
  · obtain ⟨_, rfl⟩ | ⟨c, rest, pending, _⟩ := step_cases run
    · rfl
    · exact absurd (empty.symm.trans pending) nofun

end Sys2Proof.Machine
end

section
/-! PROOF. O57: which operations leave the meter's ranges alone, and the few that write the interval, the history, the limits or
the image. -/

namespace Sys2Proof.Machine

/-! ### The law in two parts (R54, R57, R63, R45) -/

/-- R54, R57: the interval's part of `MeterLaw`. -/
structure Interval.InRange (i : Interval) : Prop where
  running : i.elapsed < i.effective
  length : i.effective ≤ 3600
  energy : i.energy ≤ 65535 * i.elapsed
  peak : i.peak ≤ 65535

/-- R63, R45: what `MeterLaw` says of the history and of every interval length, current, pending and saved. -/
structure RecordsInRange (s : State) : Prop where
  history : s.meter.history.length ≤ 96
  length : IntervalLength s.meter.limits.length
  pending : ∀ n, s.meter.pendingLength = some n → IntervalLength n
  image : IntervalLength s.store.image.contents.limits.length

theorem meterLaw_iff {s : State} : MeterLaw s ↔ RecordsInRange s ∧ s.meter.interval.InRange :=
  ⟨fun law => ⟨⟨law.history, law.length, law.pending, law.image⟩,
      ⟨law.interval.1, law.interval.2, law.energy, law.peak⟩⟩,
    fun ⟨records, interval⟩ => ⟨records.history, records.length, records.pending, records.image,
      ⟨interval.running, interval.length⟩, interval.energy, interval.peak⟩⟩

theorem MeterLaw.records {s : State} (law : MeterLaw s) : RecordsInRange s := (meterLaw_iff.mp law).1

theorem MeterLaw.inRange {s : State} (law : MeterLaw s) : s.meter.interval.InRange := (meterLaw_iff.mp law).2

/-! ### Changes that are no matter of the law -/

/-- Two states with the same limits, pending length, interval, history and image contents. -/
structure SameMetering (s t : State) : Prop where
  limits : t.meter.limits = s.meter.limits
  pending : t.meter.pendingLength = s.meter.pendingLength
  interval : t.meter.interval = s.meter.interval
  history : t.meter.history = s.meter.history
  image : t.store.image.contents = s.store.image.contents

theorem SameMetering.refl (s : State) : SameMetering s s := ⟨rfl, rfl, rfl, rfl, rfl⟩

theorem SameMetering.trans {s m t : State} (h : SameMetering s m) (k : SameMetering m t) : SameMetering s t :=
  ⟨k.limits.trans h.limits, k.pending.trans h.pending, k.interval.trans h.interval, k.history.trans h.history,
    k.image.trans h.image⟩

theorem SameMetering.records {s t : State} (h : SameMetering s t) (records : RecordsInRange s) : RecordsInRange t :=
  ⟨h.history ▸ records.history, h.limits ▸ records.length, h.pending ▸ records.pending, h.image ▸ records.image⟩

theorem SameMetering.law {s t : State} (h : SameMetering s t) (law : MeterLaw s) : MeterLaw t :=
  meterLaw_iff.mpr ⟨h.records law.records, h.interval ▸ law.inRange⟩

/-- The operations of the other blocks reach neither the meter nor the store, as their frames say. -/
theorem sameMetering_of_frame {s t : State} {host : HostLink} {units : Table BoundUnit} {arbiter : Arbiter}
    {zones : Table Zone} {roof : Roof}
    (frame : t = { s with host := host, units := units, arbiter := arbiter, zones := zones, roof := roof }) :
    SameMetering s t := by
  subst frame
  exact ⟨rfl, rfl, rfl, rfl, rfl⟩

theorem sameMetering_putUnit (u : Nat) (b : BoundUnit) (s : State) : SameMetering s (s.putUnit u b) :=
  ⟨rfl, rfl, rfl, rfl, rfl⟩

theorem sameMetering_raise (kind : NoticeKind) (unit : Option Nat) (stage : Option StageName) (zone : Option Nat)
    (value : Option Int) (s : State) : SameMetering s (s.raise kind unit stage zone value) := ⟨rfl, rfl, rfl, rfl, rfl⟩

theorem sameMetering_useFree (n : Nat) (s : State) : SameMetering s (s.useFree n) := ⟨rfl, rfl, rfl, rfl, rfl⟩

theorem sameMetering_foldl {α : Type} {f : State → α → State} (each : ∀ s a, SameMetering s (f s a)) (l : List α)
    (s : State) : SameMetering s (l.foldl f s) := by
  induction l generalizing s with
  | nil => exact .refl s
  | cons a l ih => exact (each s a).trans (ih _)

/-! ### The stage controller, the unit table and the roof bus -/

theorem sameMetering_stopEverything (cause : StopCause) (s : State) : SameMetering s (s.stopEverything cause) :=
  (sameMetering_of_frame (withdrawAll_frame ..)).trans
    (sameMetering_foldl (fun _ _ => sameMetering_of_frame (stopAll_frame ..)) _ _)

theorem sameMetering_takeFallback (u : Nat) (s : State) : SameMetering s (s.takeFallback u) := by
  unfold State.takeFallback
  split
  · exact .refl s
  · split
    · exact (sameMetering_of_frame (stopAll_frame ..)).trans (sameMetering_of_frame (onUnit_frame ..))
    · exact .refl s

theorem sameMetering_declareLost (u : Nat) (b : BoundUnit) (s : State) : SameMetering s (s.declareLost u b) := by
  have noted := (sameMetering_putUnit u { b.setLink .lost with lostOn := b.onSet } s).trans
    (sameMetering_raise .unitLost (some u) none (noticeZone b.zone) (b.sinceGood s.uptime) _)
  exact (noted.trans (sameMetering_of_frame (withdrawAll_frame ..))).trans (sameMetering_takeFallback u _)

theorem sameMetering_miss (u : Nat) (s : State) : SameMetering s (s.miss u) := by
  unfold State.miss
  split
  · exact .refl s
  · dsimp only
    split
    · exact sameMetering_putUnit ..
    · exact sameMetering_putUnit ..
    · exact sameMetering_putUnit ..
    · split
      · exact sameMetering_putUnit ..
      · exact sameMetering_declareLost ..

theorem sameMetering_rebuildUnexpected (u : Nat) (s : State) : SameMetering s (s.rebuildUnexpected u) := by
  unfold State.rebuildUnexpected
  split
  · exact .refl s
  · dsimp only
    exact ((sameMetering_putUnit ..).trans (sameMetering_foldl (fun s st => sameMetering_raise ..) _ _)).trans
      (sameMetering_useFree ..)

theorem sameMetering_goodReply (u : Nat) (r : BoardReply) (s : State) : SameMetering s (s.goodReply u r) := by
  cases hb : s.unit u with
  | none =>
    simp only [State.goodReply, hb]
    exact .refl s
  | some b =>
    have heard : SameMetering s (s.hear u r b) := by
      unfold State.hear
      split
      · exact (sameMetering_raise ..).trans (sameMetering_putUnit ..)
      · exact sameMetering_putUnit ..
    have events (l : List ReplyEvent) (s : State) : SameMetering s (s.takeEvents u l) :=
      sameMetering_foldl (fun s e => sameMetering_of_frame (takeEvent_frame u e s)) l s
    rw [goodReply_eq hb]
    exact (((heard.trans (events _ _)).trans (sameMetering_useFree ..)).trans (sameMetering_of_frame (onUnit_frame ..))).trans
      (sameMetering_rebuildUnexpected u _)

theorem sameMetering_visitEnd {received : List Byte} {s t : State} (run : exec (.visitEnd received) s = .next t) :
    SameMetering s t := by
  cases run
  split
  · exact .refl s
  · dsimp only
    refine .trans ?_ (sameMetering_of_frame (nextVisit_frame _))
    split
    · split
      · exact sameMetering_goodReply ..
      · exact sameMetering_miss ..
    · exact .refl s

theorem sameMetering_pollCycleStart {ms : Nat} {s t : State} (run : exec (.pollCycleStart ms) s = .next t) :
    SameMetering s t := by
  cases run
  split
  · have listed (r : Roof) : SameMetering s (s.setRoof r) := ⟨rfl, rfl, rfl, rfl, rfl⟩
    exact (listed _).trans (sameMetering_of_frame (nextVisit_frame _))
  · exact .refl s

theorem sameMetering_minOnExpiry {u : Nat} {st : StageName} {s t : State} (run : exec (.minOnExpiry u st) s = .next t) :
    SameMetering s t := by
  cases run
  split
  · exact .refl s
  split
  · exact .refl s
  split
  · dsimp only
    split <;> exact sameMetering_putUnit ..
  · exact .refl s

theorem sameMetering_provingExpiry {u : Nat} {st : StageName} {s t : State}
    (run : exec (.provingExpiry u st) s = .next t) : SameMetering s t := by
  cases run
  split
  · exact .refl s
  split
  · exact .refl s
  split
  · dsimp only
    split
    · split
      · exact (sameMetering_putUnit ..).trans (sameMetering_of_frame (takeStop_frame ..))
      · exact sameMetering_putUnit ..
    · exact sameMetering_putUnit ..
  · exact .refl s

theorem sameMetering_zoneEvaluation {zone : Nat} {s t : State} (run : exec (.zoneEvaluation zone) s = .next t) :
    SameMetering s t := by
  cases run
  split
  · exact .refl s
  split
  · have armed (r : Zone) : SameMetering s (s.putZone zone r) := ⟨rfl, rfl, rfl, rfl, rfl⟩
    exact (armed _).trans (sameMetering_of_frame (evaluate_frame zone _))
  · exact .refl s

theorem sameMetering_overrideEnd {zone : Nat} {s t : State} (run : exec (.overrideEnd zone) s = .next t) :
    SameMetering s t := by
  cases run
  split
  · exact .refl s
  split
  · exact .refl s
  split
  · exact ⟨rfl, rfl, rfl, rfl, rfl⟩
  · exact .refl s

theorem sameMetering_deliver (s : State) : SameMetering s s.deliver := sameMetering_of_frame (deliver_frame s)

theorem sameMetering_setSchedule (c : Schedule) (s : State) : SameMetering s (s.setSchedule c) :=
  ⟨rfl, rfl, rfl, rfl, rfl⟩

theorem sameMetering_clockTick {s t : State} (run : exec .clockTick s = .next t) : SameMetering s t := by
  cases run
  split
  · exact .refl s
  dsimp only
  split
  · exact (sameMetering_setSchedule ..).trans (sameMetering_deliver _)
  · exact sameMetering_setSchedule ..

/-! ### Smoke and restart (R136, R138, R171) -/

theorem sameMetering_enterShutdown (s : State) : SameMetering s s.enterShutdown := by
  unfold State.enterShutdown
  extract_lets _ m stopped acted zoned
  have noted : SameMetering s m := ⟨rfl, rfl, rfl, rfl, rfl⟩
  have closed : SameMetering stopped zoned.closeWindow := ⟨rfl, rfl, rfl, rfl, rfl⟩
  exact (noted.trans (sameMetering_stopEverything .shutdown m)).trans closed

theorem sameMetering_smokeAsserted {s t : State} (run : exec .smokeAsserted s = .next t) : SameMetering s t := by
  cases run
  have level : SameMetering s (s.setHost { s.host with smoke := true }) := ⟨rfl, rfl, rfl, rfl, rfl⟩
  split
  · exact level.trans (sameMetering_enterShutdown _)
  · exact level

theorem sameMetering_restart (s : State) : SameMetering s s.restart := by
  unfold State.restart
  extract_lets stopped armed zoned
  have closed : SameMetering stopped zoned.closeWindow := ⟨rfl, rfl, rfl, rfl, rfl⟩
  exact (sameMetering_stopEverything .restart s).trans closed

/-! ### Intervals (R54, R57) -/

theorem IntervalLength.bounds {n : Nat} (h : IntervalLength n) : 0 < n ∧ n ≤ 3600 := by
  unfold IntervalLength at h
  omega

/-- R54: an interval opens empty. -/
theorem newInterval_empty (length : Nat) (atClockSet : Bool) (s : State) :
    (s.newInterval length atClockSet).energy = 0 ∧ (s.newInterval length atClockSet).elapsed = 0 ∧
      (s.newInterval length atClockSet).peak = 0 := by
  unfold State.newInterval
  split <;> exact ⟨rfl, rfl, rfl⟩

theorem newInterval_inRange {length : Nat} (h : IntervalLength length) (atClockSet : Bool) (s : State) :
    (s.newInterval length atClockSet).InRange := by
  obtain ⟨positive, most⟩ := h.bounds
  obtain ⟨opens, fits⟩ := newInterval_effective positive atClockSet s
  obtain ⟨energy, elapsed, peak⟩ := newInterval_empty length atClockSet s
  exact ⟨elapsed ▸ opens, fits.trans most, by rw [energy]; exact Nat.zero_le _, by rw [peak]; exact Nat.zero_le _⟩

theorem RecordsInRange.nextLength {s : State} (records : RecordsInRange s) : IntervalLength s.meter.nextLength := by
  unfold Meter.nextLength
  cases pending : s.meter.pendingLength with
  | none => exact records.length
  | some n => exact records.pending n pending

theorem meterLaw_openInterval (atClockSet : Bool) {s : State} (records : RecordsInRange s) :
    MeterLaw (s.openInterval atClockSet) :=
  meterLaw_iff.mpr ⟨⟨records.history, records.length, nofun, records.image⟩,
    newInterval_inRange records.nextLength atClockSet s⟩

/-- R57, R63: a close makes a record and opens an interval, whatever interval it closes. -/
theorem meterLaw_closeInterval (ceiling : Nat) (atClockSet : Bool) {s : State} (records : RecordsInRange s) :
    MeterLaw (s.closeInterval ceiling atClockSet) := by
  unfold State.closeInterval
  extract_lets h recorded noted
  have kept : RecordsInRange recorded :=
    ⟨record_history h records.history, records.length, records.pending, records.image⟩
  refine meterLaw_openInterval atClockSet ?_
  unfold noted
  split
  · exact (sameMetering_raise ..).records kept
  · exact kept

theorem meterLaw_meterClockSet (ceiling : Nat) {s : State} (law : MeterLaw s) : MeterLaw (s.meterClockSet ceiling) := by
  unfold State.meterClockSet
  split
  · exact meterLaw_openInterval true law.records
  · exact meterLaw_closeInterval ceiling true law.records

/-! ### The accumulation event (R57, R61, R62) -/

theorem presentLoad_le (s : State) : s.presentLoad ≤ 65535 := Nat.min_le_left ..

/-- A change of the interval that leaves its lengths, its energy and its peak. -/
theorem meterLaw_setInterval {s : State} {i : Interval} (records : RecordsInRange s) (range : i.InRange) :
    MeterLaw (s.setMeter { s.meter with interval := i }) :=
  meterLaw_iff.mpr ⟨⟨records.history, records.length, records.pending, records.image⟩, range⟩

/-- R57: an interval that is not full after a second of load keeps its ranges. -/
theorem metered_law {s : State} (law : MeterLaw s)
    (notFull : s.metered.meter.interval.elapsed ≠ s.metered.meter.interval.effective) : MeterLaw s.metered := by
  obtain ⟨running, length, energy, peak⟩ := law.inRange
  have load := presentLoad_le s
  refine meterLaw_setInterval law.records ⟨?_, length, ?_, max_le peak load⟩
  · exact Nat.lt_of_le_of_ne running notFull
  · simp only [Interval.add]
    omega

theorem metered_records {s : State} (law : MeterLaw s) : RecordsInRange s.metered :=
  ⟨law.history, law.length, law.pending, law.image⟩

theorem meterLaw_shed (c : ShedCandidate) {s : State} (law : MeterLaw s) : MeterLaw (s.shed c) := by
  have stopped := (sameMetering_of_frame (takeStop_frame c.unit c.stage .shed s)).law law
  obtain ⟨running, length, energy, peak⟩ := stopped.inRange
  exact meterLaw_setInterval stopped.records ⟨running, length, energy, peak⟩

theorem meterLaw_recordOverrun (load : Nat) {s : State} (law : MeterLaw s) : MeterLaw (s.recordOverrun load) := by
  obtain ⟨running, length, energy, peak⟩ := law.inRange
  have marked : MeterLaw (s.setMeter { s.meter with interval := { s.meter.interval with overrun := true } }) :=
    meterLaw_setInterval law.records ⟨running, length, energy, peak⟩
  unfold State.recordOverrun
  dsimp only
  split
  · exact marked
  · exact (sameMetering_raise ..).law marked

theorem meterLaw_accumulationEvent {s t : State} (law : MeterLaw s) (run : exec .accumulationEvent s = .next t) :
    MeterLaw t := by
  have attempt {s : State} (law : MeterLaw s) : MeterLaw (s.attempt .meter) :=
    (sameMetering_of_frame (attempt_frame .meter s)).law law
  rw [execAccumulationEvent_eq] at run
  cases run
  split
  · exact meterLaw_closeInterval _ _ (metered_records law)
  rename_i notFull
  have added := metered_law law notFull
  split
  · split
    · exact meterLaw_shed _ added
    · exact attempt (meterLaw_recordOverrun _ added)
  · exact attempt added

/-! ### The limits record, the image and the load at power-on (R45, R47, R177 to R180) -/

/-- R45: limits with an interval length that is one of the five. -/
theorem meterLaw_apply {l : Limits} (length : IntervalLength l.length) {s : State} (law : MeterLaw s) :
    MeterLaw (s.setMeter (s.meter.apply l)) := by
  rw [meterApply_eq]
  refine meterLaw_iff.mpr ⟨⟨law.history, length, fun n pending => ?_, law.image⟩, law.inRange⟩
  simp only [setMeter_meter] at pending
  split at pending
  · cases pending
  · cases pending
    exact length

theorem meterLaw_applyLimits {l : Limits} (length : IntervalLength l.length) {s : State} (law : MeterLaw s) :
    MeterLaw (s.applyLimits l) := by
  unfold State.applyLimits
  dsimp only
  split
  · exact (sameMetering_raise ..).law (meterLaw_apply length law)
  · exact meterLaw_apply length law

theorem defaultLength : IntervalLength Limits.default.length := by
  unfold IntervalLength
  decide

/-- A change of the image to contents whose interval length is one of the five. -/
theorem meterLaw_setStore {store : Store} (image : IntervalLength store.image.contents.limits.length) {s : State}
    (law : MeterLaw s) : MeterLaw (s.setStore store) :=
  ⟨law.history, law.length, law.pending, image, law.interval, law.energy, law.peak⟩

theorem meterLaw_clear {s : State} (law : MeterLaw s) : MeterLaw s.clear := by
  unfold State.clear
  extract_lets freed tabled zoned _ scheduled profiled applied
  have kept : SameMetering s freed := sameMetering_foldl (fun s _ => sameMetering_of_frame (freeUnit_frame _ s)) _ s
  have cleared : SameMetering freed profiled := ⟨rfl, rfl, rfl, rfl, rfl⟩
  exact meterLaw_setStore defaultLength (meterLaw_apply defaultLength ((kept.trans cleared).law law))

/-- R180: the limits that an image gives have an interval length that is one of the five. -/
theorem load_length {i : Image} (length : IntervalLength i.contents.limits.length) :
    IntervalLength i.load.limits.length := by
  unfold Image.load
  split
  · exact length
  · exact defaultLength

theorem meterLaw_loaded (smoke service protect : Bool) {s : State} (law : MeterLaw s) :
    MeterLaw (s.loaded smoke service protect) := by
  have length := load_length law.image
  have base {m : State} (history : m.meter.history = []) (limits : m.meter.limits = s.store.image.load.limits)
      (pending : m.meter.pendingLength = none) (image : m.store.image = s.store.image)
      (interval : m.meter.interval = { State.reset.meter.interval with
        length := s.store.image.load.limits.length, effective := s.store.image.load.limits.length }) : MeterLaw m := by
    refine meterLaw_iff.mpr ⟨⟨by simp [history], limits ▸ length, by simp [pending], image ▸ law.image⟩, ?_⟩
    rw [interval]
    exact ⟨length.bounds.1, length.bounds.2, Nat.zero_le _, Nat.zero_le _⟩
  unfold State.loaded
  dsimp only
  split <;> exact base rfl rfl rfl rfl rfl

theorem sameMetering_remake (s : State) (p : Nat × SavedBinding) : SameMetering s (s.remake p) := by
  unfold State.remake
  split
  · rename_i d _ _
    refine (sameMetering_of_frame (bindUnit_frame p.1 p.2.zone d p.2.counter s)).trans ?_
    unfold State.smokeAtBinding
    split
    · exact sameMetering_of_frame (onUnit_frame ..)
    · exact .refl _
  · exact sameMetering_raise ..
  · exact .refl s

theorem meterLaw_powerOn {smoke service protect : Bool} {s t : State} (law : MeterLaw s)
    (run : exec (.powerOn smoke service protect) s = .next t) : MeterLaw t := by
  cases run
  have bound := sameMetering_foldl sameMetering_remake s.store.image.load.bindings (s.loaded smoke service protect)
  exact SameMetering.law ⟨bound.limits, bound.pending, bound.interval, bound.history, bound.image⟩
    (meterLaw_loaded smoke service protect law)

theorem sameMetering_saveCompletion {equal : Bool} {s t : State} (run : exec (.saveCompletion equal) s = .next t) :
    SameMetering s t := by
  cases run
  split
  · unfold State.completeSave
    dsimp only
    split <;> exact ⟨rfl, rfl, rfl, rfl, rfl⟩
  · exact .refl s

theorem sameMetering_siteStale {s t : State} (run : exec .siteStale s = .next t) : SameMetering s t := by
  cases run
  split <;> exact ⟨rfl, rfl, rfl, rfl, rfl⟩

/-! ### Requests (R169, R170) -/

/-- Numbered checks none of which fails all pass. -/
theorem firstFailing_eq_none_iff {checks : List (Nat × Bool)} :
    firstFailing checks = none ↔ ∀ c ∈ checks, c.2 = true := by
  simp [firstFailing]

/-- R45: limits that pass the checks of DEMAND.LIMITS have an interval length that is one of the five. -/
theorem limitsFailure_none {l : Limits} (passes : limitsFailure l = none) : IntervalLength l.length := by
  have fourth := firstFailing_eq_none_iff.mp passes (4, [300, 600, 900, 1800, 3600].contains l.length) (by simp)
  simpa [IntervalLength] using fourth

theorem sameMetering_serveUnitBind (unit zone : Byte) (s : State) : SameMetering s (serveUnitBind unit zone s).1 := by
  unfold serveUnitBind
  split
  · exact .refl s
  · exact .refl s
  · split
    · exact .refl s
    · exact sameMetering_of_frame (bindUnit_frame ..)

theorem sameMetering_serveUnitFree (unit : Byte) (s : State) : SameMetering s (serveUnitFree unit s).1 := by
  unfold serveUnitFree
  split
  · exact .refl s
  split
  · exact .refl s
  split
  · exact .refl s
  · exact sameMetering_of_frame (freeUnit_frame ..)

theorem sameMetering_serveUnitRefresh (unit : Byte) (s : State) : SameMetering s (serveUnitRefresh unit s).1 := by
  unfold serveUnitRefresh
  dsimp only
  split
  · exact .refl s
  split
  · rename_i b d _ _
    split
    · exact .refl s
    split
    · exact .refl s
    split
    · exact .refl s
    have refreshed := sameMetering_putUnit unit.toNat (b.refresh d) s
    unfold accept
    dsimp only
    split
    · exact refreshed.trans (sameMetering_takeFallback ..)
    · exact refreshed
  · exact .refl s

theorem sameMetering_serveSchedFill (mask : Byte) (values : List FillValue) (s : State) :
    SameMetering s (serveSchedFill mask values s).1 := by
  have delivered (cells : List Nat) (s : State) : SameMetering s (s.deliverWritten cells) := by
    unfold State.deliverWritten
    split <;> exact ⟨rfl, rfl, rfl, rfl, rfl⟩
  unfold serveSchedFill
  split
  · exact .refl s
  split
  · exact .refl s
  split
  · exact .refl s
  · exact (sameMetering_setSchedule ..).trans (delivered _ _)

theorem sameMetering_servePartRelease (s : State) : SameMetering s (servePartRelease s).1 := by
  unfold servePartRelease
  split
  · exact .refl s
  · unfold accept
    dsimp only
    split <;> exact ⟨rfl, rfl, rfl, rfl, rfl⟩

/-- The requests whose owners refuse, or write one item of another block than the meter and the store. -/
def requestWritesElsewhere : Request → Bool
  | .partProtect .. | .noteTake | .unitPut .. | .stageUnlock .. | .zonePut .. | .zoneOverride .. | .schedWindow ..
  | .schedEnd | .profilePut .. => true
  | _ => false

theorem sameMetering_serve {r : Request} (writes : requestWritesElsewhere r = true) (s : State) :
    SameMetering s (serve r s).1 := by
  cases r with
  | noteTake => exact ⟨rfl, rfl, rfl, rfl, rfl⟩
  | partProtect | unitPut | stageUnlock | zonePut | zoneOverride | schedWindow | schedEnd | profilePut =>
    simp only [serve, servePartProtect, serveUnitPut, serveStageUnlock, serveZonePut, State.defineZone, serveZoneOverride,
      serveSchedWindow, serveSchedEnd, serveProfilePut]
    repeat' split
    all_goals exact ⟨rfl, rfl, rfl, rfl, rfl⟩
  | _ => cases writes

/-- R170: what the owner of a request leaves of the meter's ranges. -/
theorem meterLaw_serve (r : Request) {s : State} (law : MeterLaw s) : MeterLaw (serve r s).1 := by
  cases r with
  | partRestart =>
    simp only [serve, servePartRestart]
    split
    · exact law
    · exact (sameMetering_restart s).law law
  | partRelease => exact (sameMetering_servePartRelease s).law law
  | clockSet day minute second mark weekday =>
    simp only [serve, serveClockSet]
    split
    · exact law
    · exact (sameMetering_useFree ..).law
        (meterLaw_meterClockSet _ (((sameMetering_setSchedule ..).trans (sameMetering_deliver _)).law law))
  | demandLimits ceiling recovery cap length fallback stale spacing =>
    simp only [serve, serveDemandLimits]
    split
    · exact law
    · exact meterLaw_applyLimits (limitsFailure_none ‹_›) law
  | demandSite load => exact SameMetering.law (s := s) ⟨rfl, rfl, rfl, rfl, rfl⟩ law
  | storeSave =>
    simp only [serve, serveStoreSave]
    split
    · exact law
    · exact meterLaw_setStore law.length law
  | storeClear =>
    simp only [serve, serveStoreClear]
    split
    · exact law
    split
    · exact law
    · exact meterLaw_clear law
  | unitBind unit zone => exact (sameMetering_serveUnitBind unit zone s).law law
  | unitFree unit => exact (sameMetering_serveUnitFree unit s).law law
  | unitRefresh unit => exact (sameMetering_serveUnitRefresh unit s).law law
  | schedFill mask values => exact (sameMetering_serveSchedFill mask values s).law law
  | partProtect | noteTake | unitPut | stageUnlock | zonePut | zoneOverride | schedWindow | schedEnd | profilePut =>
    exact (sameMetering_serve rfl s).law law
  | partStatus | clockGet | unitGet | unitReadings | stageGet | queueGet | zoneGet | schedGet | profileGet | demandGet
  | demandHistory =>
    rw [serve_read rfl]
    exact law

theorem sameMetering_setHost (h : HostLink) (s : State) : SameMetering s (s.setHost h) := ⟨rfl, rfl, rfl, rfl, rfl⟩

theorem meterLaw_takeRequest (tag : Byte) (r : Request) {s : State} (law : MeterLaw s) :
    MeterLaw (s.takeRequest tag r) := by
  refine (sameMetering_setHost _ (s.answerTo r).1).law ?_
  unfold State.answerTo
  split
  · exact law
  · exact meterLaw_serve r law

theorem meterLaw_takeFrame (f : Frame) {s : State} (law : MeterLaw s) : MeterLaw (s.takeFrame f) := by
  unfold State.takeFrame
  split
  · exact (sameMetering_setHost ..).law law
  · exact (sameMetering_setHost ..).law law
  · exact meterLaw_takeRequest _ _ law

theorem meterLaw_holdFrame (f : Frame) {s : State} (law : MeterLaw s) : MeterLaw (s.holdFrame f) := by
  rw [holdFrame_frame]
  exact (sameMetering_setHost ..).law law

theorem meterLaw_offerFrame (f : Frame) {s : State} (law : MeterLaw s) : MeterLaw (s.offerFrame f) := by
  unfold State.offerFrame
  split
  · exact meterLaw_takeFrame f law
  · exact meterLaw_holdFrame f law

theorem meterLaw_offerRequest (tag : Byte) (r : Request) {s : State} (law : MeterLaw s) :
    MeterLaw (s.offerRequest tag r) := by
  unfold State.offerRequest
  split
  · exact meterLaw_takeRequest tag r law
  · exact meterLaw_holdFrame _ law

/-! ### The line (R167, R168) -/

theorem meterLaw_setReceiver (r : Receiver) {s : State} (law : MeterLaw s) : MeterLaw (s.setReceiver r) :=
  (sameMetering_setHost ..).law law

theorem meterLaw_collect (bytes : List Byte) (byte : Byte) {s : State} (law : MeterLaw s) :
    MeterLaw (s.collect bytes byte) := by
  unfold State.collect
  split
  · exact meterLaw_setReceiver _ law
  dsimp only
  split
  · exact meterLaw_setReceiver _ law
  split
  · exact meterLaw_setReceiver _ law
  · exact meterLaw_offerFrame _ (meterLaw_setReceiver _ law)

theorem meterLaw_hostByteReceived {byte : Byte} {s t : State} (law : MeterLaw s)
    (run : exec (.hostByteReceived byte) s = .next t) : MeterLaw t := by
  cases run
  split
  · split
    · exact meterLaw_setReceiver _ law
    · exact law
  · exact meterLaw_collect _ _ law

theorem meterLaw_replySent {s t : State} (law : MeterLaw s) (run : exec .replySent s = .next t) : MeterLaw t := by
  cases run
  split
  · exact law
  split
  · exact (sameMetering_setHost ..).law law
  · exact meterLaw_takeFrame _ ((sameMetering_setHost ..).law law)

/-! ### Every command and every second -/

theorem meterLaw_exec {c : Instr} {s t : State} (law : MeterLaw s) (run : exec c s = .next t) : MeterLaw t := by
  cases c with
  | powerOn => exact meterLaw_powerOn law run
  | accumulationEvent => exact meterLaw_accumulationEvent law run
  | hostByteReceived => exact meterLaw_hostByteReceived law run
  | replySent => exact meterLaw_replySent law run
  | smokeAsserted => exact (sameMetering_smokeAsserted run).law law
  | smokeNegated | serviceLineChange | protectLineChange | receiveGapTimeout =>
    cases run
    exact (sameMetering_setHost ..).law law
  | saveCompletion => exact (sameMetering_saveCompletion run).law law
  | siteStale => exact (sameMetering_siteStale run).law law
  | minOnExpiry => exact (sameMetering_minOnExpiry run).law law
  | provingExpiry => exact (sameMetering_provingExpiry run).law law
  | minOffExpiry | tripCountClear | purgeExpiry | holdOffExpiry =>
    cases run
    exact (sameMetering_of_frame (onUnit_frame ..)).law law
  | fallbackExpiry =>
    cases run
    exact (sameMetering_takeFallback ..).law law
  | rampStep =>
    cases run
    exact SameMetering.law (s := s) ⟨rfl, rfl, rfl, rfl, rfl⟩ law
  | staggerExpiry =>
    rw [execStaggerExpiry_eq] at run
    cases run
    split
    · have stopped : SameMetering s s.staggerStopped := ⟨rfl, rfl, rfl, rfl, rfl⟩
      exact (stopped.trans (sameMetering_of_frame (attempt_frame ..))).law law
    · exact law
  | zoneEvaluation => exact (sameMetering_zoneEvaluation run).law law
  | changeoverExpiry =>
    cases run
    exact (sameMetering_of_frame (onZone_frame ..)).law law
  | overrideEnd => exact (sameMetering_overrideEnd run).law law
  | clockTick => exact (sameMetering_clockTick run).law law
  | pollCycleStart => exact (sameMetering_pollCycleStart run).law law
  | visitEnd => exact (sameMetering_visitEnd run).law law
  | _ =>
    cases run
    exact meterLaw_offerRequest _ _ law

/-- Settles O57: a second moves the site age alone, and a command that writes the interval, the history or a length writes one
in its range. -/
theorem everyStepKeepsTheMeterInItsRanges : Obligations.EveryStepKeepsTheMeterInItsRanges := by
  unfold Obligations.EveryStepKeepsTheMeterInItsRanges
  intro s t law run
  obtain ⟨_, rfl⟩ | ⟨c, rest, _, run⟩ := step_cases run
  · exact SameMetering.law (s := s) ⟨rfl, rfl, rfl, rfl, rfl⟩ law
  · have popped : SameMetering s { s with pending := rest } := ⟨rfl, rfl, rfl, rfl, rfl⟩
    exact meterLaw_exec (popped.law law) run

end Sys2Proof.Machine
end

section
/-! PROOF. O22, O23, O40 and O41: the meter's requests, and the site load that goes stale. -/

namespace Sys2Proof.Machine

/-! ### Load and ceiling in the words of R50 to R59 -/

theorem fanShare_eq (s : State) : s.fanShare = Rule.fanLoads s := rfl

theorem hvacLoad_eq (s : State) : s.hvacLoad = Rule.hvacLoad s := by
  unfold State.hvacLoad Rule.hvacLoad BoundUnit.stageLoad BoundUnit.stageCounts allStages
  rfl

theorem recoveryZones_eq (s : State) : s.recoveryZones = Rule.recoveryZones s := rfl

theorem ceiling_eq (s : State) : s.ceiling = Rule.ceiling s := rfl

/-! ### DEMAND.GET (R65) -/

/-- R170: no common check refuses a request with free counts that no state, keyswitch, save or level shuts out. -/
theorem commonCheck_eq_none {r : Request} (counts : requestMalformed r = false) (service : requestServiceOnly r = false)
    (halted : requestHalted r = false) (tables : requestTableChanging r = false)
    (levels : ∀ level, requestLocked level r = false) (s : State) : s.commonCheck r = none := by
  simp [State.commonCheck, counts, service, halted, tables, levels]

/-- Settles O22: the owner's reply is the rule's list, field by field. -/
theorem demandGetReportsTheMeter : Obligations.DemandGetReportsTheMeter := by
  unfold Obligations.DemandGetReportsTheMeter
  intro tag s idle
  refine (exec_request_served (r := .demandGet) idle (commonCheck_eq_none rfl rfl rfl rfl (fun _ => rfl) s)
    (a := (serveDemandGet s).2) rfl tag).trans ?_
  simp only [serveDemandGet, accept, encLimits, encInterval, presentLoad_eq, hvacLoad_eq, fanShare_eq,
    recoveryZones_eq, ceiling_eq, State.allowedEnergy, Interval.projected, Interval.left, encWord, Config.loadMax,
    ← List.append_assoc]
  cases s.meter.interval.start <;> rfl

/-! ### DEMAND.HISTORY (R64) -/

/-- R64: what a DEMAND.HISTORY reads of a list held oldest first. -/
def newestFrom {α : Type} (offset count : Nat) (history : List α) : List α := (history.reverse.drop offset).take count

theorem newestFrom_length {α : Type} (offset count : Nat) (history : List α) :
    (newestFrom offset count history).length = min count (history.length - offset) := by
  simp [newestFrom]

/-- R64: the records are counted back from the newest. -/
theorem newestFrom_get {α : Type} {offset count i : Nat} {history : List α}
    (h : i < (newestFrom offset count history).length) :
    (newestFrom offset count history)[i]? = history[history.length - 1 - (offset + i)]? := by
  rw [newestFrom_length] at h
  rw [newestFrom, List.getElem?_take_of_lt (by omega), List.getElem?_drop, List.getElem?_reverse (by omega)]

theorem serveDemandHistory_index {offset count : Byte}
    (h : ¬(offset.toNat ≤ 95 ∧ 1 ≤ count.toNat ∧ count.toNat ≤ 10)) (s : State) :
    serveDemandHistory offset count s = refuse s .index := by
  rw [serveDemandHistory, if_neg (by simpa [within] using h)]

theorem serveDemandHistory_records {offset count : Byte} (near : offset.toNat ≤ 95) (low : 1 ≤ count.toNat)
    (high : count.toNat ≤ 10) (s : State) :
    serveDemandHistory offset count s =
      accept s
        (enc8 s.meter.history.length ++ encWord s.meter.closeCount ++
          encList encHistory (newestFrom offset.toNat count.toNat s.meter.history)) := by
  rw [serveDemandHistory, if_pos (by simp [within, near, low, high])]
  rfl

/-- Settles O23: the owner reads the history backwards. -/
theorem demandHistoryReturnsRecordsNewestFirst : Obligations.DemandHistoryReturnsRecordsNewestFirst := by
  unfold Obligations.DemandHistoryReturnsRecordsNewestFirst
  intro tag offset count s idle
  have answered {t : State} {a : Answer} (served : serveDemandHistory offset count s = (t, a)) :
      exec (.demandHistory tag offset count) s = .next (t.answering 0x3B#8 tag a.result a.payload) :=
    exec_request_served (r := .demandHistory offset count) idle
      (commonCheck_eq_none rfl rfl rfl rfl (fun _ => rfl) s) served tag
  refine ⟨fun bad => answered (serveDemandHistory_index bad s), fun near low high => ⟨_, newestFrom_length _ _ _,
    fun i => newestFrom_get, answered (a := { result := .accepted, payload := _ }) ?_⟩⟩
  rw [serveDemandHistory_records near low high, encList, ← List.append_assoc]
  refine congrArg (fun f => accept s (_ ++ List.flatMap f _)) (funext fun h => ?_)
  simp only [encHistory]
  cases h.start <;> rfl

/-! ### The site load (R48, R49) -/

/-- R49: the site load is due to go stale while it is fresh and its age has reached the site-stale time. -/
theorem staleDue_iff {m : Meter} :
    m.staleDue = true ↔ m.siteStale = false ∧ ∃ age, m.siteAge = some age ∧ m.limits.stale ≤ age := by
  unfold Meter.staleDue
  cases m.siteAge <;> simp

/-- Settles O41: DEMAND.SITE is served in every state, and SITE_STALE acts exactly when it is due (R49). -/
theorem theSiteLoadIsTakenAndGoesStale : Obligations.TheSiteLoadIsTakenAndGoesStale := by
  unfold Obligations.TheSiteLoadIsTakenAndGoesStale
  intro tag load s
  refine ⟨fun idle => ?_, fun age known fresh reached => ?_, fun early => ?_⟩
  · refine (exec_request_served (r := .demandSite load) idle (commonCheck_eq_none rfl rfl rfl rfl (fun _ => rfl) s)
      (a := (serveDemandSite load s).2) rfl tag).trans ?_
    simp only [serveDemandSite, accept, presentLoad_eq, ceiling_eq]
    rfl
  · have due : s.meter.staleDue = true := staleDue_iff.mpr ⟨fresh, age, known, reached⟩
    simp only [exec, execSiteStale, if_pos due, State.goStale, State.noteStale, raise_eq]
    rfl
  · have notDue : ¬s.meter.staleDue = true := fun due => by
      obtain ⟨fresh, age, known, reached⟩ := staleDue_iff.mp due
      rcases early with stale | young
      · exact Bool.false_ne_true (fresh.symm.trans stale)
      · exact Nat.not_le.mpr (young age known) reached
    exact congrArg Host.Outcome.next (if_neg notDue)

/-! ### DEMAND.LIMITS (R45 to R47) -/

/-- R152, R170: in NORMAL, with no save and a level below 3, no common check refuses DEMAND.LIMITS. -/
theorem commonCheck_demandLimits {s : State} (normal : s.host.run = .normal) (saving : s.store.saving = false)
    (level : s.table.level < 3) (ceiling recovery cap length fallback stale spacing : Half) :
    s.commonCheck (.demandLimits ceiling recovery cap length fallback stale spacing) = none := by
  simp [State.commonCheck, requestMalformed, requestServiceOnly, requestLocked, normal, saving, level]

/-- R46: the record that a DEMAND.LIMITS carries; reducible, for the checks on it are decided through it. -/
@[reducible] def Limits.ofFields (ceiling recovery cap length fallback stale spacing : Half) : Limits :=
  { ceiling := ceiling.toNat, recovery := recovery.toNat, cap := cap.toNat, length := length.toNat,
    fallback := fallback.toNat, stale := stale.toNat, spacing := spacing.toNat }

/-- Of numbered checks in rising order, each a test of its number, the first that fails is the least number that fails. -/
theorem firstFailing_eq_some {P : Nat → Prop} {checks : List (Nat × Bool)} {n : Nat}
    (rising : (checks.map Prod.fst).Pairwise (· < ·)) (tests : ∀ c ∈ checks, c.2 = true ↔ P c.1)
    (listed : n ∈ checks.map Prod.fst) (fails : ¬P n) (before : ∀ m ∈ checks.map Prod.fst, m < n → P m) :
    firstFailing checks = some n := by
  induction checks with
  | nil => cases listed
  | cons c rest ih =>
    rw [List.map_cons] at rising listed before
    obtain ⟨least, rising⟩ := List.pairwise_cons.mp rising
    rcases List.mem_cons.mp listed with rfl | later
    · have failed : c.2 = false := Bool.eq_false_iff.mpr (mt (tests c List.mem_cons_self).mp fails)
      simp [firstFailing, failed]
    · have passed : c.2 = true :=
        (tests c List.mem_cons_self).mpr (before c.1 List.mem_cons_self (least n later))
      have skipped : firstFailing (c :: rest) = firstFailing rest := by simp [firstFailing, passed]
      rw [skipped]
      exact ih rising (fun d hd => tests d (List.mem_cons_of_mem c hd)) later
        fun m hm => before m (List.mem_cons_of_mem c.1 hm)

/-- R45: the seven checks of a limits record are those of its table; the range of field 5 and the bound of field 3 at 65,535 are
met by every field of two bytes. -/
theorem limitsFailure_tests (ceiling recovery cap length fallback stale spacing : Half) :
    ∃ checks : List (Nat × Bool), checks.map Prod.fst = [1, 2, 3, 4, 5, 6, 7] ∧
      (∀ c ∈ checks, c.2 = true ↔ Rule.LimitFits ceiling recovery cap length stale spacing c.1) ∧
      limitsFailure (.ofFields ceiling recovery cap length fallback stale spacing) = firstFailing checks := by
  have word (h : Half) : h.toNat ≤ 65535 := Nat.le_of_lt_succ h.isLt
  refine ⟨_, rfl, ?_, rfl⟩
  simp [within, Rule.LimitFits, IntervalLength, word]

theorem limitsFailure_some {ceiling recovery cap length stale spacing : Half} {n : Nat} (low : 1 ≤ n) (high : n ≤ 7)
    (fails : ¬Rule.LimitFits ceiling recovery cap length stale spacing n)
    (before : ∀ m, 1 ≤ m → m < n → Rule.LimitFits ceiling recovery cap length stale spacing m) (fallback : Half) :
    limitsFailure (.ofFields ceiling recovery cap length fallback stale spacing) = some n := by
  obtain ⟨checks, numbers, tests, eq⟩ := limitsFailure_tests ceiling recovery cap length fallback stale spacing
  have numbered (m : Nat) : m ∈ checks.map Prod.fst ↔ 1 ≤ m ∧ m ≤ 7 := by
    simp only [numbers, List.mem_cons, List.not_mem_nil, or_false]
    omega
  rw [eq]
  exact firstFailing_eq_some (by rw [numbers]; decide) tests ((numbered n).mpr ⟨low, high⟩) fails
    fun m hm => before m ((numbered m).mp hm).1

theorem limitsFailure_eq_none {ceiling recovery cap length stale spacing : Half}
    (fits : ∀ n, 1 ≤ n → n ≤ 7 → Rule.LimitFits ceiling recovery cap length stale spacing n) (fallback : Half) :
    limitsFailure (.ofFields ceiling recovery cap length fallback stale spacing) = none := by
  obtain ⟨checks, numbers, tests, eq⟩ := limitsFailure_tests ceiling recovery cap length fallback stale spacing
  rw [eq, firstFailing_eq_none_iff]
  intro c hc
  have number : c.1 ∈ [1, 2, 3, 4, 5, 6, 7] := numbers ▸ List.mem_map_of_mem hc
  simp only [List.mem_cons, List.not_mem_nil, or_false] at number
  exact (tests c hc).mpr (fits c.1 (by omega) (by omega))

/-- R47, R49: a site load goes stale at once where the new site-stale time is shorter and its age has reached it. -/
theorem expires_iff {l : Limits} {m : Meter} :
    m.expires l = true ↔ l.stale < m.limits.stale ∧ m.siteStale = false ∧ ∃ age, m.siteAge = some age ∧ l.stale ≤ age := by
  simp only [Meter.expires, Bool.and_eq_true, decide_eq_true_eq, staleDue_iff]
  rfl

/-- R46, R47: the state after a limits record is applied: `meterApply_eq` says what the meter is. -/
theorem applyLimits_eq (l : Limits) (s : State) :
    s.applyLimits l = { s with
      meter := s.meter.apply l
      host := if s.meter.expires l then noting s .siteStale none none none (some l.fallback) else s.host } := by
  have fallback : (s.meter.apply l).limits.fallback = l.fallback := by rw [meterApply_eq]
  unfold State.applyLimits
  dsimp only
  split
  · simp only [State.noteStale, raise_eq, setMeter_meter, fallback]
    rfl
  · rfl

/-- R47: the next interval takes the length of the record just written. -/
theorem apply_nextLength (l : Limits) (m : Meter) : (m.apply l).nextLength = l.length := by
  rw [meterApply_eq]
  unfold Meter.nextLength
  dsimp only
  split <;> rfl

theorem enc16_toNat (h : Half) : enc16 h.toNat = halfBytes h := by rw [enc16, BitVec.ofNat_toNat, BitVec.setWidth_eq]

/-- R46: the reply of an accepted DEMAND.LIMITS: the ceiling in force and the length of the next interval. -/
theorem applyLimits_reply (ceiling recovery cap length fallback stale spacing : Half) (s : State) :
    enc16 (s.applyLimits (.ofFields ceiling recovery cap length fallback stale spacing)).ceiling ++
        enc16 (s.applyLimits (.ofFields ceiling recovery cap length fallback stale spacing)).meter.nextLength =
      (if 0 < Rule.recoveryZones s then halfBytes recovery else halfBytes ceiling) ++ halfBytes length := by
  simp only [applyLimits_eq, apply_nextLength]
  refine congrArg₂ (· ++ ·) ?_ (enc16_toNat length)
  rw [← enc16_toNat recovery, ← enc16_toNat ceiling, ← apply_ite enc16, ceiling_eq, Rule.ceiling, meterApply_eq]
  rfl

/-- Settles O40: the checks refuse the first field that fails, and what passes them is applied as `meterApply_eq` says. -/
theorem demandLimitsWritesTheRecord : Obligations.DemandLimitsWritesTheRecord := by
  unfold Obligations.DemandLimitsWritesTheRecord
  intro tag ceiling recovery cap length fallback stale spacing s goesStale idle normal saving level expires
  have answered {t : State} {a : Answer}
      (served : serveDemandLimits ceiling recovery cap length fallback stale spacing s = (t, a)) :
      exec (.demandLimits tag ceiling recovery cap length fallback stale spacing) s =
        .next (t.answering 0x38#8 tag a.result a.payload) :=
    exec_request_served (r := .demandLimits ceiling recovery cap length fallback stale spacing) idle
      (commonCheck_demandLimits normal saving level ..) served tag
  have served : serveDemandLimits ceiling recovery cap length fallback stale spacing s =
      match limitsFailure (.ofFields ceiling recovery cap length fallback stale spacing) with
      | some n => refuseRange s n
      | none =>
        let s := s.applyLimits (.ofFields ceiling recovery cap length fallback stale spacing)
        accept s (enc16 s.ceiling ++ enc16 s.meter.nextLength) := rfl
  refine ⟨fun n low high fails before => ?_, fun fits => ?_⟩
  · rw [limitsFailure_some low high fails before] at served
    exact answered served
  · have expired : s.meter.expires (.ofFields ceiling recovery cap length fallback stale spacing) = goesStale :=
      Bool.eq_iff_iff.mpr (expires_iff.trans expires.symm)
    rw [limitsFailure_eq_none fits] at served
    dsimp only at served
    rw [applyLimits_reply, applyLimits_eq, meterApply_eq, expired] at served
    simp only [Bool.or_eq_true] at served
    exact answered served

end Sys2Proof.Machine
end

section
/-! PROOF. O47: the accumulation event: the close of a full interval, the shed, the overrun and the grant attempt. -/

namespace Sys2Proof.Machine

/-! ### Which element a choice takes -/

/-- An order that puts nothing before itself both ways, and in which an element before another is before or after any third. -/
structure ChoiceOrder {α : Type} (before : α → α → Bool) : Prop where
  asymm : ∀ a b, before a b = true → before b a = false
  compares : ∀ a b c, before a c = true → before a b = true ∨ before b c = true

/-- The chosen element is one that no element of the list is before. -/
theorem not_before_choose {α : Type} {before : α → α → Bool} (order : ChoiceOrder before) {l : List α} {a : α}
    (chosen : choose before l = some a) : ∀ x ∈ l, before x a = false := by
  induction l generalizing a with
  | nil => exact fun x hx => absurd hx List.not_mem_nil
  | cons b l ih =>
    have irrefl (x : α) : before x x = false := Bool.eq_false_iff.mpr fun h => by
      rw [order.asymm x x h] at h
      cases h
    rw [choose] at chosen
    cases rest : choose before l with
    | none =>
      rw [rest] at chosen
      cases chosen
      rw [choose_eq_none.mp rest]
      exact List.forall_mem_cons.mpr ⟨irrefl b, fun x hx => absurd hx List.not_mem_nil⟩
    | some c =>
      simp only [rest] at chosen
      split at chosen
      · rename_i sooner
        cases chosen
        exact List.forall_mem_cons.mpr ⟨order.asymm a b sooner, ih rest⟩
      · rename_i later
        cases chosen
        refine List.forall_mem_cons.mpr ⟨irrefl b, fun x hx => Bool.eq_false_iff.mpr fun h => ?_⟩
        obtain first | first := order.compares x c b h
        · exact Bool.eq_false_iff.mp (ih rest x hx) first
        · exact later first

/-! ### The choice of a shed (R61) -/

theorem before_iff {a b : ShedCandidate} :
    a.before b = true ↔ a.priority < b.priority ∨ (a.priority = b.priority ∧
      (b.start < a.start ∨ (a.start = b.start ∧
        (b.unit < a.unit ∨ (a.unit = b.unit ∧ stageCode b.stage < stageCode a.stage))))) := by
  simp [ShedCandidate.before]

theorem shedOrder : ChoiceOrder ShedCandidate.before where
  asymm a b h := by
    rw [Bool.eq_false_iff, ne_eq, before_iff]
    rw [before_iff] at h
    omega
  compares a b c h := by
    rw [before_iff] at h ⊢
    rw [before_iff]
    omega

/-- R61: a stage that a shed may stop. -/
structure Sheddable (s : State) (u : Nat) (st : StageName) (b : BoundUnit) (r : StageRec) : Prop where
  unit : s.unit u = some b
  online : b.live.link = .online
  stage : b.stages.get st = some r
  runs : r.state = .run
  expired : r.minOn.isRunning = false

/-- R61: what the choice compares of a stage. -/
def State.candidate (s : State) (u : Nat) (st : StageName) (b : BoundUnit) (r : StageRec) : ShedCandidate :=
  { priority := s.zonePriority b.zone, start := (r.lastStart.getD 0#32).toNat, unit := u, stage := st }

theorem mem_unitShedCandidates {u : Nat} {b : BoundUnit} {c : ShedCandidate} {s : State} :
    c ∈ s.unitShedCandidates u b ↔
      b.live.link = .online ∧ ∃ st r, b.stages.get st = some r ∧ (r.state = .run ∧ r.minOn.isRunning = false) ∧
        c = s.candidate u st b r := by
  unfold State.unitShedCandidates
  split
  · rename_i online
    simp only [List.mem_filterMap, mem_allStages, true_and, online]
    refine exists_congr fun st => ?_
    cases b.stages.get st with
    | none => simp
    | some r =>
      simp only [Option.some.injEq, exists_eq_left', State.candidate, eq_comm (a := c)]
      split <;> simp [*]
  · rename_i offline
    simp [offline]

/-- R61: the candidates are the stages that a shed may stop. -/
theorem mem_shedCandidates {c : ShedCandidate} {s : State} (form : Table.wf s.units = true) :
    c ∈ s.shedCandidates ↔ ∃ u st b r, Sheddable s u st b r ∧ c = s.candidate u st b r := by
  simp only [State.shedCandidates, List.mem_flatMap, mem_unitShedCandidates]
  constructor
  · rintro ⟨⟨u, b⟩, listed, online, st, r, stage, ⟨runs, expired⟩, rfl⟩
    exact ⟨u, st, b, r, ⟨((mem_iff_find form u b).mp listed).2, online, stage, runs, expired⟩, rfl⟩
  · rintro ⟨u, st, b, r, ⟨unit, online, stage, runs, expired⟩, rfl⟩
    exact ⟨(u, b), (mem_iff_find form u b).mpr ⟨(lt_and_put_of_find form unit).1, unit⟩, online, st, r, stage,
      ⟨runs, expired⟩, rfl⟩

/-! ### A shed (R10, R61) -/

/-- R10: a shed takes a RUN stage with min-on expired to REST. -/
theorem takeStop_shed {r : StageRec} (runs : r.state = .run) (expired : r.minOn.isRunning = false) (d : Descriptor)
    (now : Word) : r.takeStop d now .shed = (r.recordStop now .shed).toRest d := if_pos ⟨runs, expired⟩

/-- R61: what a shed leaves of the units. -/
theorem shed_units {u : Nat} {st : StageName} {b : BoundUnit} {r : StageRec} {s : State} (ready : Sheddable s u st b r) :
    ∃ b' r', (∀ v, (s.shed (s.candidate u st b r)).unit v = if v = u then some b' else s.unit v) ∧
      b'.stages = b.stages.set st (some r') ∧ StoppedToRest b.copy s.uptime .shed r r' ∧ MarksKept r r' ∧
      r'.proving = r.proving ∧ StopFollows s.host.run .shed b b' := by
  have stopped := takeStop_unit .shed ready.unit ready.stage
  rw [takeStop_shed ready.runs ready.expired] at stopped
  refine ⟨_, (r.recordStop s.uptime .shed).toRest b.copy, fun v => ?_, putStage_stages ..,
    ⟨rfl, rfl, recordStop_recorded s.uptime .shed r⟩, ⟨rfl, rfl, rfl, rfl⟩, rfl, putStage_stopFollows ..⟩
  split
  · subst v
    exact stopped
  · exact takeStop_other ‹_› st .shed s

theorem shed_eq (c : ShedCandidate) (s : State) :
    s.shed c = { s with
      meter := { s.meter with interval := { s.meter.interval with sheds := s.meter.interval.sheds + 1 } }
      units := (s.shed c).units } := by
  conv_lhs => rw [shed_frame]
  have meter : (s.takeStop c.unit c.stage .shed).meter = s.meter := by rw [takeStop_frame]
  rw [State.shed, setMeter_meter, meter]

/-! ### The close of an interval (R54, R57, R63) -/

theorem closeInterval_meter (ceiling : Nat) (atClockSet : Bool) (s : State) :
    (s.closeInterval ceiling atClockSet).meter =
      { s.meter.record (s.meter.interval.close ceiling atClockSet) with
        pendingLength := none, interval := s.newInterval s.meter.nextLength atClockSet } := by
  unfold State.closeInterval
  dsimp only
  split <;> rfl

theorem closeInterval_host (ceiling : Nat) (atClockSet : Bool) (s : State) :
    (s.closeInterval ceiling atClockSet).host =
      if ceiling < s.meter.interval.energy / s.meter.interval.elapsed then
        noting s .intervalOver none none none (some ((s.meter.interval.energy / s.meter.interval.elapsed : Nat) : Int))
      else s.host := by
  unfold State.closeInterval
  simp only [raise_eq, Interval.close, decide_eq_true_eq]
  split <;> rfl

/-- R63: the ring loses its oldest record once it holds 96. -/
theorem record_eq (h : HistoryRec) (m : Meter) :
    m.record h = { m with
      history := (if m.history.length < 96 then m.history else m.history.drop 1) ++ [h]
      closeCount := m.closeCount + 1#32 } := by
  unfold Meter.record Config.historySize
  by_cases full : 96 ≤ m.history.length
  · rw [if_pos full, if_neg (Nat.not_lt.mpr full)]
  · rw [if_neg full, if_pos (Nat.lt_of_not_le full)]

/-- R54: the interval that opens at a close of the accumulation event. -/
theorem newInterval_eq (length : Nat) (s : State) :
    s.newInterval length false = {
      start := s.schedule.clock.time.map fun now => (now.day, now.minute), startUptime := s.uptime, length
      effective := (s.schedule.clock.time.map fun now => length - (now.minute * 60 + now.second) % length).getD length
      energy := 0, elapsed := 0, peak := 0, sheds := 0, clipped := false
      unaligned := s.schedule.clock.time.isNone, overrun := false } := by
  unfold State.newInterval State.timeOfDay
  cases s.schedule.clock.time <;> rfl

/-! ### The event (R57, R58) -/

/-- R58: the shed test, on the projection at the load of the event; the ceiling in force is that before the event. -/
theorem metered_shedNeeded_iff (s : State) :
    s.metered.shedNeeded s.presentLoad = true ↔
      ¬s.metered.meter.interval.energy +
          s.presentLoad * (s.metered.meter.interval.effective - s.metered.meter.interval.elapsed) ≤
        Rule.ceiling s * s.metered.meter.interval.effective := by
  rw [Nat.not_le]
  exact decide_eq_true_iff

theorem recordOverrun_eq (load : Nat) (s : State) :
    s.recordOverrun load = { s with
      meter := { s.meter with interval := { s.meter.interval with overrun := true } }
      host := if s.meter.interval.overrun = true then s.host
        else noting s .overrun none none none (some (load : Int)) } := by
  unfold State.recordOverrun
  simp only [raise_eq]
  split <;> rfl

/-- R57: the event of a full interval closes it. -/
theorem accumulationEvent_full {s : State}
    (full : s.metered.meter.interval.elapsed = s.metered.meter.interval.effective) :
    exec .accumulationEvent s = .next (s.metered.closeInterval s.metered.ceiling false) := by
  rw [execAccumulationEvent_eq, if_pos full]

/-- R58: an event with its projection within the ceiling asks for a grant attempt. -/
theorem accumulationEvent_within {s : State}
    (running : s.metered.meter.interval.elapsed ≠ s.metered.meter.interval.effective)
    (fits : ¬s.metered.shedNeeded s.presentLoad = true) :
    exec .accumulationEvent s = .next (s.metered.attempt .meter) := by
  rw [execAccumulationEvent_eq, if_neg running, if_neg fits]

/-- R61, R62: an event above the ceiling sheds the stage chosen, or records an overrun and asks for a grant attempt. -/
theorem accumulationEvent_above {s : State}
    (running : s.metered.meter.interval.elapsed ≠ s.metered.meter.interval.effective)
    (above : s.metered.shedNeeded s.presentLoad = true) :
    (s.metered.shedChoice = none ∧
        exec .accumulationEvent s = .next ((s.metered.recordOverrun s.presentLoad).attempt .meter)) ∨
      ∃ c, s.metered.shedChoice = some c ∧ exec .accumulationEvent s = .next (s.metered.shed c) := by
  rw [execAccumulationEvent_eq, if_neg running, if_pos above]
  cases s.metered.shedChoice with
  | none => exact .inl ⟨rfl, rfl⟩
  | some c => exact .inr ⟨c, rfl, rfl⟩

/-- R57, R63, R54: the meter after the event of a full interval. -/
theorem metered_close_meter (s : State) :
    (s.metered.closeInterval s.metered.ceiling false).meter =
      { s.metered.meter.record (s.metered.meter.interval.close (Rule.ceiling s) false) with
        pendingLength := none, interval := s.newInterval s.meter.nextLength false } := closeInterval_meter ..

/-- R61: the shed of the chosen stage is of one that no sheddable stage is before. -/
theorem shedChoice_some {c : ShedCandidate} {s : State} (form : Table.wf s.units = true)
    (chosen : s.shedChoice = some c) :
    ∃ u st b r, Sheddable s u st b r ∧ c = s.candidate u st b r ∧
      ∀ v st' d q, Sheddable s v st' d q → (s.candidate v st' d q).before c = false := by
  obtain ⟨u, st, b, r, ready, eq⟩ := (mem_shedCandidates form).mp (mem_of_choose chosen)
  exact ⟨u, st, b, r, ready, eq, fun v st' d q other =>
    not_before_choose shedOrder chosen _ ((mem_shedCandidates form).mpr ⟨v, st', d, q, other, rfl⟩)⟩

/-- R61, R62: with no stage to shed none is sheddable. -/
theorem not_sheddable {u : Nat} {st : StageName} {b : BoundUnit} {r : StageRec} {s : State} (form : Table.wf s.units = true)
    (empty : s.shedChoice = none) : ¬Sheddable s u st b r := fun ready => by
  have listed := (mem_shedCandidates form).mpr ⟨u, st, b, r, ready, rfl⟩
  rw [choose_eq_none.mp empty] at listed
  cases listed

/-- R61: what the shed compares of a stage at the event, in the words of the rule. -/
theorem metered_candidate (u : Nat) (st : StageName) (b : BoundUnit) (r : StageRec) (s : State) :
    s.metered.candidate u st b r =
      { priority := ((s.zone b.zone).map fun z => z.config.priority).getD 1, start := (r.lastStart.getD 0#32).toNat,
        unit := u, stage := st } := by
  have priority : s.metered.zonePriority b.zone = ((s.zone b.zone).map fun z => z.config.priority).getD 1 := by
    rw [State.zonePriority, State.zoneConfig, State.metered, setMeter_zone]
    cases s.zone b.zone <;> rfl
  rw [State.candidate, priority]

/-- Settles O47, by the branches of the event: a full interval, a projection within the ceiling, and one above it with and without
a stage to shed. -/
theorem theAccumulationEventMetersSheddingAndGrants : Obligations.TheAccumulationEventMetersSheddingAndGrants := by
  unfold Obligations.TheAccumulationEventMetersSheddingAndGrants
  intro s load i priority started ranks starts form hload bound hi
  rw [← presentLoad_eq] at hload
  subst hload
  obtain rfl : i = s.metered.meter.interval := hi
  by_cases full : s.metered.meter.interval.elapsed = s.metered.meter.interval.effective
  · refine ⟨_, accumulationEvent_full full, ?_⟩
    rw [if_pos full]
    refine ⟨closeInterval_frame .., ?_, closeInterval_host ..⟩
    rw [metered_close_meter, record_eq, newInterval_eq]
    cases s.schedule.clock.time <;> rfl
  have test := metered_shedNeeded_iff s
  by_cases above : s.metered.shedNeeded s.presentLoad = true
  · have exceeds := test.mp above
    obtain ⟨empty, run⟩ | ⟨c, chosen, run⟩ := accumulationEvent_above full above
    · refine ⟨_, run, ?_⟩
      rw [if_neg full, if_neg exceeds, recordOverrun_eq]
      refine .inl ⟨fun u b st r unit online stage runs => ?_, attempt_result .meter bound⟩
      by_contra expired
      exact not_sheddable (s := s.metered) form empty ⟨unit, online, stage, runs, Bool.eq_false_iff.mpr expired⟩
    · refine ⟨_, run, ?_⟩
      rw [if_neg full, if_neg exceeds]
      obtain ⟨u, st, b, r, ready, rfl, last⟩ := shedChoice_some (s := s.metered) form chosen
      obtain ⟨b', r', units, stages, rest, marks, proving, follows⟩ := shed_units ready
      refine .inr ⟨shed_eq _ s.metered, u, b, st, r, b', r', ready.unit, ready.online, ready.stage, ready.runs, ready.expired,
        fun v c st' q unit online stage runs expired => ?_, units, stages, rest, marks, proving, follows⟩
      have notBefore := Bool.eq_false_iff.mp (last v st' c q ⟨unit, online, stage, runs, expired⟩)
      rw [ne_eq, before_iff, metered_candidate, metered_candidate] at notBefore
      simp only [← ranks, ← starts] at notBefore
      omega
  · refine ⟨_, accumulationEvent_within full above, ?_⟩
    rw [if_neg full, if_pos (not_not.mp (mt test.mpr above))]
    exact attempt_result .meter bound

end Sys2Proof.Machine
end

section
/-! PROOF. Zones in the words of their rules: which units a zone counts, its capacity, its active count and its setpoints
(R67, R75, R77, R79, R82, R84). -/

namespace Sys2Proof.Machine

/-! ### The units of a zone -/

theorem mem_zoneUnits {s : State} {r : Zone} {p : Nat × BoundUnit} :
    p ∈ s.zoneUnits r ↔ p.1 ∈ r.units ∧ s.unit p.1 = some p.2 := by
  obtain ⟨u, b⟩ := p
  simp only [State.zoneUnits, List.mem_filterMap, Option.map_eq_some_iff, Prod.mk.injEq]
  constructor
  · rintro ⟨v, listed, c, hc, rfl, rfl⟩
    exact ⟨listed, hc⟩
  · rintro ⟨listed, hb⟩
    exact ⟨u, listed, b, hb, rfl, rfl⟩

/-- A sum over the bound units of a zone's list is one over its list, to which an unbound index adds nothing. -/
theorem zoneUnits_sum (f : BoundUnit → Nat) (s : State) (r : Zone) :
    ((s.zoneUnits r).map fun p => f p.2).sum = (r.units.map fun u => ((s.unit u).map f).getD 0).sum := by
  unfold State.zoneUnits
  induction r.units with
  | nil => rfl
  | cons u rest ih => cases hb : s.unit u <;> simp [hb, ih]

/-! ### Counts of stages (R77, R79, R82, R84) -/

theorem stageIs_any (p : StageState → Bool) (b : BoundUnit) (st : StageName) :
    b.stageIs p st = (b.stages.get st).any fun q => p q.state := by
  rw [BoundUnit.stageIs]
  cases b.stages.get st <;> rfl

theorem isCounted_eq (a : StageState) : a.isCounted = decide (a = .queued ∨ a = .proving ∨ a = .run) := by
  cases a <;> rfl

theorem isEngaged_eq (a : StageState) : a.isEngaged = decide (a = .queued ∨ a = .proving ∨ a = .run ∨ a = .hold) := by
  cases a <;> rfl

theorem activeCount_eq (b : BoundUnit) (heat : Bool) : b.activeCount heat = Rule.active b heat := by
  simp only [BoundUnit.activeCount, stageIs_any, isCounted_eq]
  rfl

theorem engagedCount_eq (b : BoundUnit) (heat : Bool) : b.engagedCount heat = Rule.engaged b heat := by
  simp only [BoundUnit.engagedCount, stageIs_any, isEngaged_eq]
  rfl

theorem softLimited_eq (b : BoundUnit) (heat : Bool) :
    b.softLimited heat = if heat then b.limit.heatLimited else b.limit.coolLimited := rfl

/-- R82: the active count of a zone in a mode. -/
theorem activeCount_sum {s : State} {r : Zone} (active : r.mode ≠ .idle) :
    s.activeCount r =
      (r.units.map fun u => ((s.unit u).map fun b => Rule.active b (decide (r.mode = .heat))).getD 0).sum := by
  rw [State.activeCount, if_neg active, zoneUnits_sum fun b => b.activeCount (decide (r.mode = .heat))]
  simp only [activeCount_eq]

/-- R77: a stage of a mode is engaged on a unit of the zone. -/
theorem zoneEngaged_iff {s : State} {r : Zone} {heat : Bool} : s.zoneEngaged r heat = true ↔ Rule.zoneEngaged s r heat := by
  simp only [State.zoneEngaged, List.any_eq_true, Rule.zoneEngaged, ← engagedCount_eq, BoundUnit.engagedCount,
    List.countP_pos_iff, Prod.exists, mem_zoneUnits, and_assoc, exists_and_left]

/-! ### Valid readings and capacity (R72, R79) -/

theorem validReading_eq (t : Option Int) :
    validReading t = if (t.any fun v => decide (-400 ≤ v) && decide (v ≤ 850)) = true then t else none := by
  cases t <;> simp [validReading]

theorem roundedAverage_eq (ts : List Int) :
    roundedAverage ts = if ts = [] then none else some ((2 * ts.sum + ts.length) / (2 * ts.length)) := by
  simp [roundedAverage]

theorem outdoorValue_eq (s : State) : s.outdoorValue = Rule.outdoor s := by
  rw [State.outdoorValue, roundedAverage_eq]
  have reading : (fun p : Nat × BoundUnit => if p.2.live.link = .online then validReading p.2.live.outdoor else none) =
      fun p => if p.2.live.link = .online ∧
        (p.2.live.outdoor.any fun v => decide (-400 ≤ v) && decide (v ≤ 850)) = true then p.2.live.outdoor else none := by
    funext p
    rw [validReading_eq, ite_and]
  rw [reading]
  rfl

theorem economizer_eq (s : State) (r : Zone) : s.economizer r = Rule.economizer s r := by
  have present : ((s.zoneUnits r).any fun p => p.2.copy.econPresent) =
      r.units.any fun u => (s.unit u).any fun b => b.copy.econPresent := by
    rw [Bool.eq_iff_iff]
    simp only [List.any_eq_true, Prod.exists, mem_zoneUnits, Option.any_eq_true, and_assoc, exists_and_left]
  rw [State.economizer, Rule.economizer, outdoorValue_eq, present]
  cases Rule.outdoor s <;> rfl

theorem capacity_unit (b : BoundUnit) (heat : Bool) :
    b.capacity heat = if b.live.link = .lost then 0
      else [StageName.c1, .c2, .c3, .c4, .h1, .h2].countP fun st =>
        isHeat st == heat && (b.stages.get st).any fun q => decide (q.state ≠ .lockout) := by
  simp only [BoundUnit.capacity, stageIs_any]
  rfl

/-- R79: a zone's capacity for a mode. -/
theorem modeCapacity_eq (s : State) (r : Zone) (heat : Bool) : s.modeCapacity r heat = Rule.capacity s r heat := by
  rw [State.modeCapacity, State.stageCapacity, zoneUnits_sum fun b => b.capacity heat, economizer_eq, Rule.capacity]
  refine congrArg₂ (· + ·) (congrArg List.sum (List.map_congr_left fun u _ => ?_)) (by simp)
  cases s.unit u with
  | none => rfl
  | some b => exact capacity_unit b heat

/-! ### Setpoints and configured fields (R67, R75) -/

/-- R75: the applied setpoints, the clamp of a setpoint of two bytes written out. -/
theorem applySetpoints_eq (deadband cool heat : Nat) :
    applySetpoints deadband cool heat = Rule.applied deadband cool heat := by
  have clamp (v : Nat) : clampSetpoint v = max 100 (min 350 v) := by
    unfold clampSetpoint
    omega
  simp only [applySetpoints, Rule.applied, clamp]
  generalize max 100 (min 350 cool) = sc
  generalize max 100 (min 350 heat) = sh
  by_cases apart : sh + deadband ≤ sc
  · rw [if_pos apart, if_neg (Nat.not_lt.mpr apart)]
  · rw [if_neg apart, if_pos (Nat.lt_of_not_le apart)]
    by_cases fits : sh + deadband ≤ 350
    · rw [if_pos fits, if_neg (Nat.not_lt.mpr fits)]
    · rw [if_neg fits, if_pos (Nat.lt_of_not_le fits)]

end Sys2Proof.Machine
end

section
/-! PROOF. O20, O35 and O36: the requests on zones, and the end of an override. -/

namespace Sys2Proof.Machine

/-- R67: the zone numbers are 1 to 12. -/
theorem zoneNumber_iff {z : Nat} : zoneNumber z = true ↔ 1 ≤ z ∧ z ≤ 12 := by simp [zoneNumber]

theorem zoneNumber_eq_false {z : Nat} (h : ¬(1 ≤ z ∧ z ≤ 12)) : zoneNumber z = false :=
  Bool.eq_false_iff.mpr (mt zoneNumber_iff.mp h)

/-! ### ZONE.GET (R70) -/

theorem serveZoneGet_index {zone : Byte} (h : ¬(1 ≤ zone.toNat ∧ zone.toNat ≤ 12)) (s : State) :
    serveZoneGet zone s = refuse s .index := by
  rw [serveZoneGet, if_pos (zoneNumber_eq_false h)]

theorem serveZoneGet_absent {zone : Byte} {s : State} (hz : zoneNumber zone.toNat = true)
    (absent : s.zone zone.toNat = none) : serveZoneGet zone s = refuse s .absent := by
  simp [serveZoneGet, hz, absent]

/-- R82: the active count of a zone at a request, 0 in IDLE. -/
theorem activeCount_sent (s : State) (r : Zone) :
    s.activeCount r = if r.mode = .idle then 0 else (r.units.map fun u =>
      match s.unit u with
      | none => 0
      | some b => [StageName.c1, .c2, .c3, .c4, .h1, .h2].countP fun st =>
          isHeat st == decide (r.mode = .heat) && b.stageIs StageState.isCounted st).sum := by
  unfold State.activeCount
  refine if_congr Iff.rfl rfl ((zoneUnits_sum (fun b => b.activeCount (decide (r.mode = .heat))) s r).trans ?_)
  refine congrArg List.sum (List.map_congr_left fun u _ => ?_)
  cases s.unit u <;> rfl

theorem encWord_eq : encWord = wordBytes := rfl

theorem enc32_since (now t : Word) : enc32 (since now t) = wordBytes (now - t) := by
  rw [enc32, since, BitVec.ofNat_toNat, BitVec.setWidth_eq]

/-- Settles O20: the owner's reply is the rule's list, field by field. -/
theorem zoneGetReportsAZone : Obligations.ZoneGetReportsAZone := by
  unfold Obligations.ZoneGetReportsAZone
  intro tag zone s idle
  have answered {t : State} {a : Answer} (served : serveZoneGet zone s = (t, a)) :
      exec (.zoneGet tag zone) s = .next (t.answering 0x21#8 tag a.result a.payload) :=
    exec_request_served (r := .zoneGet zone) idle (commonCheck_eq_none rfl rfl rfl rfl (fun _ => rfl) s) served tag
  refine ⟨fun bad => answered (serveZoneGet_index bad s),
    fun low high absent => answered (serveZoneGet_absent (zoneNumber_iff.mpr ⟨low, high⟩) absent), fun r low high hr => ?_⟩
  refine answered (a := { result := .accepted, payload := _ }) ?_
  simp only [serveZoneGet, zoneNumber_iff.mpr ⟨low, high⟩, hr, accept, Bool.true_eq_false, if_false, activeCount_sent,
    enc32_since, encWord_eq, encZoneConfig, encList, encCell, Zone.occupancy, ← List.append_assoc]
  cases r.forced <;> rfl

/-! ### ZONE.PUT (R67 to R69) -/

/-- R152, R170: in NORMAL, with no save and a level below 2, no common check refuses ZONE.PUT. -/
theorem commonCheck_zonePut {s : State} (normal : s.host.run = .normal) (saving : s.store.saving = false)
    (level : s.table.level < 2) (zone flag : Byte) (fields : ZoneFields) :
    s.commonCheck (.zonePut zone flag fields) = none := by
  simp [State.commonCheck, requestMalformed, requestServiceOnly, requestLocked, normal, saving, level]

/-- Of checks numbered from 1, each a test of its number, the first that fails is the least number that fails. -/
theorem firstFailing_numbered_some {P : Nat → Prop} {checks : List (Nat × Bool)} {n k : Nat}
    (numbers : checks.map Prod.fst = List.range' 1 k) (tests : ∀ c ∈ checks, c.2 = true ↔ P c.1) (low : 1 ≤ n) (high : n ≤ k)
    (fails : ¬P n) (before : ∀ m, 1 ≤ m → m < n → P m) : firstFailing checks = some n := by
  have numbered (m : Nat) : m ∈ checks.map Prod.fst ↔ 1 ≤ m ∧ m ≤ k := by
    rw [numbers, List.mem_range'_1]
    omega
  exact firstFailing_eq_some (by rw [numbers]; exact List.pairwise_lt_range') tests ((numbered n).mpr ⟨low, high⟩) fails
    fun m hm => before m ((numbered m).mp hm).1

/-- Checks numbered from 1 whose numbers all pass fail nowhere. -/
theorem firstFailing_numbered_none {P : Nat → Prop} {checks : List (Nat × Bool)} {k : Nat}
    (numbers : checks.map Prod.fst = List.range' 1 k) (tests : ∀ c ∈ checks, c.2 = true ↔ P c.1)
    (passes : ∀ n, 1 ≤ n → n ≤ k → P n) : firstFailing checks = none := by
  rw [firstFailing_eq_none_iff]
  intro c hc
  have number : c.1 ∈ List.range' 1 k := numbers ▸ List.mem_map_of_mem hc
  rw [List.mem_range'_1] at number
  exact (tests c hc).mpr (passes c.1 (by omega) (by omega))

/-- R67: the fifteen checks of ZONE.PUT are those of its table. -/
theorem zoneFieldFailure_tests (f : ZoneFields) :
    ∃ checks : List (Nat × Bool), checks.map Prod.fst = List.range' 1 15 ∧
      (∀ c ∈ checks, c.2 = true ↔ Rule.ZoneFieldFits f c.1) ∧ zoneFieldFailure f = firstFailing checks := by
  refine ⟨_, rfl, ?_, rfl⟩
  simp [within, withinInt, Rule.ZoneFieldFits, Rule.zoneBounds, Rule.zoneField]

theorem serveZonePut_index {zone : Byte} (h : ¬(1 ≤ zone.toNat ∧ zone.toNat ≤ 12)) (flag : Byte) (fields : ZoneFields)
    (s : State) : serveZonePut zone flag fields s = refuse s .index := by
  simp [serveZonePut, zoneNumber_eq_false h]

/-- R69: a flag other than 0 and 1 is refused RANGE 0. -/
theorem serveZonePut_flag {zone flag : Byte} (hz : zoneNumber zone.toNat = true) (other : 1 < flag.toNat)
    (fields : ZoneFields) (s : State) : serveZonePut zone flag fields s = refuseRange s 0 := by
  have notOne : flag ≠ 1#8 := fun one => by simp [one] at other
  have notZero : flag ≠ 0#8 := fun zero => by simp [zero] at other
  simp [serveZonePut, hz, notOne, notZero]

/-- R69: with the flag 1 the fields are checked and the zone is defined or changed. -/
theorem serveZonePut_define {zone : Byte} (hz : zoneNumber zone.toNat = true) (fields : ZoneFields) (s : State) :
    serveZonePut zone 1#8 fields s =
      match zoneFieldFailure fields with
      | some n => refuseRange s n
      | none => accept (s.defineZone zone.toNat (ZoneConfig.ofFields fields)) [] :=
  (if_neg (by simp [hz])).trans (if_pos rfl)

/-- R69: with the flag 0 a zone without units is undefined, and one with units is refused. -/
theorem serveZonePut_undefine {zone : Byte} (hz : zoneNumber zone.toNat = true) (fields : ZoneFields) (s : State) :
    serveZonePut zone 0#8 fields s =
      if ((s.zone zone.toNat).map fun r => r.units.isEmpty).getD true then accept (s.undefineZone zone.toNat) []
      else refuse s .state := by
  simp [serveZonePut, hz]

/-- R93: an occupancy in its range is read back by its code. -/
theorem occupancyOf_toCode {n : Nat} (range : n ≤ 2) : (occupancyOf n).toCode = n := by
  interval_cases n <;> rfl

/-- R67: fields in their ranges are written as they came; the occupancy needs its range. -/
theorem ofFields_written {f : ZoneFields} (fits : ∀ n, 1 ≤ n → n ≤ 15 → Rule.ZoneFieldFits f n) :
    Rule.ZoneWritten f (ZoneConfig.ofFields f) := by
  have range := fits 12 (by decide) (by decide) 0 2 (by simp [Rule.zoneBounds])
  have code : (occupancyOf f.fbOccupancy.toNat).toCode = f.fbOccupancy.toNat :=
    occupancyOf_toCode (by simpa [Rule.zoneField] using range)
  exact ⟨rfl, rfl, rfl, rfl, rfl, rfl, rfl, rfl, decide_eq_true_iff, rfl, rfl, code, rfl, rfl, rfl⟩

/-- R68: the live state of a zone at its definition. -/
theorem make_fresh (c : ZoneConfig) (now : Word) (cell : Cell) : FreshZone c now cell (Zone.make c now cell []) := by
  unfold FreshZone
  rw [← applySetpoints_eq]
  rfl

/-- Settles O35: the checks refuse the first field that fails; what passes them is defined, changed or undefined. -/
theorem zonePutDefinesChangesAndRemovesAZone : Obligations.ZonePutDefinesChangesAndRemovesAZone := by
  unfold Obligations.ZonePutDefinesChangesAndRemovesAZone
  intro tag zone fields s idle normal saving level
  have answered {flag : Byte} {t : State} {a : Answer} (served : serveZonePut zone flag fields s = (t, a)) :
      exec (.zonePut tag zone flag fields) s = .next (t.answering 0x20#8 tag a.result a.payload) :=
    exec_request_served (r := .zonePut zone flag fields) idle (commonCheck_zonePut normal saving level ..) served tag
  refine ⟨fun bad flag => answered (serveZonePut_index bad flag fields s), fun low high => ?_⟩
  have hz := zoneNumber_iff.mpr ⟨low, high⟩
  obtain ⟨checks, numbers, tests, eq⟩ := zoneFieldFailure_tests fields
  have define := serveZonePut_define hz fields s
  have undefine := serveZonePut_undefine hz fields s
  rw [eq] at define
  refine ⟨fun flag other => answered (serveZonePut_flag hz other fields s), fun n low high fails before => ?_, fun fits => ?_,
    fun r hr listed => ?_, fun unlisted => ?_⟩
  · rw [firstFailing_numbered_some numbers tests low high fails before] at define
    exact answered define
  · rw [firstFailing_numbered_none numbers tests fits] at define
    refine ⟨_, ofFields_written fits, fun r hr => ?_, fun absent => ⟨_, make_fresh _ s.uptime _, ?_⟩⟩
    · simp only [State.defineZone, hr] at define
      exact answered define
    · simp only [State.defineZone, absent] at define
      refine (answered define).trans ?_
      unfold State.cellAtDefinition State.timeOfDay
      cases s.schedule.clock.time <;> rfl
  · rw [hr, if_neg (by simpa using listed)] at undefine
    exact answered undefine
  · have empty : ((s.zone zone.toNat).map fun r => r.units.isEmpty).getD true = true := by
      cases hr : s.zone zone.toNat with
      | none => rfl
      | some r => simp [unlisted r hr]
    rw [if_pos empty] at undefine
    refine ⟨_, answered undefine, rfl, fun y => zone_undefineZone zone.toNat y s, ?_, zoneConfig_undefined⟩
    exact zoneConfig_undefined ((zone_undefineZone ..).trans (if_pos rfl))

/-! ### ZONE.OVERRIDE (R88) -/

/-- R137, R170: in NORMAL no common check refuses ZONE.OVERRIDE, at any level. -/
theorem commonCheck_zoneOverride {s : State} (normal : s.host.run = .normal) (zone : Byte) (duration cool heat : Half)
    (modeForce occForce : Option Byte) : s.commonCheck (.zoneOverride zone duration cool heat modeForce occForce) = none := by
  simp [State.commonCheck, requestMalformed, requestServiceOnly, requestTableChanging, requestLocked, normal]

section
variable {zone : Byte} {duration cool heat : Half} {modeForce occForce : Option Byte} {s : State}

theorem serveZoneOverride_index (h : ¬(1 ≤ zone.toNat ∧ zone.toNat ≤ 12)) :
    serveZoneOverride zone duration cool heat modeForce occForce s = refuse s .index := by
  simp [serveZoneOverride, zoneNumber_eq_false h]

theorem serveZoneOverride_absent (hz : zoneNumber zone.toNat = true) (absent : s.zone zone.toNat = none) :
    serveZoneOverride zone duration cool heat modeForce occForce s = refuse s .absent := by
  simp [serveZoneOverride, hz, absent]

/-- R88: the field of an override on a defined zone that is refused: the duration, the mode force, then the occupancy force. -/
theorem serveZoneOverride_range {r : Zone} {n : Nat} (hz : zoneNumber zone.toNat = true) (hr : s.zone zone.toNat = some r)
    (fails : firstFailing [(2, duration.toNat ≤ 720), (5, modeForce.all fun m => m.toNat ≤ 3),
      (6, occForce.all fun c => c.toNat ≤ 2)] = some n) :
    serveZoneOverride zone duration cool heat modeForce occForce s = refuseRange s n := by
  simp [serveZoneOverride, hz, hr, fails]

/-- R88: an override in its ranges clears the one there for duration 0, and is placed otherwise. -/
theorem serveZoneOverride_accepted {r : Zone} (hz : zoneNumber zone.toNat = true) (hr : s.zone zone.toNat = some r)
    (short : duration.toNat ≤ 720) (mode : ∀ m, modeForce = some m → m.toNat ≤ 3)
    (occupancy : ∀ c, occForce = some c → c.toNat ≤ 2) :
    serveZoneOverride zone duration cool heat modeForce occForce s =
      if duration = 0#16 then accept (s.putZone zone.toNat { r with forced := none }) [0#8]
      else accept (s.putZone zone.toNat
          { r with forced := some (Override.make s.uptime duration.toNat cool heat modeForce occForce) })
        (1#8 :: wordBytes (Override.make s.uptime duration.toNat cool heat modeForce occForce).expiry) := by
  have passes : firstFailing [(2, duration.toNat ≤ 720), (5, modeForce.all fun m => m.toNat ≤ 3),
      (6, occForce.all fun c => c.toNat ≤ 2)] = none := by
    rw [firstFailing_eq_none_iff]
    simpa [Option.all_eq_true] using ⟨short, mode, occupancy⟩
  simp only [serveZoneOverride, hz, hr, passes, Bool.true_eq_false, if_false]
  rfl

end

/-- R88: a setpoint of an override is absent, or clamped. -/
theorem optionalTemp_clamped (h : Half) :
    (optionalTemp h).map clampSetpoint =
      if h = 0x8000#16 then none else some (max 100 (min 350 h.toInt)).toNat := by
  unfold optionalTemp
  split <;> rfl

/-- R88, log 21: a mode force in its range is read back by its code. -/
theorem modeForceOf_toCode {n : Nat} (range : n ≤ 3) : (modeForceOf n).toCode = n := by
  interval_cases n <;> rfl

/-! ### OVERRIDE_END (R89) -/

/-- R89: at its expiry uptime an override is removed, with its notice. -/
theorem overrideEnd_due {z : Nat} {r : Zone} {o : Override} {s : State} (hr : s.zone z = some r) (ho : r.forced = some o)
    (due : s.uptime = o.expiry) :
    exec (.overrideEnd z) s = .next ((s.putZone z { r with forced := none }).setHost
      (noting (s.putZone z { r with forced := none }) .overrideEnd none none (some z) none)) := by
  have now : reached s.uptime o.expiry = true := by simp [reached, since, due]
  simp only [exec, execOverrideEnd, hr, ho, now, if_true, raise_eq]

/-- R89, log 11: in the 12 hours before its expiry uptime nothing happens. -/
theorem overrideEnd_early {z : Nat} {r : Zone} {o : Override} {s : State} (hr : s.zone z = some r) (ho : r.forced = some o)
    (near : (o.expiry - s.uptime).toNat ≤ 43200) (before : s.uptime ≠ o.expiry) : exec (.overrideEnd z) s = .next s := by
  have far : ¬since s.uptime o.expiry < 2147483648 := by
    unfold since
    bv_omega
  have later : reached s.uptime o.expiry = false := decide_eq_false far
  simp [exec, execOverrideEnd, hr, ho, later]

/-- Settles O36: the owner's refusals in their order, the override it makes, and the end of one. -/
theorem overridesArePlacedClearedAndExpire : Obligations.OverridesArePlacedClearedAndExpire := by
  unfold Obligations.OverridesArePlacedClearedAndExpire
  have answered {zone : Byte} {duration cool heat : Half} {modeForce occForce : Option Byte} {s t : State} {a : Answer}
      (idle : s.host.phase = .idle) (normal : s.host.run = .normal)
      (served : serveZoneOverride zone duration cool heat modeForce occForce s = (t, a)) (tag : Byte) :
      exec (.zoneOverride tag zone duration cool heat modeForce occForce) s =
        .next (t.answering 0x22#8 tag a.result a.payload) :=
    exec_request_served (r := .zoneOverride zone duration cool heat modeForce occForce) idle
      (commonCheck_zoneOverride normal ..) served tag
  refine ⟨fun tag zone duration cool heat modeForce occForce s idle normal => ⟨fun bad => ?_, fun low high absent => ?_,
    fun low high defined => ?_⟩, fun tag zone duration cool heat modeForce occForce r s low high hr => ⟨?_, ?_, ?_, ?_⟩⟩
  · exact answered idle normal (serveZoneOverride_index bad) tag
  · exact answered idle normal (serveZoneOverride_absent (zoneNumber_iff.mpr ⟨low, high⟩) absent) tag
  · obtain ⟨r, hr⟩ := Option.ne_none_iff_exists'.mp defined
    have refused {n : Nat} (fails : firstFailing [(2, duration.toNat ≤ 720), (5, modeForce.all fun m => m.toNat ≤ 3),
        (6, occForce.all fun c => c.toNat ≤ 2)] = some n) :=
      answered idle normal (serveZoneOverride_range (cool := cool) (heat := heat) (zoneNumber_iff.mpr ⟨low, high⟩) hr fails) tag
    refine ⟨fun long => refused (n := 2) ?_, fun short ⟨m, hm, high⟩ => refused (n := 5) ?_,
      fun short mode ⟨c, hc, high⟩ => refused (n := 6) ?_⟩
    · simp [firstFailing, Nat.not_le.mpr long]
    · simp [firstFailing, short, hm, Nat.not_le.mpr high]
    · have passes : modeForce.all (fun m => decide (m.toNat ≤ 3)) = true := by simpa [Option.all_eq_true] using mode
      simp [firstFailing, short, passes, hc, Nat.not_le.mpr high]
  · intro idle normal short mode occupancy
    have served := serveZoneOverride_accepted (cool := cool) (heat := heat) (zoneNumber_iff.mpr ⟨low, high⟩) hr short mode
      occupancy
    refine ⟨fun zero => ?_, fun positive => ⟨Override.make s.uptime duration.toNat cool heat modeForce occForce, ?_,
      rfl, optionalTemp_clamped cool, optionalTemp_clamped heat, ?_, ?_⟩⟩
    · rw [if_pos zero] at served
      exact answered idle normal served tag
    · rw [if_neg positive] at served
      exact answered idle normal served tag
    · cases modeForce with
      | none => rfl
      | some m => exact congrArg some (modeForceOf_toCode (mode m rfl))
    · cases occForce with
      | none => rfl
      | some c => exact congrArg some (occupancyOf_toCode (occupancy c rfl))
  · exact fun o ho due => overrideEnd_due hr ho due
  · exact fun o ho near before => overrideEnd_early hr ho near before
  · intro unforced
    simp [exec, execOverrideEnd, hr, unforced]

end Sys2Proof.Machine
end

section
/-! PROOF. The steps of a zone evaluation one by one (R71): temperature and setpoints, mode, level, matching and targets, each by
the zone that it leaves and by what it can do to the units. -/

namespace Sys2Proof.Machine

/-! ### One zone written after another -/

section
variable {z : Nat} {q p : Zone} {s m t : State}

theorem onlyZone_refl (hq : s.zone z = some q) : OnlyZone z q s s :=
  ⟨rfl, fun y => by split <;> simp_all⟩

theorem onlyZone_putZone (z : Nat) (q : Zone) (s : State) : OnlyZone z q s (s.putZone z q) :=
  ⟨rfl, fun y => zone_putZone z y q s⟩

theorem OnlyZone.zone (h : OnlyZone z q s t) : t.zone z = some q := (h.2 z).trans (if_pos rfl)

/-- But for the zones the state is the one before. -/
theorem OnlyZone.frame (h : OnlyZone z q s t) : ∃ zones, t = s.setZones zones := ⟨_, h.1⟩

theorem OnlyZone.trans (h : OnlyZone z q s m) (k : OnlyZone z p m t) : OnlyZone z p s t := by
  refine ⟨?_, fun y => ?_⟩
  · obtain ⟨zones, rfl⟩ := h.frame
    exact k.1
  · rw [k.2, h.2]
    split <;> rfl

end

/-! ### Steps 1 and 2: temperature and setpoints (R72 to R75) -/

/-- R71: a zone as its evaluation begins. -/
def Zone.armed (r : Zone) : Zone := { r with evaluation := .start r.config.period }

/-- R74: a zone once its current cell has been refreshed at a time of day. -/
def Zone.refreshed (time : Option TimeOfDay) (r : Zone) : Zone :=
  { r with cell := if time = none then r.config.fallbackCell else r.cell }

/-- R72, R73: a zone after a derivation of its temperature, or after none. -/
def Zone.measured (now : Word) (derived : Option Int) (r : Zone) : Zone :=
  { r with
    temperature := derived.or r.temperature
    derivedAt := if derived = none then r.derivedAt else now
    sensorFault := if derived = none then r.sensorFault || decide (r.config.staleTime ≤ since now r.derivedAt) else false }

/-- R71 to R75: a zone after the first two steps of its evaluation. -/
def Zone.read (s : State) (r : Zone) : Zone :=
  ((r.armed.refreshed s.timeOfDay).measured s.uptime (s.deriveTemperature r)).withSetpoints

/-- R73: the host link after a step that may have set a zone's sensor fault. -/
def State.faultHost (z : Nat) (r r' : Zone) (s : State) : HostLink :=
  if r'.sensorFault = true ∧ r.sensorFault = false then noting s .sensorFault none none (some z) r.temperature else s.host

/-- The first two steps of an evaluation, its timer started. -/
def State.readStep (z : Nat) (r : Zone) (s : State) : State :=
  (((s.putZone z r.armed).refreshCell z).temperatureStep z).onZone z Zone.withSetpoints

theorem refreshCell_only {z : Nat} {r : Zone} {s : State} (hr : s.zone z = some r) :
    OnlyZone z (r.refreshed s.timeOfDay) s (s.refreshCell z) := by
  unfold State.refreshCell Zone.refreshed
  cases s.timeOfDay with
  | none => exact onlyZone_onZone hr rfl
  | some now => exact onlyZone_refl hr

/-- R73: with no derivation a zone stays while its fault is set or its last derivation is not stale. -/
theorem measured_kept {now : Word} {r : Zone} (kept : r.sensorFault = true ∨ ¬r.config.staleTime ≤ since now r.derivedAt) :
    r.measured now none = r := by
  have fault : (r.sensorFault || decide (r.config.staleTime ≤ since now r.derivedAt)) = r.sensorFault := by
    rcases kept with kept | kept <;> simp [kept]
  simp [Zone.measured, fault]

theorem temperatureStep_only {z : Nat} {r : Zone} {s : State} (hr : s.zone z = some r) :
    OnlyZone z (r.measured s.uptime (s.deriveTemperature r))
      (s.setHost (s.faultHost z r (r.measured s.uptime (s.deriveTemperature r)))) (s.temperatureStep z) := by
  have unchanged (fault : ¬(r.sensorFault = true ∧ r.sensorFault = false)) :
      OnlyZone z r (s.setHost (s.faultHost z r r)) s := by
    rw [State.faultHost, if_neg fault]
    exact onlyZone_refl hr
  simp only [State.temperatureStep, hr]
  cases s.deriveTemperature r with
  | some v => exact onlyZone_putZone ..
  | none =>
    by_cases kept : r.sensorFault = true ∨ ¬r.config.staleTime ≤ since s.uptime r.derivedAt
    · rw [measured_kept kept]
      have quiet : ¬(!r.sensorFault && decide (r.config.staleTime ≤ since s.uptime r.derivedAt)) = true := by
        rcases kept with kept | kept <;> simp [kept]
      rw [if_neg quiet]
      exact unchanged (by simp)
    · obtain ⟨fresh, stale⟩ := not_or.mp kept
      have fresh := Bool.eq_false_iff.mpr fresh
      have stale := not_not.mp stale
      simp only [State.faultHost, Zone.measured, raise_eq, fresh, stale]
      exact onlyZone_putZone z { r with sensorFault := true } (s.setHost _)

theorem OnlyZone.setHost {z : Nat} {q : Zone} {s t : State} (h : OnlyZone z q s t) (host : HostLink) :
    OnlyZone z q (s.setHost host) (t.setHost host) :=
  ⟨congrArg (State.setHost host) h.1, h.2⟩

/-- R71: what the first two steps leave of the zone and of the host link. -/
theorem readStep_only (z : Nat) (r : Zone) (s : State) :
    OnlyZone z (r.read s) (s.setHost (s.faultHost z r (r.read s))) (s.readStep z r) := by
  have armed := onlyZone_putZone z r.armed s
  have refreshed := armed.trans (refreshCell_only armed.zone)
  unfold State.readStep
  generalize (s.putZone z r.armed).refreshCell z = m at refreshed ⊢
  obtain ⟨zones, rfl⟩ := refreshed.frame
  have measured := temperatureStep_only refreshed.zone
  exact ((refreshed.setHost _).trans measured).trans (onlyZone_onZone measured.zone rfl)

/-! ### Step 3: mode (R76, R77) -/

/-- R76: a zone in IDLE that enters a mode, or none. -/
def Zone.enter (entry : Option Mode) (q : Zone) : Zone :=
  { q with mode := entry.getD q.mode, lastMode := entry.getD q.lastMode }

/-- R77: a zone that leaves its mode. -/
def Zone.leave (q : Zone) : Zone := { q.toIdle with changeover := .start q.config.changeover }

/-- R76, R77: a zone after step 3, from the state as the step finds it. -/
def Zone.moded (s : State) (q : Zone) : Zone :=
  if q.mode = .idle then q.enter (s.modeEntry q)
  else if s.modeExit q (decide (q.mode = .heat)) then q.leave else q

theorem modeStep_idle {z : Nat} {q : Zone} {s : State} (hq : s.zone z = some q) (idle : q.mode = .idle) :
    OnlyZone z (q.moded s) s (s.modeStep z) := by
  simp only [State.modeStep, hq, idle, Zone.moded, if_true]
  cases s.modeEntry q with
  | none => exact onlyZone_refl hq
  | some entered => exact onlyZone_putZone ..

theorem modeStep_active {z : Nat} {q : Zone} {s : State} (hq : s.zone z = some q) (active : q.mode ≠ .idle) :
    s.modeStep z = if s.modeExit q (decide (q.mode = .heat)) then
      (s.putZone z q.leave).withdrawMode z (decide (q.mode = .heat)) else s := by
  simp only [State.modeStep, hq]
  cases mode : q.mode with
  | idle => exact absurd mode active
  | cool => rfl
  | heat => rfl

/-- R76: the mode that a zone in IDLE enters, in the words of the rule. -/
theorem modeEntry_eq (s : State) (q : Zone) :
    s.modeEntry q = match q.temperature with
      | none => none
      | some v =>
        if q.sensorFault then none
        else if (q.config.modeDiff : Int) ≤ v - q.appliedCool ∧ q.modeForce ≠ .off ∧ q.modeForce ≠ .heatOnly ∧
            0 < Rule.capacity s q false ∧ (q.changeover = .stopped ∨ q.lastMode ≠ .heat) then some .cool
        else if (q.config.modeDiff : Int) ≤ q.appliedHeat - v ∧ q.modeForce ≠ .off ∧ q.modeForce ≠ .coolOnly ∧
            0 < Rule.capacity s q true ∧ q.changeover = .stopped then some .heat
        else none := by
  have stopped : (!q.changeover.isRunning) = decide (q.changeover = .stopped) := by
    cases q.changeover <;> rfl
  have cooling : (!q.forcedOff false) = (decide (q.modeForce ≠ .off) && decide (q.modeForce ≠ .heatOnly)) := by
    unfold Zone.forcedOff
    cases q.modeForce <;> rfl
  have heating : (!q.forcedOff true) = (decide (q.modeForce ≠ .off) && decide (q.modeForce ≠ .coolOnly)) := by
    unfold Zone.forcedOff
    cases q.modeForce <;> rfl
  unfold State.modeEntry
  cases q.temperature with
  | none => rfl
  | some v =>
    simp only [stopped, cooling, heating, modeCapacity_eq, Bool.and_eq_true, Bool.or_eq_true, decide_eq_true_eq, bne_iff_ne,
      and_assoc]

/-- R77: a zone leaves its mode at level 0 with its economizer off and no stage of the mode engaged. -/
theorem modeExit_iff {s : State} {q : Zone} {heat : Bool} :
    s.modeExit q heat = true ↔ q.level = 0 ∧ q.econOn = false ∧ ¬Rule.zoneEngaged s q heat := by
  rw [State.modeExit, ← zoneEngaged_iff]
  simp [and_assoc]

/-! ### Step 4: level (R78 to R81) -/

/-- R80: the level rises. -/
def Zone.raises (now : Word) (cap : Nat) (q : Zone) : Bool :=
  !q.levelForced && decide (q.level < q.askedLevel cap) && delayPassed now q.config.upDelay q.lastIncrease

/-- R80: the level falls by a step. -/
def Zone.lowers (now : Word) (cap : Nat) (q : Zone) : Bool :=
  !q.levelForced && !q.raises now cap && decide (0 < q.level) &&
    decide (q.call ≤ (((q.level - 1) * q.config.stageDiff : Nat) : Int)) && delayPassed now q.config.downDelay q.lastDecrease

/-- R78, R80: the level after its step. -/
def Zone.nextLevel (now : Word) (cap : Nat) (q : Zone) : Nat :=
  if q.levelForced then 0 else if q.raises now cap then q.level + 1
  else min cap (if q.lowers now cap then q.level - 1 else q.level)

theorem askedLevel_le (cap : Nat) (q : Zone) : q.askedLevel cap ≤ cap := by
  unfold Zone.askedLevel
  split
  · exact Nat.min_le_left ..
  · exact Nat.zero_le _

/-- R80: the level that moves is raised, or else lowered, or else stays. -/
theorem moveLevel_eq {now : Word} {cap : Nat} {q : Zone} (free : q.levelForced = false) :
    q.moveLevel now cap =
      if q.raises now cap then { q with level := q.level + 1, lastIncrease := some now, stepOwed := true }
      else if q.lowers now cap then { q with level := q.level - 1, lastDecrease := some now } else q := by
  unfold Zone.moveLevel
  by_cases raised : q.raises now cap = true
  · have rises := raised
    simp only [Zone.raises, Bool.and_eq_true, decide_eq_true_eq] at rises
    rw [if_pos raised, if_pos ⟨rises.1.2, rises.2⟩]
  · have stays : ¬(q.level < q.askedLevel cap ∧ delayPassed now q.config.upDelay q.lastIncrease = true) := fun rises =>
      raised (by simp [Zone.raises, free, rises])
    rw [if_neg raised, if_neg stays]
    refine if_congr ?_ rfl rfl
    simp [Zone.lowers, free, raised, and_assoc]

/-- R78, R80, R81: a zone in COOL or HEAT after its level step. -/
theorem levelStep_zone (now : Word) (cap : Nat) (available : Bool) (q : Zone) :
    q.levelStep now cap available = { q with
      level := q.nextLevel now cap
      capacity := cap
      wanted := if available then q.nextLevel now cap - 1 else q.nextLevel now cap
      econAvailable := available
      econOn := available && decide (0 < q.nextLevel now cap)
      lastIncrease := if q.raises now cap then some now else q.lastIncrease
      lastDecrease := if q.lowers now cap then some now else q.lastDecrease
      stepOwed := q.stepOwed || q.raises now cap } := by
  unfold Zone.levelStep Zone.nextLevel
  cases forced : q.levelForced with
  | true => simp [Zone.economize, Zone.raises, Zone.lowers, forced]
  | false =>
    simp only [moveLevel_eq forced, Bool.false_eq_true, if_false]
    cases raised : q.raises now cap with
    | true =>
      have lower : q.lowers now cap = false := by simp [Zone.lowers, raised]
      have below : q.level + 1 ≤ cap := by
        simp only [Zone.raises, Bool.and_eq_true, decide_eq_true_eq] at raised
        exact Nat.le_trans raised.1.2 (askedLevel_le cap q)
      simp [Zone.economize, lower, Nat.min_eq_left below]
    | false => cases lowered : q.lowers now cap <;> simp [Zone.economize, Nat.min_comm]

theorem levelStep_idle {z : Nat} {q : Zone} {s : State} (hq : s.zone z = some q) (idle : q.mode = .idle) :
    OnlyZone z { q with level := 0, capacity := 0, wanted := 0, econAvailable := false, econOn := false } s
      (s.levelStep z) :=
  onlyZone_onZone hq (by simp only [idle])

/-- R78 to R81: a zone in COOL or HEAT after step 4, from the state as the step finds it. -/
def Zone.levelled (s : State) (q : Zone) : Zone :=
  q.levelStep s.uptime (Rule.capacity s q (decide (q.mode = .heat))) (decide (q.mode = .cool) && Rule.economizer s q)

theorem levelStep_active {z : Nat} {q : Zone} {s : State} (hq : s.zone z = some q) (active : q.mode ≠ .idle) :
    OnlyZone z (q.levelled s) s (s.levelStep z) := by
  refine onlyZone_onZone hq ?_
  unfold Zone.levelled
  simp only [← modeCapacity_eq, ← economizer_eq]
  cases mode : q.mode with
  | idle => exact absurd mode active
  | cool => rfl
  | heat => rfl

/-! ### What the steps can do to the units (R4, R5, R9, R11, R87, R119) -/

/-- A unit in which stages have moved: its stage records, its purge timer and its gas channel may differ, and no more. -/
def StagesMoved (b c : BoundUnit) : Prop :=
  c = { b with stages := c.stages, purge := c.purge, gas := c.gas, gasReduction := c.gasReduction } ∧
    c.gas.profile = b.gas.profile

theorem StagesMoved.refl (b : BoundUnit) : StagesMoved b b := ⟨rfl, rfl⟩

theorem StagesMoved.trans {b c d : BoundUnit} (h : StagesMoved b c) (k : StagesMoved c d) : StagesMoved b d := by
  refine ⟨?_, k.2.trans h.2⟩
  have rest := k.1
  rw [h.1] at rest
  exact rest

/-- Two states with the same bound units, in which stages have moved. -/
def UnitsMoved (s t : State) : Prop :=
  ∀ u, match s.unit u with
    | none => t.unit u = none
    | some b => ∃ c, t.unit u = some c ∧ StagesMoved b c

theorem unitsMoved_of_units {s t : State} (units : t.units = s.units) : UnitsMoved s t := fun u => by
  have same : t.unit u = s.unit u := by rw [State.unit, units, State.unit]
  rw [same]
  cases s.unit u with
  | none => rfl
  | some b => exact ⟨b, rfl, .refl b⟩

theorem UnitsMoved.refl (s : State) : UnitsMoved s s := unitsMoved_of_units rfl

theorem UnitsMoved.trans {s m t : State} (h : UnitsMoved s m) (k : UnitsMoved m t) : UnitsMoved s t := fun u => by
  have first := h u
  have second := k u
  cases hs : s.unit u with
  | none =>
    simp only [hs] at first
    simpa only [first] using second
  | some b =>
    simp only [hs] at first
    obtain ⟨c, hc, moved⟩ := first
    simp only [hc] at second
    obtain ⟨d, hd, again⟩ := second
    exact ⟨d, hd, moved.trans again⟩

theorem unitsMoved_foldl {α : Type} {f : State → α → State} (each : ∀ s a, UnitsMoved s (f s a)) (l : List α) (s : State) :
    UnitsMoved s (l.foldl f s) := by
  induction l generalizing s with
  | nil => exact .refl s
  | cons a l ih => exact (each s a).trans (ih _)

theorem unitsMoved_onUnit (u : Nat) {f : BoundUnit → BoundUnit} (moved : ∀ b, StagesMoved b (f b)) (s : State) :
    UnitsMoved s (s.onUnit u f) := fun v => by
  rw [unit_onUnit]
  by_cases hv : v = u
  · subst hv
    cases hb : s.unit v <;> simp [moved]
  · cases s.unit v <;> simp [hv, StagesMoved.refl]

theorem onStage_moved (st : StageName) (f : StageRec → StageRec) (b : BoundUnit) : StagesMoved b (b.onStage st f) := by
  unfold BoundUnit.onStage
  split
  · exact .refl b
  · exact ⟨rfl, rfl⟩

theorem rederiveGas_moved (b : BoundUnit) : StagesMoved b b.rederiveGas := by
  refine ⟨?_, (rederiveGas_follows b).1⟩
  conv_lhs => rw [rederiveGas_frame]
  rw [rederiveGas_frame]

theorem putStage_moved (run : RunState) (cause : StopCause) (st : StageName) (r : StageRec) (b : BoundUnit) :
    StagesMoved b (b.putStage run cause st r) :=
  ⟨(putStage_stopFollows run cause st r b).1, (putStage_gasFollows run cause st r b).1⟩

theorem grantStage_moved (now : Word) (st : StageName) (b : BoundUnit) : StagesMoved b (b.grantStage now st) := by
  unfold BoundUnit.grantStage
  split
  · exact .refl b
  · dsimp only
    split
    · split
      · exact StagesMoved.trans ⟨rfl, rfl⟩ (rederiveGas_moved _)
      · exact ⟨rfl, rfl⟩
    · exact .refl b

theorem unitsMoved_withdraw (u : Nat) (st : StageName) (s : State) : UnitsMoved s (s.withdraw u st) := by
  unfold State.withdraw
  split
  · exact (unitsMoved_of_units (t := s.removeEntry u st) rfl).trans (unitsMoved_onUnit u (onStage_moved st _) _)
  · exact .refl s

theorem unitsMoved_withdrawMode (z : Nat) (heat : Bool) (s : State) : UnitsMoved s (s.withdrawMode z heat) :=
  unitsMoved_foldl (f := fun s (e : Entry) => s.withdraw e.unit e.stage) (fun s e => unitsMoved_withdraw e.unit e.stage s) _ s

theorem unitsMoved_takeStop (u : Nat) (st : StageName) (cause : StopCause) (s : State) :
    UnitsMoved s (s.takeStop u st cause) := fun v => by
  by_cases hv : v = u
  · subst hv
    cases hb : s.unit v with
    | none => simp [State.takeStop, hb]
    | some b =>
      cases hr : b.stages.get st with
      | none => simp [State.takeStop, hb, hr, StagesMoved.refl]
      | some r => exact ⟨_, takeStop_unit cause hb hr, putStage_moved ..⟩
  · rw [takeStop_other hv]
    cases s.unit v with
    | none => rfl
    | some b => exact ⟨b, rfl, .refl b⟩

theorem unitsMoved_grant (e : Entry) (s : State) : UnitsMoved s (s.grant e) := by
  have moved := (unitsMoved_of_units (t := s.removeEntry e.unit e.stage) (s := s) rfl).trans
    (unitsMoved_onUnit e.unit (grantStage_moved s.uptime e.stage) _)
  unfold State.grant
  dsimp only
  split
  · exact moved
  · exact moved

theorem unitsMoved_attempt (cause : AttemptCause) (s : State) : UnitsMoved s (s.attempt cause) := by
  unfold State.attempt
  dsimp only
  split
  · exact unitsMoved_of_units rfl
  · split
    · exact unitsMoved_of_units rfl
    · exact unitsMoved_grant _ s

theorem unitsMoved_request (u : Nat) (st : StageName) (s : State) : UnitsMoved s (s.request u st) := by
  cases hb : s.unit u with
  | none => simpa only [State.request, hb] using UnitsMoved.refl s
  | some b =>
    cases hr : b.stages.get st with
    | none => simpa only [State.request, hb, hr] using UnitsMoved.refl s
    | some r =>
      rw [request_eq hb hr]
      split
      · refine UnitsMoved.trans (m := s.joined u st b r) (fun v => ?_) (unitsMoved_attempt .join _)
        have written : (s.joined u st b r).unit v =
            if v = u then some (b.withStage st { r with state := .queued }) else s.unit v := unit_putUnit ..
        rw [written]
        by_cases hv : v = u
        · subst hv
          simp only [hb, if_true]
          exact ⟨_, rfl, rfl, rfl⟩
        · cases hc : s.unit v <;> simp [hv, StagesMoved.refl]
      · exact .refl s

/-! ### Step 5 on zones and units (R82 to R85) -/

/-- What the matching of a zone can do: its owed step and its hold order may differ, and stages of the units may move. -/
structure Matched (z : Nat) (s t : State) : Prop where
  zone : ∀ q, s.zone z = some q → ∃ owed order, t.zone z = some { q with stepOwed := owed, holdOrder := order }
  zones : ∀ y, y ≠ z → t.zone y = s.zone y
  units : UnitsMoved s t

theorem matched_of_zones {z : Nat} {s t : State} (zones : t.zones = s.zones) (units : UnitsMoved s t) : Matched z s t := by
  have same (y : Nat) : t.zone y = s.zone y := by rw [State.zone, zones, State.zone]
  exact ⟨fun q hq => ⟨q.stepOwed, q.holdOrder, (same z).trans hq⟩, fun y _ => same y, units⟩

theorem Matched.refl (z : Nat) (s : State) : Matched z s s := matched_of_zones rfl (.refl s)

theorem Matched.trans {z : Nat} {s m t : State} (h : Matched z s m) (k : Matched z m t) : Matched z s t := by
  refine ⟨fun q hq => ?_, fun y hy => (k.zones y hy).trans (h.zones y hy), h.units.trans k.units⟩
  obtain ⟨_, _, hm⟩ := h.zone q hq
  obtain ⟨owed, order, ht⟩ := k.zone _ hm
  exact ⟨owed, order, ht⟩

theorem matched_putZone {z : Nat} {q : Zone} {s : State} (hq : s.zone z = some q) (owed : Bool)
    (order : List (Nat × StageName)) : Matched z s (s.putZone z { q with stepOwed := owed, holdOrder := order }) := by
  refine ⟨fun p hp => ⟨owed, order, ?_⟩, fun y hy => by rw [zone_putZone, if_neg hy], unitsMoved_of_units rfl⟩
  obtain rfl : q = p := by simpa [hq] using hp
  rw [zone_putZone, if_pos rfl]

/-- R11: the reclaims of several stages, one after another. -/
def State.reclaimAll (taken : List (Nat × StageName)) (s : State) : State :=
  taken.foldl (fun s p => s.onUnit p.1 (BoundUnit.onStage p.2 StageRec.reclaim)) s

theorem reclaimAll_frame (taken : List (Nat × StageName)) (s : State) :
    s.reclaimAll taken = { s with units := (s.reclaimAll taken).units } :=
  foldl_units_frame _ (fun s p => onUnit_frame p.1 _ s) taken s

theorem unitsMoved_reclaimAll (taken : List (Nat × StageName)) (s : State) : UnitsMoved s (s.reclaimAll taken) :=
  unitsMoved_foldl (f := fun s (p : Nat × StageName) => s.onUnit p.1 (BoundUnit.onStage p.2 StageRec.reclaim))
    (fun s p => unitsMoved_onUnit p.1 (onStage_moved p.2 _) s) taken s

/-- R83: the hold order looked through: of the stages still held (`held`) the newest `short` are reclaimed. -/
theorem reclaimStep_eq {z : Nat} {q : Zone} {s : State} (hq : s.zone z = some q) {held : List (Nat × StageName)}
    (hheld : held = q.holdOrder.filter s.reclaimable) (short : Nat) :
    s.reclaimStep z short =
      (s.putZone z { q with
        stepOwed := q.stepOwed && (held.drop (held.length - short)).reverse.isEmpty
        holdOrder := held.take (held.length - short) }).reclaimAll (held.drop (held.length - short)).reverse := by
  subst hheld
  simp only [State.reclaimStep, hq]
  rfl

theorem matched_reclaimStep (z short : Nat) (s : State) : Matched z s (s.reclaimStep z short) := by
  cases hq : s.zone z with
  | none =>
    simp only [State.reclaimStep, hq]
    exact .refl z s
  | some q =>
    rw [reclaimStep_eq hq rfl]
    exact (matched_putZone hq _ _).trans (matched_of_zones (by rw [reclaimAll_frame]) (unitsMoved_reclaimAll _ _))

theorem matched_requestStep (z : Nat) (s : State) : Matched z s (s.requestStep z) := by
  unfold State.requestStep
  split
  · exact .refl z s
  rename_i q hq
  split
  · split
    · exact .refl z s
    · rename_i c _
      split
      · have zones : (s.request c.unit c.stage).zones = s.zones := by rw [request_frame]
        have same : (s.request c.unit c.stage).zone z = some q := by rw [State.zone, zones]; exact hq
        exact (matched_of_zones zones (unitsMoved_request _ _ s)).trans (matched_putZone same false q.holdOrder)
      · exact .refl z s
  · exact .refl z s

theorem matched_giveUpStep (z : Nat) (s : State) : Matched z s (s.giveUpStep z) := by
  unfold State.giveUpStep
  split
  · exact .refl z s
  rename_i q hq
  split
  · exact matched_of_zones (by rw [withdraw_frame]) (unitsMoved_withdraw _ _ s)
  · split
    · exact .refl z s
    · rename_i c _
      have zones : (s.takeStop c.unit c.stage .satisfied).zones = s.zones := by rw [takeStop_frame]
      have stopped : Matched z s (s.takeStop c.unit c.stage .satisfied) := matched_of_zones zones (unitsMoved_takeStop _ _ _ s)
      have same : (s.takeStop c.unit c.stage .satisfied).zone z = some q := by rw [State.zone, zones]; exact hq
      dsimp only
      split
      · exact stopped.trans (matched_putZone same q.stepOwed _)
      · exact stopped

theorem matched_matchStep (z : Nat) (s : State) : Matched z s (s.matchStep z) := by
  unfold State.matchStep
  split
  · exact .refl z s
  split
  · exact .refl z s
  dsimp only
  split
  · split
    · exact (matched_reclaimStep ..).trans (matched_requestStep ..)
    · exact matched_reclaimStep ..
  · split
    · exact matched_giveUpStep z s
    · exact .refl z s

theorem matchStep_idle {z : Nat} {q : Zone} {s : State} (hq : s.zone z = some q) (idle : q.mode = .idle) :
    s.matchStep z = s := by
  simp only [State.matchStep, hq, idle, if_true]

/-! ### Step 6: targets (R86, R87) -/

/-- R86: what a unit takes of its zone but for the gas channel. -/
def BoundUnit.withTargets (r : Zone) (b : BoundUnit) : BoundUnit :=
  { b with
    fan := { b.fan with target := r.fanTarget }
    damper := { b.damper with target := r.damperTarget b.copy } }

theorem takeTargets_eq (r : Zone) (b : BoundUnit) : b.takeTargets r = (b.withTargets r).rederiveGas := rfl

/-- R87: a gas target derived again from the same stages stays. -/
theorem rederiveGas_again (b : BoundUnit) : b.rederiveGas.rederiveGas = b.rederiveGas := by
  by_cases called : b.copy.kind = .modulatingGas ∧ b.zone ≠ 0
  · have taken : b.rederiveGas = b.setGasTarget b.gasCall := if_pos called
    have again : b.rederiveGas.rederiveGas = b.rederiveGas.setGasTarget b.rederiveGas.gasCall := by
      refine if_pos ?_
      rw [rederiveGas_frame]
      exact called
    have call : b.rederiveGas.gasCall = b.gasCall := by rw [rederiveGas_frame]; rfl
    rw [again, call, BoundUnit.setGasTarget, if_pos]
    rw [taken, (setGasTarget_spec ..).2.1]
  · have kept : b.rederiveGas = b := if_neg called
    rw [kept, kept]

/-- R86, R87: a unit that takes its zone's targets twice has them already. -/
theorem takeTargets_again (r : Zone) (b : BoundUnit) : (b.takeTargets r).takeTargets r = b.takeTargets r := by
  have same : (b.takeTargets r).withTargets r = b.takeTargets r := by
    rw [takeTargets_eq, rederiveGas_frame]
    rfl
  rw [takeTargets_eq r (b.takeTargets r), same, takeTargets_eq, rederiveGas_again]

/-- A change that repeats itself reaches each unit of a list once. -/
theorem foldl_onUnit_unit {f : BoundUnit → BoundUnit} (again : ∀ b, f (f b) = f b) (l : List Nat) (s : State) (v : Nat) :
    (l.foldl (fun s u => s.onUnit u f) s).unit v = if v ∈ l then (s.unit v).map f else s.unit v := by
  induction l generalizing s with
  | nil => rfl
  | cons u rest ih =>
    rw [List.foldl_cons, ih, unit_onUnit]
    by_cases hv : v = u
    · subst hv
      cases s.unit v <;> simp [again]
    · simp [hv]

theorem channelStep_unit {z : Nat} {q : Zone} {s : State} (hq : s.zone z = some q) (v : Nat) :
    (s.channelStep z).unit v = if v ∈ q.units then (s.unit v).map (BoundUnit.takeTargets q) else s.unit v := by
  simp only [State.channelStep, hq]
  exact foldl_onUnit_unit (takeTargets_again q) q.units s v

theorem channelStep_zone (z y : Nat) (s : State) : (s.channelStep z).zone y = s.zone y := by
  rw [channelStep_frame]
  rfl

/-- R86: the fan target in the words of the rule. -/
theorem fanTarget_eq (r : Zone) :
    r.fanTarget = if r.occupancy = .unoccupied ∧ r.level = 0 then 0 else r.config.occFan := by
  unfold Zone.fanTarget
  cases r.occupancy <;> simp [Nat.pos_iff_ne_zero, ite_not]

end Sys2Proof.Machine
end

section
/-! PROOF. O48: a due evaluation, from its steps to the words of its rules. -/

namespace Sys2Proof.Machine

/-! ### Steps 1 to 4 in one (R71) -/

/-- R71: a zone after steps 1 to 4 of its evaluation in NORMAL, from the state as the evaluation finds it. -/
def Zone.evaluated (s : State) (r : Zone) : Zone :=
  if ((r.read s).moded s).mode = .idle then
    { (r.read s).moded s with level := 0, capacity := 0, wanted := 0, econAvailable := false, econOn := false }
  else ((r.read s).moded s).levelled s

/-- R71: the part after steps 1 to 4 of an evaluation in NORMAL. -/
def State.levelledStep (z : Nat) (r : Zone) (s : State) : State := ((s.readStep z r).modeStep z).levelStep z

theorem zoneEvaluation_early {z : Nat} {r : Zone} {s : State} (hr : s.zone z = some r) (early : r.evaluation ≠ .running 0) :
    exec (.zoneEvaluation z) s = .next s := by
  simp only [exec, execZoneEvaluation, hr, if_neg (mt isDue_iff.mp early)]

theorem readStep_run (z : Nat) (r : Zone) (s : State) : (s.readStep z r).host.run = s.host.run := by
  rw [(readStep_only z r s).1]
  unfold State.faultHost
  dsimp only [setHost_host]
  split <;> rfl

theorem zoneEvaluation_due {z : Nat} {r : Zone} {s : State} (hr : s.zone z = some r) (due : r.evaluation = .running 0) :
    exec (.zoneEvaluation z) s = .next
      (if s.host.run = .normal then ((s.levelledStep z r).matchStep z).channelStep z else s.readStep z r) := by
  simp only [exec, execZoneEvaluation, hr, if_pos (isDue_iff.mpr due), ← readStep_run z r s]
  rfl

/-- R77: a zone that leaves its mode at step 3. -/
def Zone.Leaves (s : State) (q : Zone) : Prop := q.mode ≠ .idle ∧ s.modeExit q (decide (q.mode = .heat)) = true

section
variable {z : Nat} {q : Zone} {h : HostLink} {s m : State}

theorem moded_leaves (leaves : q.Leaves s) : q.moded s = q.leave := by
  rw [Zone.moded, if_neg leaves.1, if_pos leaves.2]

theorem moded_stays (active : q.mode ≠ .idle) (stays : ¬q.Leaves s) : q.moded s = q := by
  rw [Zone.moded, if_neg active, if_neg fun exits => stays ⟨active, exits⟩]

/-- R76: a zone that enters a mode, or none, or keeps its mode, is all that step 3 changes. -/
theorem modeStep_stays (read : OnlyZone z q (s.setHost h) m) (stays : ¬q.Leaves s) :
    OnlyZone z (q.moded s) (s.setHost h) (m.modeStep z) := by
  obtain ⟨zones, rfl⟩ := read.frame
  by_cases idle : q.mode = .idle
  · exact read.trans (modeStep_idle read.zone idle)
  · have still : ¬((s.setHost h).setZones zones).modeExit q (decide (q.mode = .heat)) = true := fun exits =>
      stays ⟨idle, exits⟩
    rw [modeStep_active read.zone idle, if_neg still, moded_stays idle stays]
    exact read

/-- R77, R32: a zone that leaves its mode withdraws its entries of the mode. -/
theorem modeStep_leaves (read : OnlyZone z q (s.setHost h) m) (leaves : q.Leaves s) :
    m.modeStep z = (m.putZone z q.leave).withdrawMode z (decide (q.mode = .heat)) := by
  obtain ⟨zones, rfl⟩ := read.frame
  exact (modeStep_active read.zone leaves.1).trans (if_pos leaves.2)

end

/-- R71: while the zone does not leave its mode, it is all that steps 1 to 4 change but for the sensor notice. -/
theorem levelledStep_only {z : Nat} {r : Zone} {s : State} (stays : ¬(r.read s).Leaves s) :
    OnlyZone z (r.evaluated s) (s.setHost (s.faultHost z r (r.read s))) (s.levelledStep z r) := by
  have moded := modeStep_stays (readStep_only z r s) stays
  unfold State.levelledStep Zone.evaluated
  generalize (s.readStep z r).modeStep z = m at moded ⊢
  obtain ⟨zones, rfl⟩ := moded.frame
  split
  · exact moded.trans (levelStep_idle moded.zone ‹_›)
  · exact moded.trans (levelStep_active moded.zone ‹_›)

theorem evaluated_idle_of_leaves {r : Zone} {s : State} (leaves : (r.read s).Leaves s) : (r.evaluated s).mode = .idle := by
  have idle : ((r.read s).moded s).mode = .idle := by rw [moded_leaves leaves]; rfl
  rw [Zone.evaluated, if_pos idle]
  exact idle

/-- R71: what steps 1 to 4 leave of the zones, the host link and the units. -/
theorem levelledStep_result (z : Nat) (r : Zone) (s : State) :
    (∀ y, (s.levelledStep z r).zone y = if y = z then some (r.evaluated s) else s.zone y) ∧
      (s.levelledStep z r).host = s.faultHost z r (r.read s) ∧ UnitsMoved s (s.levelledStep z r) := by
  by_cases leaves : (r.read s).Leaves s
  · have idle : ((r.read s).moded s).mode = .idle := by rw [moded_leaves leaves]; rfl
    have read := readStep_only z r s
    unfold State.levelledStep
    rw [modeStep_leaves read leaves]
    have put := read.trans (onlyZone_putZone z (r.read s).leave (s.readStep z r))
    generalize (s.readStep z r).putZone z (r.read s).leave = m at put ⊢
    have withdrawn := withdrawAll_frame
      (m.arbiter.queue.filter fun e => e.zone == z && e.compressor == !decide ((r.read s).mode = .heat)) m
    have moved := unitsMoved_withdrawMode z (decide ((r.read s).mode = .heat)) m
    unfold State.withdrawMode at moved ⊢
    generalize m.withdrawAll _ = n at withdrawn moved ⊢
    have zone (y : Nat) : n.zone y = if y = z then some ((r.read s).moded s) else s.zone y := by
      rw [moded_leaves leaves, withdrawn]
      exact put.2 y
    have levelled := levelStep_idle ((zone z).trans (if_pos rfl)) idle
    refine ⟨fun y => ?_, ?_, ?_⟩
    · rw [levelled.2, zone, Zone.evaluated, if_pos idle]
      split <;> rfl
    · rw [levelled.1, withdrawn, put.1]
      rfl
    · refine (unitsMoved_of_units (t := m) ?_).trans (moved.trans (unitsMoved_of_units ?_))
      · rw [put.1]
        rfl
      · rw [levelled.1]
  · have levelled := levelledStep_only (z := z) leaves
    refine ⟨levelled.2, ?_, unitsMoved_of_units ?_⟩
    · rw [levelled.1]
      rfl
    · rw [levelled.1]
      rfl

/-! ### Temperature and setpoints in the words of the rules (R72 to R75) -/

/-- R72: the readings of a zone that are valid. -/
def Rule.zoneReadings (s : State) (r : Zone) : List Int :=
  r.units.filterMap fun u => (s.unit u).bind fun b =>
    if (b.live.link = .online ∨ b.live.link = .missing) ∧
        (b.live.lastGood.any fun g => decide ((s.uptime - g).toNat < r.config.staleTime)) = true ∧
        (b.live.space.any fun v => decide (-400 ≤ v) && decide (v ≤ 850)) = true then b.live.space else none

theorem spaceReading_eq (now : Word) (stale : Nat) (b : BoundUnit) :
    b.spaceReading now stale =
      if (b.live.link = .online ∨ b.live.link = .missing) ∧
        (b.live.lastGood.any fun g => decide ((now - g).toNat < stale)) = true ∧
        (b.live.space.any fun v => decide (-400 ≤ v) && decide (v ≤ 850)) = true then b.live.space else none := by
  rw [BoundUnit.spaceReading, validReading_eq, ite_and]
  refine if_congr Iff.rfl ?_ rfl
  cases b.live.lastGood with
  | none => simp
  | some g =>
    rw [ite_and]
    exact if_congr (by simp only [since, Option.any_some, decide_eq_true_eq]) rfl rfl

theorem deriveTemperature_eq (s : State) (r : Zone) :
    s.deriveTemperature r = if Rule.zoneReadings s r = [] then none
      else some ((2 * (Rule.zoneReadings s r).sum + (Rule.zoneReadings s r).length) /
        (2 * (Rule.zoneReadings s r).length)) := by
  have readings : ((s.zoneUnits r).filterMap fun p => p.2.spaceReading s.uptime r.config.staleTime) =
      Rule.zoneReadings s r := by
    rw [State.zoneUnits, List.filterMap_filterMap, Rule.zoneReadings]
    refine List.filterMap_congr fun u _ => ?_
    cases s.unit u with
    | none => rfl
    | some b => exact spaceReading_eq ..
  rw [State.deriveTemperature, roundedAverage_eq, readings]

/-- R72, R73: the temperature of a zone after its derivation, or without one. -/
theorem read_temperature (s : State) (r : Zone) :
    if Rule.zoneReadings s r = [] then
      (r.read s).temperature = r.temperature ∧ (r.read s).derivedAt = r.derivedAt ∧
        (r.read s).sensorFault = (r.sensorFault || decide (r.config.staleTime ≤ (s.uptime - r.derivedAt).toNat))
    else
      (r.read s).temperature = some ((2 * (Rule.zoneReadings s r).sum + (Rule.zoneReadings s r).length) /
          (2 * (Rule.zoneReadings s r).length)) ∧
        (r.read s).derivedAt = s.uptime ∧ (r.read s).sensorFault = false := by
  have derived := deriveTemperature_eq s r
  unfold Zone.read
  split
  · rename_i empty
    rw [derived, if_pos empty]
    exact ⟨rfl, rfl, rfl⟩
  · rename_i some
    rw [derived, if_neg some]
    exact ⟨rfl, rfl, rfl⟩

/-- R71: what the first two steps leave of a zone as it was. -/
theorem read_frame (s : State) (r : Zone) :
    r.read s = { r with
      cell := (r.read s).cell, temperature := (r.read s).temperature, derivedAt := (r.read s).derivedAt
      sensorFault := (r.read s).sensorFault, appliedCool := (r.read s).appliedCool
      appliedHeat := (r.read s).appliedHeat, evaluation := (r.read s).evaluation } := by
  simp only [Zone.read, Zone.withSetpoints, Zone.measured, Zone.refreshed, Zone.armed]

/-- R71: a zone after the first two steps, with what they write as values of their own. -/
theorem read_cases (s : State) (r : Zone) :
    ∃ cell temperature derivedAt fault cool heat evaluation, r.read s = { r with
      cell := cell, temperature := temperature, derivedAt := derivedAt, sensorFault := fault, appliedCool := cool
      appliedHeat := heat, evaluation := evaluation } := ⟨_, _, _, _, _, _, _, read_frame s r⟩

/-- R74, R75: the applied setpoints of a zone. -/
theorem read_applied (s : State) (r : Zone) :
    ((r.read s).appliedCool, (r.read s).appliedHeat) =
      Rule.applied r.config.deadband ((r.forced.bind Override.cool).getD (r.read s).cell.cool)
        ((r.forced.bind Override.heat).getD (r.read s).cell.heat) := by
  rw [← applySetpoints_eq]
  rfl

/-! ### Mode and level in the words of the rules (R76 to R81) -/

/-- R71: steps 3 and 4 leave the configuration, the list, the override and what steps 1 and 2 wrote. -/
theorem evaluated_frame (s : State) (r : Zone) :
    r.evaluated s = { r.read s with
      mode := (r.evaluated s).mode, lastMode := (r.evaluated s).lastMode, level := (r.evaluated s).level
      capacity := (r.evaluated s).capacity, wanted := (r.evaluated s).wanted
      econAvailable := (r.evaluated s).econAvailable, econOn := (r.evaluated s).econOn
      changeover := (r.evaluated s).changeover, lastIncrease := (r.evaluated s).lastIncrease
      lastDecrease := (r.evaluated s).lastDecrease, stepOwed := (r.evaluated s).stepOwed
      holdOrder := (r.evaluated s).holdOrder } := by
  unfold Zone.evaluated Zone.levelled
  simp only [levelStep_zone]
  unfold Zone.moded
  split <;> split <;> rfl

theorem evaluated_idle {s : State} {r : Zone} (idle : ((r.read s).moded s).mode = .idle) :
    r.evaluated s = { (r.read s).moded s with
      level := 0, capacity := 0, wanted := 0, econAvailable := false, econOn := false } := if_pos idle

theorem evaluated_active {s : State} {r : Zone} (active : ((r.read s).moded s).mode ≠ .idle) :
    r.evaluated s = ((r.read s).moded s).levelled s := if_neg active

theorem evaluated_modes (s : State) (r : Zone) :
    (r.evaluated s).mode = ((r.read s).moded s).mode ∧ (r.evaluated s).lastMode = ((r.read s).moded s).lastMode ∧
      (r.evaluated s).changeover = ((r.read s).moded s).changeover ∧
      (r.evaluated s).holdOrder = ((r.read s).moded s).holdOrder := by
  unfold Zone.evaluated Zone.levelled
  rw [levelStep_zone]
  split <;> exact ⟨rfl, rfl, rfl, rfl⟩

/-- R78: whether the level is forced to 0. -/
theorem levelForced_iff {q : Zone} :
    q.levelForced = true ↔ q.sensorFault = true ∨ q.temperature = none ∨ q.modeForce = .off ∨
      q.modeForce = (if q.mode = .heat then .coolOnly else .heatOnly) := by
  have force : q.forcedOff (decide (q.mode = .heat)) = true ↔ q.modeForce = .off ∨
      q.modeForce = (if q.mode = .heat then .coolOnly else .heatOnly) := by
    unfold Zone.forcedOff
    by_cases heat : q.mode = .heat <;> cases q.modeForce <;> simp [heat]
  simp only [Zone.levelForced, Bool.or_eq_true, Option.isNone_iff_eq_none, force, or_assoc]

/-- R80: a delay has passed since an uptime, or there is none. -/
theorem delayPassed_iff {now : Word} {delay : Nat} {stamp : Option Word} :
    delayPassed now delay stamp = true ↔ ∀ t, stamp = some t → delay ≤ (now - t).toNat := by
  cases stamp with
  | none => simp [delayPassed]
  | some t => exact decide_eq_true_iff.trans (by simp only [since, Option.some.injEq, forall_eq'])

theorem raises_iff {now : Word} {cap : Nat} {q : Zone} :
    q.raises now cap = true ↔ q.levelForced = false ∧ q.level < q.askedLevel cap ∧
      ∀ up, q.lastIncrease = some up → q.config.upDelay ≤ (now - up).toNat := by
  simp only [Zone.raises, Bool.and_eq_true, Bool.not_eq_true', decide_eq_true_eq, delayPassed_iff, and_assoc]

theorem lowers_iff {now : Word} {cap : Nat} {q : Zone} :
    q.lowers now cap = true ↔ q.levelForced = false ∧ q.raises now cap = false ∧ 0 < q.level ∧
      q.call ≤ (((q.level - 1) * q.config.stageDiff : Nat) : Int) ∧
      ∀ down, q.lastDecrease = some down → q.config.downDelay ≤ (now - down).toNat := by
  simp only [Zone.lowers, Bool.and_eq_true, Bool.not_eq_true', decide_eq_true_eq, delayPassed_iff, and_assoc]

/-! ### Units (R86, R87) -/

/-- R86, R87: a unit of the zone that has moved stages and takes its targets. -/
theorem takeTargets_moved {b c : BoundUnit} (moved : StagesMoved b c) (r : Zone) :
    c.takeTargets r = { b with
        stages := c.stages, purge := c.purge, gas := (c.takeTargets r).gas, gasReduction := (c.takeTargets r).gasReduction
        fan := { b.fan with target := r.fanTarget }, damper := { b.damper with target := r.damperTarget b.copy } } ∧
      (c.takeTargets r).gas.profile = b.gas.profile ∧
      (b.copy.kind = .modulatingGas → b.zone ≠ 0 → (c.takeTargets r).gas.target =
        if c.isOn .h2 then 1000 else if c.isOn .h1 then b.copy.gasLowFire else 0) := by
  obtain ⟨frame, profile⟩ := moved
  obtain ⟨stages, purge, gas, reduction, rfl⟩ : ∃ stages purge gas reduction, c =
      { b with stages := stages, purge := purge, gas := gas, gasReduction := reduction } := ⟨_, _, _, _, frame⟩
  obtain ⟨same, called, _⟩ := rederiveGas_follows (BoundUnit.withTargets r
    { b with stages := stages, purge := purge, gas := gas, gasReduction := reduction })
  rw [← takeTargets_eq] at same called
  refine ⟨?_, same.trans profile, fun kind bound => ?_⟩
  · conv_lhs => rw [takeTargets_eq, rederiveGas_frame]
    rfl
  · rw [(called ⟨trivial, kind, bound⟩).1, isOn_congr (takeTargets_stages r _)]
    rfl

/-! ### The evaluation in NORMAL -/

/-- R71: an evaluation in NORMAL: the zone after step 4 but for its owed step and its hold order, and the units. -/
theorem evaluate_normal (z : Nat) (r : Zone) (s : State) :
    ∃ owed order, (∀ y, (((s.levelledStep z r).matchStep z).channelStep z).zone y =
        if y = z then some { r.evaluated s with stepOwed := owed, holdOrder := order } else s.zone y) ∧
      (((s.levelledStep z r).matchStep z).channelStep z).host = s.faultHost z r (r.read s) ∧
      ((r.evaluated s).mode = .idle → owed = (r.evaluated s).stepOwed ∧ order = (r.evaluated s).holdOrder) ∧
      ∀ u, match s.unit u with
        | none => (((s.levelledStep z r).matchStep z).channelStep z).unit u = none
        | some b => ∃ c, StagesMoved b c ∧ (((s.levelledStep z r).matchStep z).channelStep z).unit u =
            some (if u ∈ r.units then c.takeTargets { r.evaluated s with stepOwed := owed, holdOrder := order } else c) := by
  obtain ⟨zones, host, units⟩ := levelledStep_result z r s
  generalize s.levelledStep z r = m at *
  have hm := (zones z).trans (if_pos rfl)
  have matched := matched_matchStep z m
  have hidle (idle : (r.evaluated s).mode = .idle) : m.matchStep z = m := matchStep_idle hm idle
  have hhost : (m.matchStep z).host = m.host := by rw [matchStep_frame]
  generalize m.matchStep z = n at *
  obtain ⟨owed, order, hn⟩ := matched.zone _ hm
  refine ⟨owed, order, fun y => ?_, ?_, fun idle => ?_, fun u => ?_⟩
  · rw [channelStep_zone]
    split
    · subst y
      exact hn
    · rename_i other
      rw [matched.zones y other, zones, if_neg other]
  · rw [channelStep_frame]
    exact hhost.trans host
  · rw [hidle idle, hm] at hn
    injection hn with hn
    exact ⟨(congrArg Zone.stepOwed hn).symm, (congrArg Zone.holdOrder hn).symm⟩
  · have moved := units.trans matched.units u
    have listed : ({ r.evaluated s with stepOwed := owed, holdOrder := order } : Zone).units = r.units := by
      rw [evaluated_frame]
      rfl
    rw [channelStep_unit hn, listed]
    cases hb : s.unit u with
    | none =>
      simp only [hb] at moved
      simp [moved]
    | some b =>
      simp only [hb] at moved
      obtain ⟨c, hc, moved⟩ := moved
      exact ⟨c, moved, by rw [hc]; split <;> rfl⟩

/-! ### The zone after step 4 in the words of the rules -/

section
variable {r : Zone} {s : State}

theorem economizer_congr {q : Zone} (units : q.units = r.units) (config : q.config = r.config) :
    Rule.economizer s q = Rule.economizer s r := by
  simp only [Rule.economizer, units, config]

/-- R79: the capacity of a zone is a matter of its configuration and its list alone. -/
theorem capacity_congr {q : Zone} (units : q.units = r.units) (config : q.config = r.config) (heat : Bool) :
    Rule.capacity s q heat = Rule.capacity s r heat := by
  simp only [Rule.capacity, economizer_congr units config, units]

/-- R76: the mode of a zone that was in IDLE. -/
theorem evaluated_mode_entered (idle : r.mode = .idle) :
    (r.evaluated s).mode = match (r.read s).temperature with
      | none => .idle
      | some v =>
        if (r.read s).sensorFault then .idle
        else if (r.config.modeDiff : Int) ≤ v - (r.read s).appliedCool ∧ r.modeForce ≠ .off ∧ r.modeForce ≠ .heatOnly ∧
            0 < Rule.capacity s r false ∧ (r.changeover = .stopped ∨ r.lastMode ≠ .heat) then .cool
        else if (r.config.modeDiff : Int) ≤ (r.read s).appliedHeat - v ∧ r.modeForce ≠ .off ∧ r.modeForce ≠ .coolOnly ∧
            0 < Rule.capacity s r true ∧ r.changeover = .stopped then .heat
        else .idle := by
  have entered : (r.read s).moded s = (r.read s).enter (s.modeEntry (r.read s)) := if_pos idle
  have mode : (r.evaluated s).mode = (s.modeEntry (r.read s)).getD .idle := by
    rw [(evaluated_modes s r).1, entered, ← idle]
    rfl
  rw [mode, modeEntry_eq]
  obtain ⟨cell, temperature, derivedAt, fault, cool, heat, evaluation, read⟩ := read_cases s r
  rw [read]
  cases temperature with
  | none => rfl
  | some v =>
    simp only [apply_ite fun entry : Option Mode => entry.getD .idle, Option.getD_none, Option.getD_some]
    rfl

/-- R77: a zone in a mode leaves it exactly under the three conditions. -/
theorem leaves_iff (active : r.mode ≠ .idle) :
    (r.read s).Leaves s ↔ r.level = 0 ∧ r.econOn = false ∧ ¬Rule.zoneEngaged s r (decide (r.mode = .heat)) :=
  (and_iff_right active).trans modeExit_iff

theorem evaluated_mode_stays (active : r.mode ≠ .idle) (stays : ¬(r.read s).Leaves s) : (r.evaluated s).mode = r.mode := by
  rw [(evaluated_modes s r).1, moded_stays (q := r.read s) active stays]
  rfl

/-- R77: the changeover timer starts as the zone leaves its mode. -/
theorem evaluated_changeover : (r.evaluated s).changeover =
    if (r.evaluated s).mode = .idle ∧ r.mode ≠ .idle then .running r.config.changeover else r.changeover := by
  obtain ⟨_, _, changeover, _⟩ := evaluated_modes s r
  by_cases idle : r.mode = .idle
  · rw [if_neg fun left => left.2 idle, changeover, Zone.moded, if_pos (show (r.read s).mode = .idle from idle)]
    rfl
  · by_cases leaves : (r.read s).Leaves s
    · rw [if_pos ⟨evaluated_idle_of_leaves leaves, idle⟩, changeover, moded_leaves leaves]
      rfl
    · rw [if_neg fun left => idle ((evaluated_mode_stays idle leaves).symm.trans left.1), changeover,
        moded_stays (q := r.read s) idle leaves]
      rfl

/-- R76: the mode that a zone enters is COOL or HEAT. -/
theorem modeEntry_ne_idle {q : Zone} {x : Mode} (entry : s.modeEntry q = some x) : x ≠ .idle := by
  rintro rfl
  unfold State.modeEntry at entry
  split at entry
  · cases entry
  · split at entry
    · cases entry
    · split at entry
      · cases entry
      · split at entry <;> cases entry

/-- R76: the last active mode is that which the zone enters. -/
theorem evaluated_lastMode : (r.evaluated s).lastMode =
    if r.mode = .idle ∧ (r.evaluated s).mode ≠ .idle then (r.evaluated s).mode else r.lastMode := by
  obtain ⟨mode, last, _, _⟩ := evaluated_modes s r
  rw [mode, last]
  by_cases idle : r.mode = .idle
  · have entered : (r.read s).moded s = (r.read s).enter (s.modeEntry (r.read s)) := if_pos idle
    rw [entered]
    unfold Zone.enter
    cases entry : s.modeEntry (r.read s) with
    | none => exact (if_neg fun enters => enters.2 idle).symm
    | some x => exact (if_pos ⟨idle, modeEntry_ne_idle entry⟩).symm
  · rw [if_neg fun entered => idle entered.1]
    by_cases leaves : (r.read s).Leaves s
    · rw [moded_leaves leaves]
      rfl
    · rw [moded_stays (q := r.read s) idle leaves]
      rfl

/-- R77, R79, R80: a zone in IDLE has nothing to give, and one that has left its mode owes no step and holds no place. -/
theorem evaluated_idle_zone (idle : (r.evaluated s).mode = .idle) :
    (r.evaluated s).level = 0 ∧ (r.evaluated s).capacity = 0 ∧ (r.evaluated s).wanted = 0 ∧
      (r.evaluated s).econOn = false ∧ (r.evaluated s).econAvailable = false ∧
      (r.mode ≠ .idle → (r.evaluated s).stepOwed = false ∧ (r.evaluated s).holdOrder = []) := by
  rw [evaluated_idle ((evaluated_modes s r).1 ▸ idle)]
  refine ⟨rfl, rfl, rfl, rfl, rfl, fun active => ?_⟩
  have leaves : (r.read s).Leaves s := by
    by_contra stays
    exact active ((evaluated_mode_stays active stays).symm.trans idle)
  rw [moded_leaves leaves]
  exact ⟨rfl, rfl⟩

/-- R76: a zone that is in COOL or HEAT after step 3 is the one read, but for the modes. -/
theorem moded_active (active : ((r.read s).moded s).mode ≠ .idle) :
    (r.read s).moded s =
      { r.read s with mode := ((r.read s).moded s).mode, lastMode := ((r.read s).moded s).lastMode } := by
  by_cases idle : r.mode = .idle
  · have entered : (r.read s).moded s = (r.read s).enter (s.modeEntry (r.read s)) := if_pos idle
    rw [entered]
    rfl
  · have stays : ¬(r.read s).Leaves s := fun leaves => by
      rw [moded_leaves leaves] at active
      exact active rfl
    rw [moded_stays (q := r.read s) idle stays]

/-- R78 to R81: the level of a zone in COOL or HEAT. -/
theorem evaluated_level {force : ModeForce} {call : Int} {asked : Nat} (hforce : force = r.modeForce)
    (active : (r.evaluated s).mode ≠ .idle)
    (hcall : call = match (r.evaluated s).temperature with
      | none => 0
      | some v => if (r.evaluated s).mode = .heat then (r.evaluated s).appliedHeat - v
        else v - (r.evaluated s).appliedCool)
    (hasked : asked = if (r.config.stageDiff : Int) ≤ call then
      min (r.evaluated s).capacity (call.toNat / r.config.stageDiff) else 0) :
    (r.evaluated s).capacity = Rule.capacity s r (decide ((r.evaluated s).mode = .heat)) ∧
      (r.evaluated s).econAvailable = (decide ((r.evaluated s).mode = .cool) && Rule.economizer s r) ∧
      (r.evaluated s).econOn = ((r.evaluated s).econAvailable && decide (0 < (r.evaluated s).level)) ∧
      (r.evaluated s).wanted =
        (if (r.evaluated s).econAvailable then (r.evaluated s).level - 1 else (r.evaluated s).level) ∧
      ∃ forcedOff raised lowered : Bool,
        (forcedOff = true ↔ (r.evaluated s).sensorFault = true ∨ (r.evaluated s).temperature = none ∨ force = .off ∨
          force = (if (r.evaluated s).mode = .heat then .coolOnly else .heatOnly)) ∧
        (raised = true ↔ forcedOff = false ∧ r.level < asked ∧
          ∀ up, r.lastIncrease = some up → r.config.upDelay ≤ (s.uptime - up).toNat) ∧
        (lowered = true ↔ forcedOff = false ∧ raised = false ∧ 0 < r.level ∧
          call ≤ (((r.level - 1) * r.config.stageDiff : Nat) : Int) ∧
          ∀ down, r.lastDecrease = some down → r.config.downDelay ≤ (s.uptime - down).toNat) ∧
        (r.evaluated s).level = (if forcedOff then 0 else if raised then r.level + 1
          else min (r.evaluated s).capacity (if lowered then r.level - 1 else r.level)) ∧
        (r.evaluated s).lastIncrease = (if raised then some s.uptime else r.lastIncrease) ∧
        (r.evaluated s).lastDecrease = (if lowered then some s.uptime else r.lastDecrease) := by
  have moded : ((r.read s).moded s).mode ≠ .idle := (evaluated_modes s r).1 ▸ active
  have zone := evaluated_active moded
  have q := moded_active moded
  generalize ((r.read s).moded s).mode = mode, ((r.read s).moded s).lastMode = last at q
  obtain ⟨cell, temperature, derivedAt, fault, cool, heat, evaluation, read⟩ := read_cases s r
  rw [q, read, Zone.levelled, levelStep_zone] at zone
  rw [zone] at hcall hasked active ⊢
  subst hforce
  obtain rfl : call = Zone.call
      { r with
        mode := mode, lastMode := last, cell := cell, temperature := temperature, derivedAt := derivedAt
        sensorFault := fault, appliedCool := cool, appliedHeat := heat, evaluation := evaluation } := hcall
  obtain rfl := hasked
  exact ⟨capacity_congr rfl rfl _, congrArg (_ && ·) (economizer_congr rfl rfl), rfl, rfl, _, _, _, levelForced_iff, raises_iff, lowers_iff, rfl, rfl, rfl⟩

end

end Sys2Proof.Machine
end

section
/-! PROOF. O48: the evaluation as a whole, and its statement. -/

namespace Sys2Proof.Machine

section
variable {z : Nat} {r : Zone} {s : State}

/-- R71: a zone whose temperature and setpoints, configuration, list and override are those of another. -/
def Zone.SameReading (q p : Zone) : Prop :=
  p = { q with
    mode := p.mode, lastMode := p.lastMode, level := p.level, capacity := p.capacity, wanted := p.wanted
    econAvailable := p.econAvailable, econOn := p.econOn, changeover := p.changeover, lastIncrease := p.lastIncrease
    lastDecrease := p.lastDecrease, stepOwed := p.stepOwed, holdOrder := p.holdOrder }

theorem evaluated_sameReading (owed : Bool) (order : List (Nat × StageName)) :
    (r.read s).SameReading { r.evaluated s with stepOwed := owed, holdOrder := order } := by
  have frame := evaluated_frame s r
  generalize r.evaluated s = e at frame ⊢
  rw [frame]
  exact rfl

theorem read_keeps (s : State) (r : Zone) :
    (r.read s).config = r.config ∧ (r.read s).units = r.units ∧ (r.read s).forced = r.forced ∧
      (r.read s).evaluation = .running r.config.period ∧
      (r.read s).cell = if s.schedule.clock.time = none then
        { occupancy := r.config.fbOccupancy, cool := r.config.fbCool, heat := r.config.fbHeat } else r.cell := by
  refine ⟨rfl, rfl, rfl, rfl, ?_⟩
  unfold Zone.read
  exact if_congr Iff.rfl rfl rfl

theorem zoneEvaluation_frame (hr : s.zone z = some r) (due : r.evaluation = .running 0) {t : State}
    (ht : exec (.zoneEvaluation z) s = .next t) : SameBesidesZoning s t := by
  simp only [exec, execZoneEvaluation, hr, if_pos (isDue_iff.mpr due), Host.Outcome.next.injEq] at ht
  subst ht
  exact SameBesidesZoning.trans (t := s.putZone z _) rfl (evaluate_frame z _)

theorem zoneEvaluation_shutdown (hr : s.zone z = some r) (due : r.evaluation = .running 0) (run : s.host.run = .shutdown) :
    exec (.zoneEvaluation z) s = .next (s.readStep z r) := by
  rw [zoneEvaluation_due hr due, run]
  rfl

theorem zoneEvaluation_normal (hr : s.zone z = some r) (due : r.evaluation = .running 0) (run : s.host.run = .normal) :
    exec (.zoneEvaluation z) s = .next (((s.levelledStep z r).matchStep z).channelStep z) := by
  rw [zoneEvaluation_due hr due, run]
  rfl

/-- R72 to R75: what every due evaluation leaves of the zone's readings, setpoints and sensor fault, with its notice. -/
theorem sameReading_words {q : Zone} (same : (r.read s).SameReading q) :
    q.config = r.config ∧ q.units = r.units ∧ q.forced = r.forced ∧ q.evaluation = .running r.config.period ∧
      q.cell = (if s.schedule.clock.time = none then
        { occupancy := r.config.fbOccupancy, cool := r.config.fbCool, heat := r.config.fbHeat } else r.cell) ∧
      (if Rule.zoneReadings s r = [] then
        q.temperature = r.temperature ∧ q.derivedAt = r.derivedAt ∧
          q.sensorFault = (r.sensorFault || decide (r.config.staleTime ≤ (s.uptime - r.derivedAt).toNat))
      else
        q.temperature = some ((2 * (Rule.zoneReadings s r).sum + (Rule.zoneReadings s r).length) /
            (2 * (Rule.zoneReadings s r).length)) ∧
          q.derivedAt = s.uptime ∧ q.sensorFault = false) ∧
      s.faultHost z r (r.read s) = (if q.sensorFault = true ∧ r.sensorFault = false then
        noting s .sensorFault none none (some z) r.temperature else s.host) ∧
      (q.appliedCool, q.appliedHeat) = Rule.applied r.config.deadband ((r.forced.bind Override.cool).getD q.cell.cool)
        ((r.forced.bind Override.heat).getD q.cell.heat) := by
  obtain ⟨config, units, forced, evaluation, cell⟩ := read_keeps s r
  have temperature := read_temperature s r
  have applied := read_applied s r
  unfold State.faultHost
  generalize r.read s = p at *
  rw [same]
  exact ⟨config, units, forced, evaluation, cell, temperature, rfl, applied⟩

/-- R76: the mode of a zone that was in IDLE, by the readings as the evaluation leaves them. -/
theorem evaluated_mode_words (idle : r.mode = .idle) :
    (r.evaluated s).mode = match (r.evaluated s).temperature with
      | none => .idle
      | some v =>
        if (r.evaluated s).sensorFault then .idle
        else if (r.config.modeDiff : Int) ≤ v - (r.evaluated s).appliedCool ∧ r.modeForce ≠ .off ∧
            r.modeForce ≠ .heatOnly ∧ 0 < Rule.capacity s r false ∧
            (r.changeover = .stopped ∨ r.lastMode ≠ .heat) then .cool
        else if (r.config.modeDiff : Int) ≤ (r.evaluated s).appliedHeat - v ∧ r.modeForce ≠ .off ∧
            r.modeForce ≠ .coolOnly ∧ 0 < Rule.capacity s r true ∧ r.changeover = .stopped then .heat
        else .idle := by
  obtain ⟨temperature, fault, cool, heat⟩ : (r.evaluated s).temperature = (r.read s).temperature ∧
      (r.evaluated s).sensorFault = (r.read s).sensorFault ∧ (r.evaluated s).appliedCool = (r.read s).appliedCool ∧
      (r.evaluated s).appliedHeat = (r.read s).appliedHeat := by
    rw [evaluated_frame]
    exact ⟨rfl, rfl, rfl, rfl⟩
  rw [temperature, fault, cool, heat]
  exact evaluated_mode_entered idle

/-- R86, R87: a unit after an evaluation in NORMAL that leaves the zone `q`. -/
theorem evaluated_unit {b c : BoundUnit} (moved : StagesMoved b c) (q : Zone) (units : List Nat) (u : Nat) :
    ∃ b', (if u ∈ units then c.takeTargets q else c) = b' ∧
      b' = { b with
        stages := b'.stages, purge := b'.purge, gas := b'.gas, gasReduction := b'.gasReduction
        fan := { b.fan with target := b'.fan.target }, damper := { b.damper with target := b'.damper.target } } ∧
      b'.gas.profile = b.gas.profile ∧
      (u ∉ units → b'.fan = b.fan ∧ b'.damper = b.damper) ∧
      (u ∈ units →
        b'.fan.target = (if q.occupancy = .unoccupied ∧ q.level = 0 then 0 else q.config.occFan) ∧
        b'.damper.target = (if q.econOn = true ∧ b.copy.econPresent = true then b.copy.econPosition
          else if q.occupancy = .occupied then b.copy.minVent else 0) ∧
        (b.copy.kind = .modulatingGas → b.zone ≠ 0 →
          b'.gas.target = if b'.isOn .h2 then 1000 else if b'.isOn .h1 then b.copy.gasLowFire else 0)) := by
  refine ⟨_, rfl, ?_⟩
  split
  · rename_i listed
    obtain ⟨frame, profile, gas⟩ := takeTargets_moved moved q
    have stages := takeTargets_stages q c
    generalize c.takeTargets q = b' at *
    rw [isOn_congr stages]
    refine ⟨?_, profile, fun unlisted => absurd listed unlisted, fun _ => ⟨?_, ?_, gas⟩⟩
    · rw [frame]
    · rw [frame, ← fanTarget_eq]
    · rw [frame]
      simp only [Zone.damperTarget, Bool.and_eq_true]
  · rename_i unlisted
    obtain ⟨frame, profile⟩ := moved
    refine ⟨?_, profile, fun _ => ?_, fun listed => absurd listed unlisted⟩
    · rw [frame]
    · rw [frame]
      exact ⟨rfl, rfl⟩

end

/-- Settles O48: the zone as its six steps leave it (`zoneEvaluation_due`), each step in the words of its rules. -/
theorem zoneEvaluationTakesItsSteps : Obligations.ZoneEvaluationTakesItsSteps := by
  intro z r s hr
  refine ⟨zoneEvaluation_early hr, ?_⟩
  rintro due _ cell _ _ force occupancy rfl hcell rfl rfl hforce hoccupancy
  cases run : s.host.run with
  | shutdown =>
    have result := zoneEvaluation_shutdown hr due run
    obtain ⟨rest, zones⟩ := readStep_only z r s
    obtain ⟨config, units, forced, evaluation, hcell', temperature, fault, applied⟩ :=
      sameReading_words (z := z) (s := s) (r := r) (q := r.read s) rfl
    have same : cell = (r.read s).cell := hcell.trans hcell'.symm
    refine ⟨_, r.read s, result, (zones z).trans (if_pos rfl), fun y other => (zones y).trans (if_neg other),
      zoneEvaluation_frame hr due result, config, units, forced, evaluation, same.symm, temperature, ?_, ?_, fun _ => ?_,
      nofun⟩
    · rw [rest]
      exact fault
    · rw [applied, same]
    · rw [rest, same]
      exact ⟨rfl, rfl, read_frame s r⟩
  | normal =>
    have result := zoneEvaluation_normal hr due run
    obtain ⟨owed, order, zones, host, idle, moved⟩ := evaluate_normal z r s
    have reading := evaluated_sameReading (r := r) (s := s) owed order
    obtain ⟨config, units, forced, evaluation, hcell', temperature, fault, applied⟩ := sameReading_words (z := z) reading
    have same := hcell.trans hcell'.symm
    have shown : occupancy = Zone.occupancy { r.evaluated s with stepOwed := owed, holdOrder := order } := by
      rw [hoccupancy, same, ← forced]
      rfl
    refine ⟨_, { r.evaluated s with stepOwed := owed, holdOrder := order }, result, (zones z).trans (if_pos rfl),
      fun y other => (zones y).trans (if_neg other), zoneEvaluation_frame hr due result, config, units, forced, evaluation,
      same.symm, temperature, host.trans fault, ?_, nofun, fun _ => ⟨fun entering => ?_, fun active => ?_,
      evaluated_changeover, evaluated_lastMode, fun ends => ?_, fun call asked active hcall hasked => ?_, fun u => ?_⟩⟩
    · rw [applied, same]
    · exact hforce ▸ evaluated_mode_words entering
    · rw [← leaves_iff active]
      exact ⟨evaluated_idle_of_leaves, evaluated_mode_stays active⟩
    · obtain ⟨level, capacity, wanted, econ, available, left⟩ := evaluated_idle_zone ends
      obtain ⟨rfl, rfl⟩ := idle ends
      exact ⟨level, capacity, wanted, econ, available, left⟩
    · exact evaluated_level hforce active hcall hasked
    · specialize moved u
      cases hb : s.unit u with
      | none =>
        simp only [hb] at moved
        exact moved
      | some b =>
        simp only [hb] at moved
        obtain ⟨c, moved, hc⟩ := moved
        obtain ⟨b', rfl, frame, profile, others, taken⟩ := evaluated_unit moved _ r.units u
        rw [shown]
        refine ⟨_, hc, frame, profile, others, fun listed => ?_⟩
        obtain ⟨fan, rest⟩ := taken listed
        exact ⟨config ▸ fan, rest⟩

end Sys2Proof.Machine
end

section
/-! PROOF. O49: stage records under the changes of step 5 (R5, R9, R11, R30). -/

namespace Sys2Proof.Machine

/-! ### A stage's record in the state -/

/-- The record of a unit's stage, absent for a unit not bound and a stage that the unit does not have. -/
def State.stageRec (s : State) (u : Nat) (st : StageName) : Option StageRec := (s.unit u).bind fun b => b.stages.get st

section
variable {u : Nat} {st : StageName} {s : State}

theorem stageRec_of_unit {b : BoundUnit} (hb : s.unit u = some b) (x : StageName) : s.stageRec u x = b.stages.get x := by
  rw [State.stageRec, hb]
  rfl

theorem stageRec_onStage (u v : Nat) (st x : StageName) (f : StageRec → StageRec) (s : State) :
    (s.onUnit u (BoundUnit.onStage st f)).stageRec v x =
      if v = u ∧ x = st then (s.stageRec u st).map f else s.stageRec v x := by
  unfold State.stageRec
  rw [unit_onUnit]
  by_cases hv : v = u
  · subst hv
    cases hb : s.unit v with
    | none => simp
    | some b =>
      simp only [BoundUnit.onStage, if_true, Option.map_some, Option.bind_some, true_and]
      cases hr : b.stages.get st with
      | none =>
        by_cases hx : x = st
        · subst hx
          simp [hr]
        · simp [hx]
      | some r => simp only [Six_get_set, Option.map_some]
  · simp [hv]

/-- R30: the records after a withdrawal. -/
theorem stageRec_withdraw (entry : s.arbiter.queue.any (Entry.isFor u st) = true) (v : Nat) (x : StageName) :
    (s.withdraw u st).stageRec v x = (s.stageRec v x).map fun q =>
      if v = u ∧ x = st ∧ q.state = .queued then { q with state := .off } else q := by
  rw [State.withdraw, if_pos entry, stageRec_onStage]
  by_cases same : v = u ∧ x = st
  · obtain ⟨rfl, rfl⟩ := same
    simp only [and_self, if_true, true_and]
    rfl
  · rw [if_neg same]
    simp only [← and_assoc, same, false_and, if_false, Option.map_id']
    rfl

/-- R8: the records after a stop of one stage. -/
theorem stageRec_takeStop (cause : StopCause) {b : BoundUnit} {r : StageRec} (hb : s.unit u = some b)
    (hr : b.stages.get st = some r) (v : Nat) (x : StageName) :
    (s.takeStop u st cause).stageRec v x =
      if v = u ∧ x = st then some (r.takeStop b.copy s.uptime cause) else s.stageRec v x := by
  by_cases hv : v = u
  · subst hv
    rw [stageRec_of_unit (takeStop_unit cause hb hr), putStage_stages, Six_get_set, stageRec_of_unit hb]
    simp only [true_and]
  · rw [State.stageRec, takeStop_other hv, if_neg fun same => hv same.1]
    rfl

/-! ### Reclaims (R11) -/

theorem reclaim_again (q : StageRec) : q.reclaim.reclaim = q.reclaim := by
  by_cases held : q.state = .hold ∧ q.pendingCause = some .satisfied
  · have reclaimed : q.reclaim = { q with state := .run, pendingCause := none } := if_pos held
    rw [reclaimed]
    exact if_neg nofun
  · have kept : q.reclaim = q := if_neg held
    rw [kept, kept]

/-- R11: the records after several reclaims. -/
theorem stageRec_reclaimAll (taken : List (Nat × StageName)) (s : State) (v : Nat) (x : StageName) :
    (s.reclaimAll taken).stageRec v x =
      (s.stageRec v x).map fun q => if (v, x) ∈ taken then q.reclaim else q := by
  induction taken generalizing s with
  | nil => simp [State.reclaimAll]
  | cons p rest ih =>
    have first : s.reclaimAll (p :: rest) = (s.onUnit p.1 (BoundUnit.onStage p.2 StageRec.reclaim)).reclaimAll rest := rfl
    rw [first, ih, stageRec_onStage]
    by_cases same : v = p.1 ∧ x = p.2
    · obtain ⟨rfl, rfl⟩ := same
      simp only [and_self, if_true, Option.map_map, List.mem_cons, true_or]
      refine Option.map_congr fun q _ => ?_
      simp only [Function.comp_apply, reclaim_again, ite_self]
    · have other : (v, x) ≠ p := fun h => same ⟨congrArg Prod.fst h, congrArg Prod.snd h⟩
      simp only [same, if_false, List.mem_cons, other, false_or]

/-! ### Grants (R5, R36 to R39) -/

/-- R5: a record that a grant attempt leaves: the same, or that of a stage gone from QUEUED to PROVING. -/
def GrantedRec (q q' : Option StageRec) : Prop :=
  q' = q ∨ ∃ p p', q = some p ∧ p.state = .queued ∧ q' = some p' ∧ p'.state = .proving

theorem grantStage_rec (now : Word) (st x : StageName) (b : BoundUnit) :
    GrantedRec (b.stages.get x) ((b.grantStage now st).stages.get x) := by
  cases hr : b.stages.get st with
  | none =>
    rw [BoundUnit.grantStage, hr]
    exact .inl rfl
  | some r =>
    by_cases queued : r.state = .queued
    · rw [grantStage_frame hr queued]
      by_cases hx : x = st
      · subst hx
        exact .inr ⟨r, _, hr, queued, Six_get_set_same .., by simp [StageRec.grant, queued]⟩
      · exact .inl ((Six_get_set ..).trans (if_neg hx))
    · simp only [BoundUnit.grantStage, hr, queued, if_false]
      exact .inl rfl

theorem stageRec_grant (e : Entry) (s : State) (v : Nat) (x : StageName) :
    GrantedRec (s.stageRec v x) ((s.grant e).stageRec v x) := by
  unfold State.stageRec
  rw [grant_unit]
  split
  · subst v
    cases s.unit e.unit with
    | none => exact .inl rfl
    | some b => exact grantStage_rec s.uptime e.stage x b
  · exact .inl rfl

theorem attempt_cases (cause : AttemptCause) (s : State) :
    ∃ a, s.attempt cause = s.recordAttempt a ∨ ∃ e, s.attempt cause = (s.grant e).recordAttempt a := by
  unfold State.attempt
  dsimp only
  split
  · exact ⟨_, .inl rfl⟩
  · split
    · exact ⟨_, .inl rfl⟩
    · exact ⟨_, .inr ⟨_, rfl⟩⟩

/-- R36 to R39: the records after a grant attempt. -/
theorem stageRec_attempt (cause : AttemptCause) (s : State) (v : Nat) (x : StageName) :
    GrantedRec (s.stageRec v x) ((s.attempt cause).stageRec v x) := by
  obtain ⟨a, kept | ⟨e, granted⟩⟩ := attempt_cases cause s
  · rw [kept]
    exact .inl rfl
  · rw [granted]
    exact stageRec_grant e s v x

/-- R31: no grant attempt counts a join. -/
theorem attempt_joinRank (cause : AttemptCause) (s : State) : (s.attempt cause).arbiter.joinRank = s.arbiter.joinRank := by
  obtain ⟨a, kept | ⟨e, granted⟩⟩ := attempt_cases cause s
  · rw [kept]
    rfl
  · rw [granted, grant_eq]
    rfl

end

/-- R86, R87: step 6 leaves every stage record. -/
theorem stageRec_channelStep {z : Nat} {q : Zone} {s : State} (hq : s.zone z = some q) (v : Nat) (x : StageName) :
    (s.channelStep z).stageRec v x = s.stageRec v x := by
  unfold State.stageRec
  rw [channelStep_unit hq]
  split
  · cases s.unit v with
    | none => rfl
    | some b => exact congrArg (Six.get · x) (takeTargets_stages q b)
  · rfl

end Sys2Proof.Machine
end

section
/-! PROOF. O49: what step 5 counts and chooses (R82 to R85). -/

namespace Sys2Proof.Machine

/-! ### Reclaims in the active count (R82, R83) -/

/-- Elements counted anew, each once in a list without repeats, add their number to a count. -/
theorem countP_add_length {α : Type} [DecidableEq α] {l taken : List α} {p p' : α → Bool} (distinct : l.Nodup)
    (once : taken.Nodup) (listed : ∀ x ∈ taken, x ∈ l) (fresh : ∀ x ∈ taken, p x = false)
    (counted : ∀ x ∈ l, p' x = (p x || decide (x ∈ taken))) : l.countP p' = l.countP p + taken.length := by
  have new : (l.filter (· ∈ taken)).length = taken.length := by
    refine ((List.perm_ext_iff_of_nodup (distinct.filter _) once).mpr fun x => ?_).length_eq
    simpa using listed x
  have both : l.countP p' = l.countP fun x => p x || decide (x ∈ taken) :=
    List.countP_congr fun x hx => by rw [counted x hx]
  rw [both, ← new, ← List.countP_eq_length_filter]
  clear both new counted listed distinct
  induction l with
  | nil => rfl
  | cons a l ih =>
    rw [List.countP_cons, List.countP_cons, List.countP_cons, ih]
    by_cases ha : a ∈ taken
    · simp [ha, fresh a ha, Nat.add_assoc]
    · simp [ha, Nat.add_right_comm]

/-- R82: the active count of a list of units, stage by stage. -/
theorem active_sum_countP (s : State) (units : List Nat) (heat : Bool) :
    (units.map fun u => ((s.unit u).map fun b => Rule.active b heat).getD 0).sum =
      (units ×ˢ allStages).countP fun p =>
        isHeat p.2 == heat && (s.stageRec p.1 p.2).any fun q => q.state.isCounted := by
  induction units with
  | nil => rfl
  | cons u rest ih =>
    rw [List.map_cons, List.sum_cons, List.product_cons, List.countP_append, List.countP_map, ih]
    refine congrArg (· + _) ?_
    cases hb : s.unit u with
    | none => simp [Function.comp_def, State.stageRec, hb]
    | some b =>
      simp only [Option.map_some, Option.getD_some, ← activeCount_eq, BoundUnit.activeCount, stageIs_any]
      refine List.countP_congr fun st _ => ?_
      simp only [Function.comp_apply, stageRec_of_unit hb]

theorem reclaimable_eq (s : State) (p : Nat × StageName) :
    s.reclaimable p =
      (s.stageRec p.1 p.2).any fun q => decide (q.state = .hold) && decide (q.pendingCause = some .satisfied) := by
  unfold State.reclaimable State.stageRec
  cases s.unit p.1 with
  | none => rfl
  | some b =>
    dsimp only [Option.bind_some]
    cases b.stages.get p.2 <;> rfl

/-- R83: each stage of a zone's mode that is reclaimed adds one to its active count. -/
theorem activeCount_reclaimAll {q : Zone} {s : State} {taken : List (Nat × StageName)} (active : q.mode ≠ .idle)
    (distinct : q.units.Nodup) (once : taken.Nodup)
    (own : ∀ p ∈ taken, p.1 ∈ q.units ∧ isHeat p.2 = decide (q.mode = .heat)) (held : ∀ p ∈ taken, s.reclaimable p = true) :
    (s.reclaimAll taken).activeCount q = s.activeCount q + taken.length := by
  have holds (p) (hp : p ∈ taken) : ∃ r, s.stageRec p.1 p.2 = some r ∧ r.state = .hold ∧ r.pendingCause = some .satisfied := by
    simpa [reclaimable_eq, Option.any_eq_true] using held p hp
  rw [activeCount_sum active, activeCount_sum active, active_sum_countP, active_sum_countP]
  refine countP_add_length (distinct.product (by decide)) once
    (fun p hp => List.mem_product.mpr ⟨(own p hp).1, mem_allStages p.2⟩) (fun p hp => ?_) fun p _ => ?_
  · obtain ⟨r, hr, hold, _⟩ := holds p hp
    simp [hr, hold, StageState.isCounted]
  · rw [stageRec_reclaimAll]
    by_cases hp : p ∈ taken
    · obtain ⟨r, hr, waits⟩ := holds p hp
      simp [hr, hp, (own p hp).2, StageRec.reclaim, waits, StageState.isCounted]
    · simp [hp]

/-! ### The newest entry (R31) -/

theorem newestOrder : ChoiceOrder fun a b : Entry => decide (b.joinRank < a.joinRank) where
  asymm a b h := by
    simp only [decide_eq_true_eq, decide_eq_false_iff_not] at *
    bv_omega
  compares a b c h := by
    simp only [decide_eq_true_eq] at *
    bv_omega

/-- R31: the newest entry of a zone. -/
theorem newestEntry_some {z : Nat} {s : State} {e : Entry} (newest : s.newestEntry z = some e) :
    e ∈ s.arbiter.queue ∧ e.zone = z ∧ ∀ f ∈ s.arbiter.queue, f.zone = z → f.joinRank.toNat ≤ e.joinRank.toNat := by
  obtain ⟨queued, zone⟩ := List.mem_filter.mp (mem_of_choose newest)
  refine ⟨queued, eq_of_beq zone, fun f hf hz => ?_⟩
  have later := not_before_choose newestOrder newest f (List.mem_filter.mpr ⟨hf, beq_iff_eq.mpr hz⟩)
  simp only [decide_eq_false_iff_not] at later
  bv_omega

theorem newestEntry_none {z : Nat} {s : State} : s.newestEntry z = none ↔ ∀ e ∈ s.arbiter.queue, e.zone ≠ z := by
  simp [State.newestEntry, choose_eq_none, List.filter_eq_nil_iff]

/-! ### The stage that a zone stops (R85) -/

/-- R85: the stage of a mode in RUN with the highest number on a unit, with its record. -/
structure TopRunning (b : BoundUnit) (heat : Bool) (st : StageName) (q : StageRec) : Prop where
  mode : isHeat st = heat
  stage : b.stages.get st = some q
  runs : q.state = .run
  top : ∀ x p, isHeat x = heat → b.stages.get x = some p → p.state = .run → stageNumber x ≤ stageNumber st

theorem stageOf_some {heat : Bool} {n : Nat} {st : StageName} :
    stageOf heat n = some st ↔ isHeat st = heat ∧ stageNumber st = n := by
  constructor
  · intro found
    simpa using List.find?_some found
  · rintro ⟨rfl, rfl⟩
    cases st <;> rfl

theorem stageNumber_inj {a b : StageName} (mode : isHeat a = isHeat b) (number : stageNumber a = stageNumber b) : a = b :=
  Option.some.inj ((stageOf_some.mpr ⟨rfl, rfl⟩).symm.trans (stageOf_some.mpr ⟨mode.symm, number.symm⟩))

theorem TopRunning.unique {b : BoundUnit} {heat : Bool} {st x : StageName} {q p : StageRec} (h : TopRunning b heat st q)
    (k : TopRunning b heat x p) : st = x ∧ q = p := by
  obtain rfl := stageNumber_inj (h.mode.trans k.mode.symm)
    (Nat.le_antisymm (k.top _ _ h.mode h.stage h.runs) (h.top _ _ k.mode k.stage k.runs))
  exact ⟨rfl, Option.some.inj (h.stage.symm.trans k.stage)⟩

theorem mem_running {b : BoundUnit} {heat : Bool} {st : StageName} :
    st ∈ allStages.filter (fun st => isHeat st == heat && b.stageIs (· = .run) st) ↔
      isHeat st = heat ∧ ∃ q, b.stages.get st = some q ∧ q.state = .run := by
  simp [List.mem_filter, mem_allStages, stageIs_any, Option.any_eq_true]

theorem topRunning_some {b : BoundUnit} {heat : Bool} {st : StageName} (found : b.topRunning heat = some st) :
    ∃ q, TopRunning b heat st q := by
  have ordered : allStages.Pairwise fun a b => isHeat a = isHeat b → stageNumber a ≤ stageNumber b := by decide
  obtain ⟨front, last⟩ := List.getLast?_eq_some_iff.mp found
  have sorted := ordered.filter fun st => isHeat st == heat && b.stageIs (· = .run) st
  rw [last] at sorted
  have listed : st ∈ front ++ [st] := List.mem_append_right front (List.mem_singleton.mpr rfl)
  obtain ⟨mode, q, stage, runs⟩ := mem_running.mp (last ▸ listed)
  refine ⟨q, mode, stage, runs, fun x p hx hp run => ?_⟩
  have member := (mem_running (b := b) (heat := heat)).mpr ⟨hx, p, hp, run⟩
  rw [last] at member
  obtain before | same := List.mem_append.mp member
  · exact (List.pairwise_append.mp sorted).2.2 x before st (by simp) (hx.trans mode.symm)
  · rw [List.mem_singleton.mp same]

theorem topRunning_none {b : BoundUnit} {heat : Bool} :
    b.topRunning heat = none ↔ ∀ st q, isHeat st = heat → b.stages.get st = some q → q.state ≠ .run := by
  rw [BoundUnit.topRunning, List.getLast?_eq_none_iff, List.eq_nil_iff_forall_not_mem]
  simp only [mem_running, not_and, not_exists]
  exact ⟨fun h st q mode stage runs => h st mode q stage runs, fun h st mode q stage runs => h st q mode stage runs⟩

theorem stopCandidate_some {u : Nat} {b : BoundUnit} {heat : Bool} {c : StopCandidate} :
    b.stopCandidate u heat = some c ↔ ∃ st q, TopRunning b heat st q ∧
      c = { active := Rule.active b heat, runtime := q.runtime, unit := u, stage := st } := by
  unfold BoundUnit.stopCandidate
  rw [← activeCount_eq]
  cases found : b.topRunning heat with
  | none =>
    refine ⟨nofun, ?_⟩
    rintro ⟨st, q, running, _⟩
    exact absurd running.runs (topRunning_none.mp found st q running.mode running.stage)
  | some x =>
    obtain ⟨p, running⟩ := topRunning_some found
    simp only [running.stage, Option.map_some, Option.some.injEq]
    constructor
    · rintro rfl
      exact ⟨x, p, running, rfl⟩
    · rintro ⟨st, q, other, rfl⟩
      obtain ⟨rfl, rfl⟩ := running.unique other
      rfl

theorem stopBefore_iff {a b : StopCandidate} :
    a.before b = true ↔ b.active < a.active ∨ (a.active = b.active ∧
      (b.runtime < a.runtime ∨ (a.runtime = b.runtime ∧ b.unit < a.unit))) := by
  simp [StopCandidate.before]

theorem stopOrder : ChoiceOrder StopCandidate.before where
  asymm a b h := by
    rw [Bool.eq_false_iff, ne_eq, stopBefore_iff]
    rw [stopBefore_iff] at h
    omega
  compares a b c h := by
    rw [stopBefore_iff] at h ⊢
    rw [stopBefore_iff]
    omega

theorem mem_stopCandidates {q : Zone} {s : State} {heat : Bool} {c : StopCandidate} :
    c ∈ (s.zoneUnits q).filterMap (fun p => p.2.stopCandidate p.1 heat) ↔
      ∃ u ∈ q.units, ∃ b st p, s.unit u = some b ∧ TopRunning b heat st p ∧
        c = { active := Rule.active b heat, runtime := p.runtime, unit := u, stage := st } := by
  simp only [List.mem_filterMap, Prod.exists, mem_zoneUnits, stopCandidate_some, and_assoc, exists_and_left]

/-- R85: the stage that a zone stops, and how it stands to the others that it could stop. -/
theorem stopChoice_some {q : Zone} {s : State} {c : StopCandidate} (chosen : s.stopChoice q = some c) :
    ∃ u ∈ q.units, ∃ b st p, s.unit u = some b ∧ TopRunning b (decide (q.mode = .heat)) st p ∧ c.unit = u ∧ c.stage = st ∧
      ∀ v ∈ q.units, ∀ d, s.unit v = some d → ∀ x o, TopRunning d (decide (q.mode = .heat)) x o →
        Rule.active d (decide (q.mode = .heat)) < Rule.active b (decide (q.mode = .heat)) ∨
          (Rule.active d (decide (q.mode = .heat)) = Rule.active b (decide (q.mode = .heat)) ∧
            (o.runtime < p.runtime ∨ (o.runtime = p.runtime ∧ v ≤ u))) := by
  obtain ⟨u, listed, b, st, p, hb, top, rfl⟩ := mem_stopCandidates.mp (mem_of_choose chosen)
  refine ⟨u, listed, b, st, p, hb, top, rfl, rfl, fun v hv d hd x o other => ?_⟩
  have later := not_before_choose stopOrder chosen _ (mem_stopCandidates.mpr ⟨v, hv, d, x, o, hd, other, rfl⟩)
  rw [Bool.eq_false_iff, ne_eq, stopBefore_iff] at later
  dsimp only at later
  omega

theorem stopChoice_none {q : Zone} {s : State} :
    s.stopChoice q = none ↔ ∀ u ∈ q.units, ∀ b st p, s.unit u = some b → isHeat st = decide (q.mode = .heat) →
      b.stages.get st = some p → p.state ≠ .run := by
  simp only [State.stopChoice, choose_eq_none, List.filterMap_eq_nil_iff, Prod.forall, mem_zoneUnits, and_imp]
  have unit (u : Nat) (b : BoundUnit) : b.stopCandidate u (decide (q.mode = .heat)) = none ↔
      b.topRunning (decide (q.mode = .heat)) = none := by
    refine ⟨fun none => Option.eq_none_iff_forall_ne_some.mpr fun st found => ?_, fun none => ?_⟩
    · obtain ⟨p, top⟩ := topRunning_some found
      exact absurd (none.symm.trans (stopCandidate_some.mpr ⟨st, p, top, rfl⟩)) nofun
    · rw [BoundUnit.stopCandidate, none]
  simp only [unit, topRunning_none]
  exact ⟨fun h u hu b st p hb => h u b hu hb st p, fun h u b hu hb st p => h u hu b st p hb⟩

/-! ### The stage that a zone requests (R84) -/

theorem requestCandidate_some {u : Nat} {b : BoundUnit} {heat : Bool} {c : RequestCandidate} :
    b.requestCandidate u heat = some c ↔ ∃ st q, Rule.Eligible b heat st q ∧
      c = { engaged := Rule.engaged b heat, runtime := q.runtime, unit := u, stage := st } := by
  unfold BoundUnit.requestCandidate
  rw [engagedCount_eq, engagedCount_eq, softLimited_eq]
  by_cases free : b.live.link = .online ∧ (if heat then b.limit.heatLimited else b.limit.coolLimited) = false ∧
      Rule.engaged b (!heat) = 0
  · rw [if_pos free]
    obtain ⟨online, soft, alone⟩ := free
    cases next : stageOf heat (Rule.engaged b heat + 1) with
    | none =>
      refine ⟨nofun, ?_⟩
      rintro ⟨st, q, ⟨_, _, _, mode, number, _⟩, _⟩
      exact absurd (next.symm.trans (stageOf_some.mpr ⟨mode, number⟩)) nofun
    | some x =>
      have only {st : StageName} {q : StageRec} (eligible : Rule.Eligible b heat st q) : x = st := by
        obtain ⟨_, _, _, mode, number, _⟩ := eligible
        exact Option.some.inj (next.symm.trans (stageOf_some.mpr ⟨mode, number⟩))
      obtain ⟨mode, number⟩ := stageOf_some.mp next
      have takes (q : StageRec) : Rule.Eligible b heat x q ↔ b.stages.get x = some q ∧ q.state = .off :=
        ⟨fun ⟨_, _, _, _, _, rest⟩ => rest, fun rest => ⟨online, soft, alone, mode, number, rest⟩⟩
      have first : (∃ st q, Rule.Eligible b heat st q ∧
          c = { engaged := Rule.engaged b heat, runtime := q.runtime, unit := u, stage := st }) ↔
          ∃ q, (b.stages.get x = some q ∧ q.state = .off) ∧
            c = { engaged := Rule.engaged b heat, runtime := q.runtime, unit := u, stage := x } := by
        simp only [← takes]
        refine ⟨?_, fun ⟨q, h⟩ => ⟨x, q, h⟩⟩
        rintro ⟨st, q, eligible, rfl⟩
        obtain rfl := only eligible
        exact ⟨q, eligible, rfl⟩
      rw [first]
      dsimp only
      cases b.stages.get x with
      | none => simp
      | some q =>
        by_cases off : q.state = .off
        · simp [off, eq_comm (a := c)]
        · simp [off]
  · rw [if_neg free]
    refine ⟨nofun, ?_⟩
    rintro ⟨st, q, ⟨online, soft, alone, _⟩, _⟩
    exact absurd ⟨online, soft, alone⟩ free

theorem requestBefore_iff {a b : RequestCandidate} :
    a.before b = true ↔ a.engaged < b.engaged ∨ (a.engaged = b.engaged ∧
      (a.runtime < b.runtime ∨ (a.runtime = b.runtime ∧ a.unit < b.unit))) := by
  simp [RequestCandidate.before]

theorem requestOrder : ChoiceOrder RequestCandidate.before where
  asymm a b h := by
    rw [Bool.eq_false_iff, ne_eq, requestBefore_iff]
    rw [requestBefore_iff] at h
    omega
  compares a b c h := by
    rw [requestBefore_iff] at h ⊢
    rw [requestBefore_iff]
    omega

theorem mem_requestCandidates {q : Zone} {s : State} {heat : Bool} {c : RequestCandidate} :
    c ∈ (s.zoneUnits q).filterMap (fun p => p.2.requestCandidate p.1 heat) ↔
      ∃ u ∈ q.units, ∃ b st p, s.unit u = some b ∧ Rule.Eligible b heat st p ∧
        c = { engaged := Rule.engaged b heat, runtime := p.runtime, unit := u, stage := st } := by
  simp only [List.mem_filterMap, Prod.exists, mem_zoneUnits, requestCandidate_some, and_assoc, exists_and_left]

/-- R84: the stage that a zone requests, and how it stands to the others that it could request. -/
theorem requestChoice_some {q : Zone} {s : State} {c : RequestCandidate} (chosen : s.requestChoice q = some c) :
    ∃ u ∈ q.units, ∃ b st p, s.unit u = some b ∧ Rule.Eligible b (decide (q.mode = .heat)) st p ∧ c.unit = u ∧
      c.stage = st ∧ ∀ v ∈ q.units, ∀ d x o, s.unit v = some d → Rule.Eligible d (decide (q.mode = .heat)) x o →
        Rule.engaged b (decide (q.mode = .heat)) < Rule.engaged d (decide (q.mode = .heat)) ∨
          (Rule.engaged b (decide (q.mode = .heat)) = Rule.engaged d (decide (q.mode = .heat)) ∧
            (p.runtime < o.runtime ∨ (p.runtime = o.runtime ∧ u ≤ v))) := by
  obtain ⟨u, listed, b, st, p, hb, eligible, rfl⟩ := mem_requestCandidates.mp (mem_of_choose chosen)
  refine ⟨u, listed, b, st, p, hb, eligible, rfl, rfl, fun v hv d x o hd other => ?_⟩
  have later := not_before_choose requestOrder chosen _ (mem_requestCandidates.mpr ⟨v, hv, d, x, o, hd, other, rfl⟩)
  rw [Bool.eq_false_iff, ne_eq, requestBefore_iff] at later
  dsimp only at later
  omega

theorem requestChoice_none {q : Zone} {s : State} :
    s.requestChoice q = none ↔ ∀ u ∈ q.units, ∀ b st p, s.unit u = some b →
      ¬Rule.Eligible b (decide (q.mode = .heat)) st p := by
  rw [State.requestChoice, choose_eq_none, List.eq_nil_iff_forall_not_mem]
  simp only [mem_requestCandidates, not_exists, not_and]
  exact ⟨fun h u hu b st p hb eligible => h _ u hu b st p hb eligible rfl,
    fun h c u hu b st p hb eligible _ => h u hu b st p hb eligible⟩

/-! ### Where an entry joins (R28) -/

/-- R28: an entry joins directly before the first entry of lower priority. -/
theorem placeEntry_split (e : Entry) (l : List Entry) :
    ∃ front back, placeEntry e l = front ++ e :: back ∧ l = front ++ back ∧ (∀ f ∈ front, e.priority ≤ f.priority) ∧
      ∀ f, back.head? = some f → f.priority < e.priority := by
  induction l with
  | nil => exact ⟨[], [], rfl, rfl, nofun, nofun⟩
  | cons a l ih =>
    rw [placeEntry]
    split
    · rename_i lower
      refine ⟨[], a :: l, rfl, rfl, nofun, ?_⟩
      rintro f ⟨⟩
      exact lower
    · rename_i higher
      obtain ⟨front, back, placed, rfl, above, below⟩ := ih
      exact ⟨a :: front, back, by rw [placed]; rfl, rfl,
        List.forall_mem_cons.mpr ⟨Nat.le_of_not_lt higher, above⟩, below⟩

end Sys2Proof.Machine
end

section
/-! PROOF. O49: step 5 case by case: nothing, a withdrawal, a stop, reclaims, and a request (R82 to R85). -/

namespace Sys2Proof.Machine

/-! ### What step 5 finds (R76, R80) -/

theorem raises_eq (now : Word) (cap : Nat) (q : Zone) : q.raises now cap = decide (q.level < q.nextLevel now cap) := by
  unfold Zone.nextLevel
  cases raised : q.raises now cap with
  | true =>
    have free : q.levelForced = false := (raises_iff.mp raised).1
    simp [free]
  | false =>
    have stays : (if q.levelForced then 0
        else min cap (if q.lowers now cap then q.level - 1 else q.level)) ≤ q.level := by
      split
      · exact Nat.zero_le _
      · split <;> omega
    simpa using stays

/-- R76, R80, R83, R84: what steps 1 to 4 leave of a zone that step 5 then matches. -/
theorem evaluated_still {r : Zone} {s : State} (active : (r.evaluated s).mode ≠ .idle) :
    (r.evaluated s).units = r.units ∧ (r.evaluated s).config = r.config ∧ (r.evaluated s).holdOrder = r.holdOrder ∧
      (r.evaluated s).stepOwed = (r.stepOwed || decide (r.level < (r.evaluated s).level)) := by
  have moded : ((r.read s).moded s).mode ≠ .idle := (evaluated_modes s r).1 ▸ active
  have zone := evaluated_active moded
  have q := moded_active moded
  generalize ((r.read s).moded s).mode = mode, ((r.read s).moded s).lastMode = last at q
  obtain ⟨cell, temperature, derivedAt, fault, cool, heat, evaluation, read⟩ := read_cases s r
  rw [q, read, Zone.levelled, levelStep_zone, raises_eq] at zone
  rw [zone]
  exact ⟨rfl, rfl, rfl, rfl⟩

/-- R71: a part and its zone as step 5 of an evaluation finds them in COOL or HEAT. -/
structure MatchesOn (z : Nat) (r : Zone) (s m : State) (q : Zone) : Prop where
  frame : ∃ zones host, m = { s with zones := zones, host := host }
  zone : m.zone z = some q
  zones : ∀ y, y ≠ z → m.zone y = s.zone y
  active : q.mode ≠ .idle
  units : q.units = r.units
  config : q.config = r.config
  holdOrder : q.holdOrder = r.holdOrder
  stepOwed : q.stepOwed = (r.stepOwed || decide (r.level < q.level))

theorem zoneEvaluation_matches {z : Nat} {r r' : Zone} {s t : State} (hr : s.zone z = some r)
    (due : r.evaluation = .running 0) (run : s.host.run = .normal) (ht : exec (.zoneEvaluation z) s = .next t)
    (hr' : t.zone z = some r') (active : r'.mode ≠ .idle) :
    ∃ m q, MatchesOn z r s m q ∧ t = (m.matchStep z).channelStep z ∧
      ∃ owed order, r' = { q with stepOwed := owed, holdOrder := order } := by
  rw [zoneEvaluation_normal hr due run, Host.Outcome.next.injEq] at ht
  obtain ⟨owed, order, zones, _⟩ := evaluate_normal z r s
  rw [← ht, zones, if_pos rfl, Option.some.injEq] at hr'
  subst hr'
  have stays : ¬(r.read s).Leaves s := fun leaves => active (evaluated_idle_of_leaves leaves)
  have only := levelledStep_only (z := z) stays
  obtain ⟨units, config, holdOrder, stepOwed⟩ := evaluated_still active
  exact ⟨_, _, ⟨⟨_, _, only.1⟩, only.zone, fun y other => (only.2 y).trans (if_neg other), active, units, config, holdOrder,
    stepOwed⟩, ht.symm, owed, order, rfl⟩

section
variable {z : Nat} {q r' : Zone} {m n t : State}

/-- R86, R87: step 6 leaves of step 5 all but the units' targets. -/
theorem channelStep_result (ht : t = n.channelStep z) (hr' : t.zone z = some r') :
    n.zone z = some r' ∧ t = { n with units := t.units } ∧ ∀ v x, t.stageRec v x = n.stageRec v x := by
  subst ht
  rw [channelStep_zone] at hr'
  exact ⟨hr', channelStep_frame z n, stageRec_channelStep hr'⟩

theorem matchStep_equal (hq : m.zone z = some q) (equal : m.activeCount q = q.wanted) : m.matchStep z = m := by
  simp [State.matchStep, hq, equal]

theorem matchStep_above (hq : m.zone z = some q) (active : q.mode ≠ .idle) (above : q.wanted < m.activeCount q) :
    m.matchStep z = m.giveUpStep z := by
  simp [State.matchStep, hq, active, above, Nat.not_lt.mpr (Nat.le_of_lt above)]

theorem matchStep_below (hq : m.zone z = some q) (active : q.mode ≠ .idle) (below : m.activeCount q < q.wanted) :
    m.matchStep z = if (m.reclaimStep z (q.wanted - m.activeCount q)).activeCount q < q.wanted then
      (m.reclaimStep z (q.wanted - m.activeCount q)).requestStep z
      else m.reclaimStep z (q.wanted - m.activeCount q) := by
  simp [State.matchStep, hq, active, below]

/-! ### A stage given up (R9, R31, R85) -/

theorem giveUpStep_entry (hq : m.zone z = some q) {e : Entry} (newest : m.newestEntry z = some e) :
    m.giveUpStep z = m.withdraw e.unit e.stage := by
  simp only [State.giveUpStep, hq, newest]

theorem giveUpStep_none (hq : m.zone z = some q) (empty : m.newestEntry z = none) (none : m.stopChoice q = none) :
    m.giveUpStep z = m := by
  simp only [State.giveUpStep, hq, empty, none]

theorem giveUpStep_stop (hq : m.zone z = some q) (empty : m.newestEntry z = none) {c : StopCandidate}
    (chosen : m.stopChoice q = some c) :
    m.giveUpStep z = if (m.takeStop c.unit c.stage .satisfied).reclaimable (c.unit, c.stage) then
      (m.takeStop c.unit c.stage .satisfied).putZone z { q with holdOrder := joinHoldOrder c.unit c.stage q.holdOrder }
      else m.takeStop c.unit c.stage .satisfied := by
  simp only [State.giveUpStep, hq, empty, chosen]

/-- R9: a SATISFIED stop of a stage in RUN, by its min-on timer. -/
theorem takeStop_satisfied {p : StageRec} (runs : p.state = .run) (d : Descriptor) (now : Word) :
    if p.minOn = .stopped then
      StoppedToRest d now .satisfied p (p.takeStop d now .satisfied) ∧ MarksKept p (p.takeStop d now .satisfied) ∧
        (p.takeStop d now .satisfied).proving = p.proving
    else p.takeStop d now .satisfied = { p with state := .hold, pendingCause := some .satisfied } := by
  have deferred : p.takeStop d now .satisfied = if p.minOn.isRunning then
      { p with state := .hold, pendingCause := some .satisfied } else (p.recordStop now .satisfied).toRest d := by
    change p.deferredStop d now .satisfied = _
    rw [StageRec.deferredStop, runs]
  rw [deferred]
  by_cases expired : p.minOn = .stopped
  · rw [if_pos expired, if_neg (mt isRunning_iff.mp (not_not.mpr expired))]
    exact ⟨⟨rfl, rfl, recordStop_recorded now .satisfied p⟩, ⟨rfl, rfl, rfl, rfl⟩, rfl⟩
  · rw [if_neg expired, if_pos (isRunning_iff.mpr expired)]

/-- R9, R83, R85: a stage given up in RUN: its record, and its place in the hold order. -/
theorem giveUpStep_stopped (hq : m.zone z = some q) (empty : m.newestEntry z = none) {c : StopCandidate}
    (chosen : m.stopChoice q = some c) {b : BoundUnit} {p : StageRec} (hb : m.unit c.unit = some b)
    (hp : b.stages.get c.stage = some p) (runs : p.state = .run) (hr' : (m.giveUpStep z).zone z = some r') :
    (m.giveUpStep z).arbiter = m.arbiter ∧ ∃ p',
      (if p.minOn = .stopped then
        StoppedToRest b.copy m.uptime .satisfied p p' ∧ MarksKept p p' ∧ p'.proving = p.proving ∧
          r'.holdOrder = q.holdOrder
      else p' = { p with state := .hold, pendingCause := some .satisfied } ∧
        r'.holdOrder = joinHoldOrder c.unit c.stage q.holdOrder) ∧
      ∀ v x, (m.giveUpStep z).stageRec v x = if v = c.unit ∧ x = c.stage then some p' else m.stageRec v x := by
  have stopped := takeStop_satisfied runs b.copy m.uptime
  have records := stageRec_takeStop .satisfied hb hp
  have frame := takeStop_frame c.unit c.stage .satisfied m
  have step := giveUpStep_stop hq empty chosen
  have written := (reclaimable_eq (m.takeStop c.unit c.stage .satisfied) (c.unit, c.stage)).trans
    (congrArg _ ((records c.unit c.stage).trans (if_pos ⟨rfl, rfl⟩)))
  generalize m.takeStop c.unit c.stage .satisfied = k at *
  generalize p.takeStop b.copy m.uptime .satisfied = p' at *
  have zone : k.zone z = some q := by
    rw [frame]
    exact hq
  have arbiter : k.arbiter = m.arbiter := by
    rw [frame]
  by_cases expired : p.minOn = .stopped
  · rw [if_pos expired] at stopped
    obtain ⟨rest, marks, proving⟩ := stopped
    have out : k.reclaimable (c.unit, c.stage) = false := by
      rw [written]
      simp [rest.1]
    rw [step, out, if_neg nofun] at hr' ⊢
    obtain rfl : q = r' := Option.some.inj (zone.symm.trans hr')
    exact ⟨arbiter, p', (if_pos expired).mpr ⟨rest, marks, proving, rfl⟩, records⟩
  · rw [if_neg expired] at stopped
    have held : k.reclaimable (c.unit, c.stage) = true := by
      rw [written, stopped]
      simp
    rw [step, held, if_pos rfl] at hr' ⊢
    rw [zone_putZone, if_pos rfl] at hr'
    obtain rfl := Option.some.inj hr'
    exact ⟨arbiter, p', (if_neg expired).mpr ⟨stopped, rfl⟩, records⟩

end

end Sys2Proof.Machine
end

section
/-! PROOF. O49: reclaims and the request that follows them (R11, R83, R84), and the statement. -/

namespace Sys2Proof.Machine

/-! ### Changes that leave of a unit all but its stage records -/

/-- Two states whose bound units differ in their stage records alone. -/
def StagesOnly (s t : State) : Prop := ∀ v, ∃ stages, t.unit v = (s.unit v).map fun c => { c with stages := stages }

theorem StagesOnly.refl (s : State) : StagesOnly s s := fun v => by
  cases s.unit v with
  | none => exact ⟨Six.ofFn fun _ => none, rfl⟩
  | some c => exact ⟨c.stages, rfl⟩

theorem StagesOnly.trans {s m t : State} (h : StagesOnly s m) (k : StagesOnly m t) : StagesOnly s t := fun v => by
  obtain ⟨_, first⟩ := h v
  obtain ⟨stages, second⟩ := k v
  exact ⟨stages, by rw [second, first, Option.map_map]; rfl⟩

/-- A unit whose stage records alone differ is the one before with the records that the state now has. -/
theorem StagesOnly.unit {s t : State} (h : StagesOnly s t) (v : Nat) :
    t.unit v = (s.unit v).map fun c => { c with stages := Six.ofFn (t.stageRec v) } := by
  obtain ⟨stages, same⟩ := h v
  have records : stages = Six.ofFn (t.stageRec v) ∨ s.unit v = none := by
    cases hc : s.unit v with
    | none => exact .inr rfl
    | some c =>
      rw [hc] at same
      exact .inl (Six_ext_get fun st => by rw [Six_get_ofFn, stageRec_of_unit same])
  obtain rfl | unbound := records
  · exact same
  · rw [same, unbound]
    rfl

theorem stagesOnly_onStage (u : Nat) (st : StageName) (f : StageRec → StageRec) (s : State) :
    StagesOnly s (s.onUnit u (BoundUnit.onStage st f)) := fun v => by
  rw [unit_onUnit]
  split
  · subst v
    cases s.unit u with
    | none => exact ⟨Six.ofFn fun _ => none, rfl⟩
    | some c =>
      refine ⟨(c.onStage st f).stages, congrArg some ?_⟩
      unfold BoundUnit.onStage
      split <;> rfl
  · exact StagesOnly.refl s v

theorem stagesOnly_reclaimAll (taken : List (Nat × StageName)) (s : State) : StagesOnly s (s.reclaimAll taken) := by
  induction taken generalizing s with
  | nil => exact .refl s
  | cons p rest ih => exact (stagesOnly_onStage p.1 p.2 StageRec.reclaim s).trans (ih _)

section
variable {u : Nat} {st : StageName} {b : BoundUnit} {p : StageRec} {s : State}

theorem joined_unit (u v : Nat) (st : StageName) (b : BoundUnit) (p : StageRec) (s : State) :
    (s.joined u st b p).unit v = if v = u then some (b.withStage st { p with state := .queued }) else s.unit v :=
  unit_putUnit ..

theorem stagesOnly_joined (hb : s.unit u = some b) : StagesOnly s (s.joined u st b p) := fun v => by
  rw [joined_unit]
  split
  · subst v
    exact ⟨_, by rw [hb]; rfl⟩
  · exact StagesOnly.refl s v

theorem stageRec_joined (hb : s.unit u = some b) (v : Nat) (x : StageName) :
    (s.joined u st b p).stageRec v x = if v = u ∧ x = st then some { p with state := .queued } else s.stageRec v x := by
  rw [State.stageRec, joined_unit]
  by_cases hv : v = u
  · subst hv
    simp only [if_true, Option.bind_some, BoundUnit.withStage, Six_get_set, true_and, stageRec_of_unit hb]
  · simp only [hv, if_false, false_and]
    rfl

end

/-! ### Reclaims and the choice of a request (R11, R84) -/

theorem reclaim_engaged (p : StageRec) : p.reclaim.state.isEngaged = p.state.isEngaged := by
  unfold StageRec.reclaim
  split
  · rename_i held
    rw [held.1]
    rfl
  · rfl

theorem reclaim_off {p o : StageRec} (off : o.state = .off) : p.reclaim = o ↔ p = o := by
  unfold StageRec.reclaim
  split
  · rename_i held
    constructor
    · rintro rfl
      cases off
    · rintro rfl
      rw [off] at held
      cases held.1
  · exact Iff.rfl

/-- R11, R84: reclaims leave a unit its engaged counts and its place in the choice of a request. -/
theorem eligible_reclaimAll {taken : List (Nat × StageName)} {s : State} {v : Nat} {c d : BoundUnit}
    (hc : s.unit v = some c) (hd : (s.reclaimAll taken).unit v = some d) :
    (∀ heat, Rule.engaged d heat = Rule.engaged c heat) ∧
      ∀ heat st p, Rule.Eligible d heat st p ↔ Rule.Eligible c heat st p := by
  have record (x : StageName) : d.stages.get x = (c.stages.get x).map fun p => if (v, x) ∈ taken then p.reclaim else p := by
    rw [← stageRec_of_unit hc, ← stageRec_of_unit hd]
    exact stageRec_reclaimAll taken s v x
  have engaged (heat : Bool) : Rule.engaged d heat = Rule.engaged c heat := by
    rw [← engagedCount_eq, ← engagedCount_eq]
    refine List.countP_congr fun x _ => ?_
    rw [stageIs_any, stageIs_any, record]
    cases c.stages.get x with
    | none => rfl
    | some p => by_cases taking : (v, x) ∈ taken <;> simp [taking, reclaim_engaged]
  refine ⟨engaged, fun heat st p => ?_⟩
  have off : d.stages.get st = some p ∧ p.state = .off ↔ c.stages.get st = some p ∧ p.state = .off := by
    refine and_congr_left fun off => ?_
    rw [record]
    cases c.stages.get st with
    | none => rfl
    | some o => by_cases taking : (v, st) ∈ taken <;> simp [taking, reclaim_off off]
  obtain ⟨stages, same⟩ := stagesOnly_reclaimAll taken s v
  rw [hd, hc, Option.map_some, Option.some.injEq] at same
  unfold Rule.Eligible
  rw [engaged, engaged, off, same]

/-- R11: the records after reclaims of stages that all wait for a SATISFIED stop. -/
theorem stageRec_reclaimed {taken : List (Nat × StageName)} {s : State} (held : ∀ p ∈ taken, s.reclaimable p = true)
    (v : Nat) (x : StageName) :
    (s.reclaimAll taken).stageRec v x = (s.stageRec v x).map fun p =>
      if (v, x) ∈ taken then { p with state := .run, pendingCause := none } else p := by
  rw [stageRec_reclaimAll]
  refine Option.map_congr fun p hp => ?_
  split
  · rename_i taking
    have waits := held _ taking
    rw [reclaimable_eq, Option.mem_def.mp hp] at waits
    exact if_pos (by simpa using waits)
  · rfl

/-! ### The reclaims of step 5 (R83) -/

/-- R83: a part and its zone `p` once the stages still wanted have been reclaimed. -/
structure Reclaimed (z : Nat) (q p : Zone) (taken : List (Nat × StageName)) (m k : State) : Prop where
  frame : ∃ zones units host, k = { m with zones := zones, units := units, host := host }
  zone : k.zone z = some p
  zones : ∀ y, y ≠ z → k.zone y = m.zone y
  units : StagesOnly m k
  records : ∀ v x, k.stageRec v x = (m.stageRec v x).map fun q =>
    if (v, x) ∈ taken then { q with state := .run, pendingCause := none } else q
  engaged : ∀ v c d, m.unit v = some c → k.unit v = some d → ∀ heat, Rule.engaged d heat = Rule.engaged c heat
  eligible : ∀ v c d, m.unit v = some c → k.unit v = some d →
    ∀ heat st o, Rule.Eligible d heat st o ↔ Rule.Eligible c heat st o

section
variable {z short : Nat} {q : Zone} {m : State} {held : List (Nat × StageName)}

theorem reclaimStep_reclaimed (hq : m.zone z = some q) (hheld : held = q.holdOrder.filter m.reclaimable) :
    Reclaimed z q { q with
        stepOwed := q.stepOwed && (held.drop (held.length - short)).isEmpty
        holdOrder := held.take (held.length - short) } (held.drop (held.length - short)) m (m.reclaimStep z short) := by
  have waits : ∀ p ∈ (held.drop (held.length - short)).reverse, m.reclaimable p = true := fun p hp =>
    (List.mem_filter.mp (hheld ▸ List.mem_of_mem_drop (List.mem_reverse.mp hp))).2
  rw [reclaimStep_eq hq hheld, List.isEmpty_reverse]
  generalize { q with
    stepOwed := q.stepOwed && (held.drop (held.length - short)).isEmpty
    holdOrder := held.take (held.length - short) } = p
  generalize held.drop (held.length - short) = taken at *
  have frame := reclaimAll_frame taken.reverse (m.putZone z p)
  have zone (y : Nat) : ((m.putZone z p).reclaimAll taken.reverse).zone y = if y = z then some p else m.zone y := by
    rw [frame]
    exact zone_putZone z y p m
  refine ⟨⟨_, _, _, frame⟩, (zone z).trans (if_pos rfl), fun y other => (zone y).trans (if_neg other),
    stagesOnly_reclaimAll taken.reverse (m.putZone z p), fun v x => ?_,
    fun v c d hc hd => (eligible_reclaimAll (s := m.putZone z p) hc hd).1,
    fun v c d hc hd => (eligible_reclaimAll (s := m.putZone z p) hc hd).2⟩
  have records := stageRec_reclaimed (s := m.putZone z p) waits v x
  simp only [List.mem_reverse] at records
  exact records

/-- R82, R83: the active count once stages have been reclaimed. -/
theorem activeCount_reclaimStep (hq : m.zone z = some q) (active : q.mode ≠ .idle)
    (hheld : held = q.holdOrder.filter m.reclaimable) (distinct : q.units.Nodup) (once : held.Nodup)
    (own : ∀ p ∈ held, p.1 ∈ q.units ∧ isHeat p.2 = decide (q.mode = .heat)) :
    (m.reclaimStep z short).activeCount q = m.activeCount q + min short held.length := by
  have waits : ∀ p ∈ held, m.reclaimable p = true := fun p hp => (List.mem_filter.mp (hheld ▸ hp)).2
  have listed {p} (hp : p ∈ (held.drop (held.length - short)).reverse) : p ∈ held :=
    List.mem_of_mem_drop (List.mem_reverse.mp hp)
  rw [reclaimStep_eq hq hheld]
  refine (activeCount_reclaimAll (s := m.putZone z _) active distinct
    (List.nodup_reverse.mpr (once.sublist (List.drop_sublist ..))) (fun p hp => own p (listed hp))
    fun p hp => waits p (listed hp)).trans (congrArg₂ (· + ·) rfl ?_)
  rw [List.length_reverse, List.length_drop]
  omega

end

/-- Step 5 reclaims on the part as the evaluation began, for steps 1 to 4 leave its units and its queue. -/
theorem Reclaimed.found {z : Nat} {r q p : Zone} {taken : List (Nat × StageName)} {s m k : State}
    (reclaimed : Reclaimed z q p taken m k) (found : MatchesOn z r s m q) : Reclaimed z q p taken s k := by
  obtain ⟨zones, host, rfl⟩ := found.frame
  obtain ⟨kzones, units, khost, frame⟩ := reclaimed.frame
  exact ⟨⟨kzones, units, khost, frame⟩, reclaimed.zone, fun y other => (reclaimed.zones y other).trans (found.zones y other),
    reclaimed.units, reclaimed.records, reclaimed.engaged, reclaimed.eligible⟩

/-! ### The request of step 5 (R84) -/

section
variable {z : Nat} {p : Zone} {k : State}

theorem requestStep_declined (hp : k.zone z = some p)
    (declined : (p.stepOwed || delayPassed k.uptime p.config.upDelay p.lastIncrease) = false ∨ 32 ≤ k.arbiter.queue.length ∨
      k.requestChoice p = none) : k.requestStep z = k := by
  simp only [State.requestStep, hp]
  split
  · rename_i opened
    split
    · rfl
    · rename_i c chosen
      refine if_neg fun joins => ?_
      obtain closed | full | none := declined
      · rw [closed] at opened
        cases opened
      · unfold State.canJoin at joins
        split at joins
        · cases joins
        · simp only [Bool.and_eq_true, decide_eq_true_eq] at joins
          exact absurd joins.2 (Nat.not_lt.mpr full)
      · rw [none] at chosen
        cases chosen
  · rfl

theorem requestStep_joins (hp : k.zone z = some p)
    (opened : (p.stepOwed || delayPassed k.uptime p.config.upDelay p.lastIncrease) = true)
    (room : k.arbiter.queue.length < 32) {c : RequestCandidate} (chosen : k.requestChoice p = some c) {b : BoundUnit}
    {o : StageRec} (hb : k.unit c.unit = some b) (ho : b.stages.get c.stage = some o) (off : o.state = .off) :
    k.requestStep z = ((k.joined c.unit c.stage b o).attempt .join).putZone z { p with stepOwed := false } := by
  have joins : k.canJoin c.unit c.stage = true := by
    simp only [State.canJoin, hb, stageIs_any, ho, Option.any_some, off, decide_true, Bool.true_and]
    exact decide_eq_true room
  simp only [State.requestStep, hp, opened, chosen, joins, if_true]
  rw [request_eq hb ho, if_pos ⟨off, room⟩]

end

section
variable {z u : Nat} {r q p : Zone} {taken : List (Nat × StageName)} {s k t : State} {st : StageName} {b d : BoundUnit}
  {o : StageRec}

theorem zonePriority_of_zone {s : State} {z : Nat} {y : Zone} (hy : s.zone z = some y) :
    s.zonePriority z = y.config.priority := by
  simp only [State.zonePriority, State.zoneConfig, hy, Option.map_some, Option.getD_some]

/-- R28: the state after the join that follows the reclaims, in the words of the rule. -/
theorem joined_words (reclaimed : Reclaimed z q p taken s k) (hr : s.zone z = some r) (config : p.config = r.config)
    (hb : s.unit u = some b) (hd : k.unit u = some d) :
    ∃ (e : Entry) (front back : List Entry),
      e = { unit := u, stage := st, zone := b.zone, priority := e.priority, load := b.copy.loads.get st
            compressor := !isHeat st, joinUptime := s.uptime, joinRank := s.arbiter.joinRank } ∧
      (∀ y, s.zone b.zone = some y → e.priority = y.config.priority) ∧
      s.arbiter.queue = front ++ back ∧ (∀ f ∈ front, e.priority ≤ f.priority) ∧
      (∀ f, back.head? = some f → f.priority < e.priority) ∧
      k.joined u st d o = { s with
        host := k.host, units := (k.joined u st d o).units, zones := (k.joined u st d o).zones
        arbiter := { s.arbiter with queue := front ++ e :: back, joinRank := s.arbiter.joinRank + 1#32 } } := by
  obtain ⟨front, back, placed, parts, above, below⟩ := placeEntry_split (k.entryOf u st d) k.arbiter.queue
  obtain ⟨stages, same⟩ := reclaimed.units u
  rw [hb, hd, Option.map_some, Option.some.injEq] at same
  have zone (y : Zone) (hy : s.zone b.zone = some y) : k.zonePriority b.zone = y.config.priority := by
    by_cases own : b.zone = z
    · obtain rfl : r = y := Option.some.inj (hr.symm.trans (own ▸ hy))
      rw [← config]
      exact zonePriority_of_zone (own ▸ reclaimed.zone)
    · exact zonePriority_of_zone ((reclaimed.zones _ own).trans hy)
  obtain ⟨zones, units, host, rfl⟩ := reclaimed.frame
  subst same
  refine ⟨_, front, back, rfl, zone, parts, above, below, ?_⟩
  unfold State.joined
  rw [placed]
  rfl

end

end Sys2Proof.Machine
end

section
/-! PROOF. O49: the cases of step 5 on the part as the evaluation finds it, and the statement. -/

namespace Sys2Proof.Machine

section
variable {z : Nat} {r q r' : Zone} {s m t : State}

theorem MatchesOn.unit (on : MatchesOn z r s m q) (v : Nat) : m.unit v = s.unit v := by
  obtain ⟨zones, host, rfl⟩ := on.frame
  rfl

theorem MatchesOn.stageRec (on : MatchesOn z r s m q) (v : Nat) (x : StageName) : m.stageRec v x = s.stageRec v x := by
  obtain ⟨zones, host, rfl⟩ := on.frame
  rfl

theorem MatchesOn.arbiter (on : MatchesOn z r s m q) : m.arbiter = s.arbiter := by
  obtain ⟨zones, host, rfl⟩ := on.frame
  rfl

theorem MatchesOn.uptime (on : MatchesOn z r s m q) : m.uptime = s.uptime := by
  obtain ⟨zones, host, rfl⟩ := on.frame
  rfl

/-- R82: the active count as the evaluation finds it. -/
theorem MatchesOn.activeCount (on : MatchesOn z r s m q) :
    m.activeCount q =
      (r.units.map fun u => ((s.unit u).map fun b => Rule.active b (decide (q.mode = .heat))).getD 0).sum := by
  rw [activeCount_sum on.active, on.units]
  simp only [on.unit]

/-- R85: a zone has no stage to stop exactly when none of its units' stages of its mode is in RUN. -/
theorem MatchesOn.stopChoice_none (on : MatchesOn z r s m q) :
    m.stopChoice q = none ↔ ∀ u ∈ r.units, ∀ b st p, s.unit u = some b → isHeat st = decide (q.mode = .heat) →
      b.stages.get st = some p → p.state ≠ .run := by
  simp only [Machine.stopChoice_none, on.units, on.unit]

/-- R82: an evaluation whose step 5 changes nothing. -/
theorem matching_nothing (on : MatchesOn z r s m q) (still : m.matchStep z = m) (ht : t = (m.matchStep z).channelStep z)
    (hr' : t.zone z = some r') :
    t.arbiter = s.arbiter ∧ r'.holdOrder = r.holdOrder ∧ ∀ u st, t.stageRec u st = s.stageRec u st := by
  obtain ⟨zone, frame, records⟩ := channelStep_result ht hr'
  rw [still] at zone frame records
  obtain rfl : q = r' := Option.some.inj (on.zone.symm.trans zone)
  refine ⟨?_, on.holdOrder, fun u st => (records u st).trans (on.stageRec u st)⟩
  rw [frame]
  exact on.arbiter

/-- R31, R82: above the wanted stages the zone's newest entry is withdrawn. -/
theorem matching_withdraws (on : MatchesOn z r s m q) (above : q.wanted < m.activeCount q)
    (waiting : ∃ e ∈ s.arbiter.queue, e.zone = z) (ht : t = (m.matchStep z).channelStep z) (hr' : t.zone z = some r') :
    r'.holdOrder = r.holdOrder ∧ ∃ e ∈ s.arbiter.queue, e.zone = z ∧
      (∀ f ∈ s.arbiter.queue, f.zone = z → f.joinRank.toNat ≤ e.joinRank.toNat) ∧
      t.arbiter = { s.arbiter with
        queue := s.arbiter.queue.filter fun f => !(f.unit == e.unit && f.stage == e.stage) } ∧
      ∀ u st, t.stageRec u st = (s.stageRec u st).map fun q =>
        if u = e.unit ∧ st = e.stage ∧ q.state = .queued then { q with state := .off } else q := by
  obtain ⟨zone, frame, records⟩ := channelStep_result ht hr'
  have step := matchStep_above on.zone on.active above
  cases newest : m.newestEntry z with
  | none =>
    obtain ⟨e, he, own⟩ := waiting
    exact absurd own (newestEntry_none.mp newest e (on.arbiter ▸ he))
  | some e =>
    obtain ⟨queued, own, last⟩ := newestEntry_some newest
    rw [step, giveUpStep_entry on.zone newest] at zone frame records
    rw [withdraw_frame] at zone
    obtain rfl : q = r' := Option.some.inj (on.zone.symm.trans zone)
    have entry : m.arbiter.queue.any (Entry.isFor e.unit e.stage) = true :=
      List.any_eq_true.mpr ⟨e, queued, by simp [Entry.isFor]⟩
    rw [on.arbiter] at queued last
    refine ⟨on.holdOrder, e, queued, own, last, ?_, fun u st => ?_⟩
    · rw [frame]
      exact (withdraw_arbiter ..).trans (by rw [on.arbiter]; rfl)
    · rw [records, stageRec_withdraw entry, on.stageRec]

/-- R85: above the wanted stages and without an entry, a zone that has a stage in RUN stops one. -/
theorem matching_stops (on : MatchesOn z r s m q) (above : q.wanted < m.activeCount q)
    (empty : ∀ e ∈ s.arbiter.queue, e.zone ≠ z) {c : StopCandidate} (chosen : m.stopChoice q = some c)
    (ht : t = (m.matchStep z).channelStep z) (hr' : t.zone z = some r') :
    t.arbiter = s.arbiter ∧ ∃ u b st p p', u ∈ r.units ∧ s.unit u = some b ∧
      TopRunning b (decide (q.mode = .heat)) st p ∧
      (∀ v ∈ r.units, ∀ d, s.unit v = some d → ∀ x o, TopRunning d (decide (q.mode = .heat)) x o →
        Rule.active d (decide (q.mode = .heat)) < Rule.active b (decide (q.mode = .heat)) ∨
          (Rule.active d (decide (q.mode = .heat)) = Rule.active b (decide (q.mode = .heat)) ∧
            (o.runtime < p.runtime ∨ (o.runtime = p.runtime ∧ v ≤ u)))) ∧
      (if p.minOn = .stopped then
        StoppedToRest b.copy s.uptime .satisfied p p' ∧ MarksKept p p' ∧ p'.proving = p.proving ∧
          r'.holdOrder = r.holdOrder
      else p' = { p with state := .hold, pendingCause := some .satisfied } ∧
        r'.holdOrder = joinHoldOrder u st r.holdOrder) ∧
      ∀ v x, t.stageRec v x = if v = u ∧ x = st then some p' else s.stageRec v x := by
  obtain ⟨zone, frame, records⟩ := channelStep_result ht hr'
  have none := newestEntry_none.mpr (on.arbiter ▸ empty)
  rw [matchStep_above on.zone on.active above] at zone frame records
  obtain ⟨_, listed, b, _, p, hb, top, rfl, rfl, others⟩ := stopChoice_some chosen
  obtain ⟨arbiter, p', stopped, moved⟩ := giveUpStep_stopped on.zone none chosen hb top.stage top.runs zone
  simp only [on.unit, on.units] at others
  rw [on.units] at listed
  rw [on.unit] at hb
  rw [on.uptime, on.holdOrder] at stopped
  refine ⟨?_, _, b, _, p, p', listed, hb, top, others, stopped, fun v x => ?_⟩
  · rw [frame]
    exact arbiter.trans on.arbiter
  · rw [records, moved, on.stageRec]

/-! ### Below the wanted stages (R83, R84) -/

variable {held : List (Nat × StageName)}

theorem matchStep_wanting (on : MatchesOn z r s m q) (below : m.activeCount q < q.wanted)
    (hheld : held = q.holdOrder.filter m.reclaimable) (once : held.Nodup)
    (own : ∀ p ∈ held, p.1 ∈ q.units ∧ isHeat p.2 = decide (q.mode = .heat)) (distinct : q.units.Nodup) :
    m.matchStep z = if held.length < q.wanted - m.activeCount q then
      (m.reclaimStep z (q.wanted - m.activeCount q)).requestStep z
      else m.reclaimStep z (q.wanted - m.activeCount q) := by
  rw [matchStep_below on.zone on.active below]
  refine if_congr ?_ rfl rfl
  rw [activeCount_reclaimStep on.zone on.active hheld distinct once own]
  omega

/-- R83: the reclaims of a zone below its wanted stages, and whether a request follows them. -/
theorem MatchesOn.wanting (on : MatchesOn z r s m q) {kept : List (Nat × StageName)}
    (hheld : held = r.holdOrder.filter fun p => (s.stageRec p.1 p.2).any fun q =>
      decide (q.state = .hold) && decide (q.pendingCause = some .satisfied))
    (hkept : kept = held.take (held.length - (q.wanted - m.activeCount q))) (below : m.activeCount q < q.wanted)
    (once : held.Nodup) (own : ∀ p ∈ held, p.1 ∈ r.units ∧ isHeat p.2 = decide (q.mode = .heat))
    (distinct : r.units.Nodup) :
    ∃ k, Reclaimed z q { q with stepOwed := q.stepOwed && (held.drop kept.length).isEmpty, holdOrder := kept }
        (held.drop kept.length) s k ∧
      m.matchStep z = if held.length < q.wanted - m.activeCount q then k.requestStep z else k := by
  have waiting : held = q.holdOrder.filter m.reclaimable := by
    rw [hheld, on.holdOrder]
    refine List.filter_congr fun p _ => ?_
    rw [reclaimable_eq, on.stageRec]
  have dropped : held.drop kept.length = held.drop (held.length - (q.wanted - m.activeCount q)) := by
    rw [hkept, List.length_take, Nat.min_eq_left (Nat.sub_le ..)]
  rw [dropped, hkept]
  exact ⟨_, (reclaimStep_reclaimed on.zone waiting).found on,
    matchStep_wanting on below waiting once (on.units ▸ own) (on.units ▸ distinct)⟩

/-- R83, R84: an evaluation whose step 5 ends with the reclaims. -/
theorem matching_reclaims {p : Zone} {taken : List (Nat × StageName)} {k : State} (reclaimed : Reclaimed z q p taken s k)
    (ends : m.matchStep z = k) (ht : t = (m.matchStep z).channelStep z) (hr' : t.zone z = some r') :
    r' = p ∧ t.arbiter = s.arbiter ∧ ∀ u st, t.stageRec u st = k.stageRec u st := by
  obtain ⟨zone, frame, records⟩ := channelStep_result ht hr'
  rw [ends] at zone frame records
  refine ⟨Option.some.inj (zone.symm.trans reclaimed.zone), ?_, records⟩
  rw [frame]
  obtain ⟨zones, units, host, rfl⟩ := reclaimed.frame
  rfl

/-- R84: the step that is owed once the hold order has been looked through. -/
theorem MatchesOn.owed_iff (on : MatchesOn z r s m q) :
    (q.stepOwed && held.isEmpty) = true ↔ held = [] ∧ (r.stepOwed = true ∨ r.level < q.level) := by
  simp [on.stepOwed, and_comm]

/-- R84: the gate of a request: a step is owed, or the up delay has passed since the last increase. -/
theorem MatchesOn.gate_iff (on : MatchesOn z r s m q) {owed : Bool} :
    (owed || delayPassed s.uptime q.config.upDelay q.lastIncrease) = true ↔
      owed = true ∨ ∀ up, q.lastIncrease = some up → r.config.upDelay ≤ (s.uptime - up).toNat := by
  rw [Bool.or_eq_true, delayPassed_iff, on.config]

/-- R84: no unit may take the request. -/
theorem requestChoice_reclaimed {p : Zone} {taken : List (Nat × StageName)} {k : State}
    (reclaimed : Reclaimed z q p taken s k)
    (none : ∀ u ∈ p.units, ∀ b st o, s.unit u = some b → ¬Rule.Eligible b (decide (p.mode = .heat)) st o) :
    k.requestChoice p = Option.none := by
  refine requestChoice_none.mpr fun u listed d st o hd eligible => ?_
  have unit := reclaimed.units.unit u
  cases hb : s.unit u with
  | none =>
    rw [hb, hd] at unit
    cases unit
  | some b => exact none u listed b st o hb ((reclaimed.eligible u b d hb hd _ st o).mp eligible)

theorem GrantedRec.of_queued {p : StageRec} {o : Option StageRec} (granted : GrantedRec (some p) o)
    (queued : p.state = .queued) : ∃ p', o = some p' ∧ (p'.state = .queued ∨ p'.state = .proving) := by
  obtain kept | ⟨_, p', _, _, taken, proving⟩ := granted
  · exact ⟨p, kept, .inl queued⟩
  · exact ⟨p', taken, .inr proving⟩

/-- R26, R28, R36, R84: with the gate open, room and an eligible unit, the chosen unit's next stage joins, and an attempt
follows. -/
theorem matching_joins {p : Zone} {taken : List (Nat × StageName)} {k : State} (reclaimed : Reclaimed z q p taken s k)
    (hr : s.zone z = some r) (config : p.config = r.config) (units : p.units = r.units)
    (step : m.matchStep z = k.requestStep z)
    (opened : (p.stepOwed || delayPassed s.uptime p.config.upDelay p.lastIncrease) = true)
    (room : s.arbiter.queue.length < 32)
    (able : ∃ u ∈ r.units, ∃ b st o, s.unit u = some b ∧ Rule.Eligible b (decide (p.mode = .heat)) st o)
    (ht : t = (m.matchStep z).channelStep z) (hr' : t.zone z = some r') :
    r' = { p with stepOwed := false } ∧ t.arbiter.joinRank = s.arbiter.joinRank + 1#32 ∧
      ∃ u b st o o', u ∈ r.units ∧ s.unit u = some b ∧ Rule.Eligible b (decide (p.mode = .heat)) st o ∧
        (∀ v ∈ r.units, ∀ c x i, s.unit v = some c → Rule.Eligible c (decide (p.mode = .heat)) x i →
          Rule.engaged b (decide (p.mode = .heat)) < Rule.engaged c (decide (p.mode = .heat)) ∨
            (Rule.engaged b (decide (p.mode = .heat)) = Rule.engaged c (decide (p.mode = .heat)) ∧
              (o.runtime < i.runtime ∨ (o.runtime = i.runtime ∧ u ≤ v)))) ∧
        t.stageRec u st = some o' ∧ (o'.state = .queued ∨ o'.state = .proving) ∧
        (∀ v x, ¬(v = u ∧ x = st) → GrantedRec (k.stageRec v x) (t.stageRec v x)) ∧
        ∃ (e : Entry) (front back : List Entry) (j n : State),
          e = { unit := u, stage := st, zone := b.zone, priority := e.priority, load := b.copy.loads.get st
                compressor := !isHeat st, joinUptime := s.uptime, joinRank := s.arbiter.joinRank } ∧
          (∀ y, s.zone b.zone = some y → e.priority = y.config.priority) ∧
          s.arbiter.queue = front ++ back ∧ (∀ f ∈ front, e.priority ≤ f.priority) ∧
          (∀ f, back.head? = some f → f.priority < e.priority) ∧
          j = { s with
            host := t.host, units := j.units, zones := j.zones
            arbiter := { s.arbiter with queue := front ++ e :: back, joinRank := s.arbiter.joinRank + 1#32 } } ∧
          (∀ y, j.zone y = if y = z then some p else s.zone y) ∧
          (∀ v, j.unit v = (s.unit v).map fun c =>
            { c with
              stages := Six.ofFn fun x =>
                if v = u ∧ x = st then some { o with state := .queued } else k.stageRec v x }) ∧
          ((∀ f ∈ s.arbiter.queue, s.unit f.unit ≠ none) → AttemptResult .join j n) ∧
          t = { n with units := t.units, zones := t.zones } ∧ ∀ v x, t.stageRec v x = n.stageRec v x := by
  obtain ⟨zone, frame, records⟩ := channelStep_result ht hr'
  rw [step] at zone frame records
  have queue : k.arbiter = s.arbiter ∧ k.uptime = s.uptime := by
    obtain ⟨zones, units, host, rfl⟩ := reclaimed.frame
    exact ⟨rfl, rfl⟩
  have bound (v : Nat) : (∃ c, s.unit v = some c) ↔ ∃ d, k.unit v = some d := by
    rw [reclaimed.units.unit v]
    cases s.unit v <;> simp
  obtain ⟨c, chosen⟩ : ∃ c, k.requestChoice p = some c := by
    refine Option.ne_none_iff_exists'.mp fun none => ?_
    obtain ⟨u, listed, b, st, o, hb, eligible⟩ := able
    obtain ⟨d, hd⟩ := (bound u).mp ⟨b, hb⟩
    exact requestChoice_none.mp none u (units ▸ listed) d st o hd ((reclaimed.eligible u b d hb hd _ st o).mpr eligible)
  obtain ⟨_, listed, d, _, o, hd, eligible, rfl, rfl, first⟩ := requestChoice_some chosen
  have ⟨_, _, _, _, _, stage, off⟩ := eligible
  rw [requestStep_joins reclaimed.zone (queue.2 ▸ opened) (queue.1 ▸ room) chosen hd stage off] at zone frame records
  obtain ⟨b, hb⟩ := (bound c.unit).mpr ⟨d, hd⟩
  rw [zone_putZone, if_pos rfl, Option.some.injEq] at zone
  obtain ⟨e, front, back, entry, priority, parts, above, below, join⟩ :=
    joined_words (st := c.stage) (o := o) reclaimed hr config hb hd
  have joinZone (y : Nat) : (k.joined c.unit c.stage d o).zone y = if y = z then some p else s.zone y := by
    change k.zone y = _
    split
    · subst y
      exact reclaimed.zone
    · exact reclaimed.zones y ‹_›
  have joinUnit := (reclaimed.units.trans (stagesOnly_joined (st := c.stage) (p := o) hd)).unit
  have joinRec := stageRec_joined (st := c.stage) (p := o) hd
  generalize k.joined c.unit c.stage d o = j at *
  have granted := stageRec_attempt .join j
  have rank := attempt_joinRank .join j
  have attempted : j.attempt .join = { j with units := (j.attempt .join).units, arbiter := (j.attempt .join).arbiter } :=
    attempt_frame .join j
  have result := attempt_result .join (s := j)
  generalize j.attempt .join = n at *
  have host : t.host = k.host := by
    rw [frame]
    change n.host = _
    rw [attempted, join]
  have joined : j.stageRec c.unit c.stage = some { o with state := .queued } := (joinRec ..).trans (if_pos ⟨rfl, rfl⟩)
  obtain ⟨o', taken, state⟩ := (joined ▸ granted c.unit c.stage).of_queued rfl
  refine ⟨zone.symm, ?_, c.unit, b, c.stage, o, o', units ▸ listed, hb,
    (reclaimed.eligible _ _ _ hb hd ..).mp eligible, fun v hv f x i hf other => ?_, (records ..).trans taken, state,
    fun v x apart => ?_, e, front, back, j, n, entry, priority, parts, above, below, host ▸ join, joinZone, fun v => ?_,
    fun full => result fun f hf => ?_, ?_, records⟩
  · rw [frame]
    exact rank.trans (by rw [join])
  · obtain ⟨g, hg⟩ := (bound v).mp ⟨f, hf⟩
    rw [← reclaimed.engaged _ _ _ hb hd, ← reclaimed.engaged _ _ _ hf hg]
    exact first v (units ▸ hv) g x i hg ((reclaimed.eligible _ _ _ hf hg ..).mpr other)
  · have kept : j.stageRec v x = k.stageRec v x := (joinRec v x).trans (if_neg apart)
    rw [records, ← kept]
    exact granted v x
  · rw [joinUnit, funext (joinRec v)]
  · have queued : f = e ∨ f ∈ s.arbiter.queue := by
      rw [join, List.mem_append, List.mem_cons] at hf
      rw [parts, List.mem_append]
      tauto
    rw [joinUnit, ne_eq, Option.map_eq_none_iff]
    obtain rfl | waits := queued
    · rw [entry, hb]
      nofun
    · exact full f waits
  · rw [frame]
    rfl

/-- R83, R84: what step 5 leaves once the stages held do not do: the reclaims alone, or a join after them. -/
theorem matching_lacking {p : Zone} {taken : List (Nat × StageName)} {k : State} (reclaimed : Reclaimed z q p taken s k)
    (step : m.matchStep z = k.requestStep z)
    (declined : (p.stepOwed || delayPassed s.uptime p.config.upDelay p.lastIncrease) = false ∨
      32 ≤ s.arbiter.queue.length ∨
      ∀ u ∈ p.units, ∀ b st o, s.unit u = some b → ¬Rule.Eligible b (decide (p.mode = .heat)) st o)
    (ht : t = (m.matchStep z).channelStep z) (hr' : t.zone z = some r') :
    r' = p ∧ t.arbiter = s.arbiter ∧ ∀ u st, t.stageRec u st = k.stageRec u st := by
  refine matching_reclaims reclaimed (step.trans (requestStep_declined reclaimed.zone ?_)) ht hr'
  have queue : k.arbiter = s.arbiter ∧ k.uptime = s.uptime := by
    obtain ⟨zones, units, host, rfl⟩ := reclaimed.frame
    exact ⟨rfl, rfl⟩
  rw [queue.1, queue.2]
  exact declined.imp_right (.imp_right (requestChoice_reclaimed reclaimed))

end

/-- Settles O49: step 5 on the part as steps 1 to 4 leave it (`MatchesOn`), case by case. -/
theorem zonesMatchActiveStagesToWanted : Obligations.ZonesMatchActiveStagesToWanted := by
  intro z r r' s t active heat hr due run ht hr' ends hheat hcount
  obtain ⟨m, q, on, step, owed, order, shape⟩ := zoneEvaluation_matches hr due run ht hr' ends
  have wanted : r'.wanted = q.wanted := by rw [shape]
  have level : r'.level = q.level := by rw [shape]
  have increase : r'.lastIncrease = q.lastIncrease := by rw [shape]
  obtain rfl : heat = decide (q.mode = .heat) := by rw [hheat, shape]
  obtain rfl : active = m.activeCount q := hcount.trans on.activeCount.symm
  rw [wanted, level, increase]
  clear shape hheat hcount
  refine ⟨fun equal => matching_nothing on (matchStep_equal on.zone equal) step hr',
    fun above waiting => matching_withdraws on above waiting step hr', fun above empty => ⟨fun none => ?_, fun runs => ?_⟩, ?_⟩
  · refine matching_nothing on ?_ step hr'
    rw [matchStep_above on.zone on.active above]
    exact giveUpStep_none on.zone (newestEntry_none.mpr (on.arbiter ▸ empty)) (on.stopChoice_none.mpr none)
  · obtain ⟨c, chosen⟩ : ∃ c, m.stopChoice q = some c := by
      refine Option.ne_none_iff_exists'.mp fun none => ?_
      obtain ⟨u, listed, b, st, p, hb, mode, stage, runs⟩ := runs
      exact on.stopChoice_none.mp none u listed b st p hb mode stage runs
    obtain ⟨arbiter, u, b, st, p, p', listed, hb, ⟨mode, stage, runs, top⟩, others, stopped, records⟩ :=
      matching_stops on above empty chosen step hr'
    exact ⟨arbiter, u, b, st, p, p', listed, hb, mode, stage, runs, top,
      fun v hv d hd x o hx ho ho' last => others v hv d hd x o ⟨hx, ho, ho', last⟩, stopped, records⟩
  · intro held kept reclaimed hheld hkept hreclaimed below once own distinct
    obtain ⟨k, known, matched⟩ := on.wanting hheld hkept below once own distinct
    obtain rfl : reclaimed = k.stageRec := by
      funext u st
      exact (hreclaimed u st).trans (known.records u st).symm
    by_cases lacking : held.length < q.wanted - m.activeCount q
    · rw [if_pos lacking] at matched
      have all : held.drop kept.length = held := by
        rw [hkept, Nat.sub_eq_zero_of_le (Nat.le_of_lt lacking)]
        rfl
      rw [all] at known
      by_cases declined :
          ((q.stepOwed && held.isEmpty) || delayPassed s.uptime q.config.upDelay q.lastIncrease) = false ∨
          32 ≤ s.arbiter.queue.length ∨
          ∀ u ∈ q.units, ∀ b st o, s.unit u = some b → ¬Rule.Eligible b (decide (q.mode = .heat)) st o
      · obtain ⟨rfl, arbiter, records⟩ := matching_lacking known matched declined step hr'
        refine ⟨rfl, fun fits => absurd lacking (Nat.not_lt.mpr fits), fun _ owed gate howed hgate => ?_⟩
        obtain rfl : owed = (q.stepOwed && held.isEmpty) := Bool.eq_iff_iff.mpr (howed.trans on.owed_iff.symm)
        refine ⟨fun _ => ⟨arbiter, rfl, records⟩, fun opened room able => ?_⟩
        obtain closed | full | none := declined
        · rw [on.gate_iff.mpr (hgate.mp opened)] at closed
          cases closed
        · exact absurd room (Nat.not_lt.mpr full)
        · obtain ⟨u, listed, b, st, o, hb, eligible⟩ := able
          exact absurd eligible (none u (on.units ▸ listed) b st o hb)
      · simp only [not_or, Bool.not_eq_false, Nat.not_le, not_forall, not_not, exists_prop] at declined
        obtain ⟨opened, room, able⟩ := declined
        obtain ⟨rfl, rank, u, b, st, o, o', listed, hb, eligible, first, joins⟩ :=
          matching_joins known hr on.config on.units matched opened room (on.units ▸ able) step hr'
        refine ⟨rfl, fun fits => absurd lacking (Nat.not_lt.mpr fits), fun _ owed gate howed hgate => ?_⟩
        obtain rfl : owed = (q.stepOwed && held.isEmpty) := Bool.eq_iff_iff.mpr (howed.trans on.owed_iff.symm)
        refine ⟨fun declined => ?_, fun _ _ _ => ⟨rank, rfl, u, b, st, o, o', listed, hb, eligible, first, joins⟩⟩
        obtain closed | full | none := declined
        · rw [hgate.mpr (on.gate_iff.mp opened)] at closed
          cases closed
        · exact absurd room (Nat.not_lt.mpr full)
        · exact absurd eligible (none u listed b st o hb)
    · rw [if_neg lacking] at matched
      obtain ⟨rfl, arbiter, records⟩ := matching_reclaims known matched step hr'
      have some : held.drop kept.length ≠ [] := by
        rw [hkept, ne_eq, List.drop_eq_nil_iff, List.length_take]
        omega
      exact ⟨rfl, fun _ => ⟨arbiter, by simp [some], records⟩, fun lack => absurd lack lacking⟩

end Sys2Proof.Machine
end

section
/-! PROOF. O15, O21 and O50: the clock, the delivery of cells and the cells read back. -/

namespace Sys2Proof.Machine

/-! ### CLOCK.GET (R98) and SCHED.GET (R109) -/

/-- Settles O15: the owner's reply is the rule's list, with the clock invalid and with it valid. -/
theorem clockGetReportsTheClock : Obligations.ClockGetReportsTheClock := by
  unfold Obligations.ClockGetReportsTheClock
  intro tag s idle
  have answered : exec (.clockGet tag) s = .next (s.answering 0x07#8 tag .accepted (serveClockGet s).2.payload) :=
    exec_request_served (r := .clockGet) idle (commonCheck_eq_none rfl rfl rfl rfl (fun _ => rfl) s)
      (a := (serveClockGet s).2) rfl tag
  refine ⟨fun invalid => ?_, fun t valid => ?_⟩
  · simp [answered, serveClockGet, accept, State.timeOfDay, invalid, encFlag, encOption, encWord_eq]
  · simp only [answered, serveClockGet, accept, State.timeOfDay, valid]
    rfl

theorem serveSchedGet_index {day zone slot count : Byte}
    (h : ¬(1 ≤ day.toNat ∧ day.toNat ≤ 8 ∧ 1 ≤ zone.toNat ∧ zone.toNat ≤ 12 ∧ slot.toNat ≤ 95 ∧ 1 ≤ count.toNat ∧
      count.toNat ≤ 16)) (s : State) : serveSchedGet day zone slot count s = refuse s .index := by
  rw [serveSchedGet, if_neg (by simpa [within, and_assoc] using h)]

/-- R109: the cells of one zone's slots from one slot on, to the count or to slot 95. -/
def cellsFrom (day zone slot count : Nat) (grid : Table Cell) : List Cell :=
  (List.range (min count (96 - slot))).map fun i => gridRead (cellIndex day zone (slot + i)) grid

theorem cellsFrom_length (day zone slot count : Nat) (grid : Table Cell) :
    (cellsFrom day zone slot count grid).length = min count (96 - slot) := by simp [cellsFrom]

theorem cellsFrom_get {day zone slot count i : Nat} {grid : Table Cell}
    (h : i < (cellsFrom day zone slot count grid).length) :
    (cellsFrom day zone slot count grid)[i]? = some (gridRead (cellIndex day zone (slot + i)) grid) := by
  rw [cellsFrom_length] at h
  rw [cellsFrom, List.getElem?_map, List.getElem?_range h]
  rfl

theorem serveSchedGet_cells {day zone slot count : Byte} (day1 : 1 ≤ day.toNat) (day8 : day.toNat ≤ 8)
    (zone1 : 1 ≤ zone.toNat) (zone12 : zone.toNat ≤ 12) (slot95 : slot.toNat ≤ 95) (count1 : 1 ≤ count.toNat)
    (count16 : count.toNat ≤ 16) (s : State) :
    serveSchedGet day zone slot count s =
      accept s (encList encCell (cellsFrom day.toNat zone.toNat slot.toNat count.toNat s.schedule.grid)) := by
  rw [serveSchedGet, if_pos (by simp [within, day1, day8, zone1, zone12, slot95, count1, count16])]
  rfl

/-- Settles O21: the owner reads `cellsFrom`, or refuses before it reads. -/
theorem schedGetReturnsCells : Obligations.SchedGetReturnsCells := by
  unfold Obligations.SchedGetReturnsCells
  intro tag day zone slot count s idle
  have answered {t : State} {a : Answer} (served : serveSchedGet day zone slot count s = (t, a)) :
      exec (.schedGet tag day zone slot count) s = .next (t.answering 0x2B#8 tag a.result a.payload) :=
    exec_request_served (r := .schedGet day zone slot count) idle
      (commonCheck_eq_none rfl rfl rfl rfl (fun _ => rfl) s) served tag
  exact ⟨fun bad => answered (serveSchedGet_index bad s), fun day1 day8 zone1 zone12 slot95 count1 count16 =>
    ⟨_, cellsFrom_length .., fun i => cellsFrom_get,
      answered (serveSchedGet_cells day1 day8 zone1 zone12 slot95 count1 count16 s)⟩⟩

/-! ### The delivery of cells (R99) -/

/-- R99: with the clock valid every defined zone takes the cell of its day type and slot. -/
theorem deliver_zone {t : TimeOfDay} {s : State} (valid : s.schedule.clock.time = some t) (z : Nat) :
    s.deliver.zone z = (s.zone z).map fun r =>
      { r with cell := gridRead (cellIndex t.day z (t.minute / 15)) s.schedule.grid } := by
  simp only [State.deliver, State.timeOfDay, valid]
  exact find_update _ z s.zones

/-! ### CLOCK_TICK (R95) -/

/-- R95: within a minute the clock counts seconds. -/
theorem advance_second {now : TimeOfDay} (h : now.second < 59) (c : Clock) :
    c.advance now = { c with time := some { now with second := now.second + 1 } } := if_pos h

/-- R95: before midnight a full minute counts. -/
theorem advance_minute {now : TimeOfDay} (full : ¬now.second < 59) (h : now.minute < 1439) (c : Clock) :
    c.advance now = { c with time := some { day := now.day, minute := now.minute + 1, second := 0 } } :=
  (if_neg full).trans (if_pos h)

/-- R95: midnight goes to the holiday, to the weekday after it, or to the next weekday, and clears the mark. -/
theorem advance_midnight {now : TimeOfDay} {weekday : Nat} {c : Clock} (full : ¬now.second < 59)
    (last : ¬now.minute < 1439) (known : c.weekdayAfter = some weekday) :
    c.advance now = { c with
      time := some {
        day := if c.holiday then 8 else if now.day = 8 then weekday else if now.day = 7 then 1 else now.day + 1
        minute := 0, second := 0 }
      holiday := false } := by
  rw [Clock.advance, if_neg full, if_neg last, Clock.nextDay, known]
  split_ifs <;> rfl

/-- R95: a slot begins every quarter of an hour. -/
theorem atBoundary_iff {t : TimeOfDay} (range : t.second ≤ 59) :
    t.atBoundary = true ↔ t.second = 0 ∧ t.minute % 15 = 0 := by
  rw [TimeOfDay.atBoundary, TimeOfDay.seconds, decide_eq_true_iff]
  omega

/-- R95, R99: what a tick leaves once it is known where it takes the clock. -/
theorem clockTick_moves {now next : TimeOfDay} {mark : Bool} {s : State} (valid : s.schedule.clock.time = some now)
    (moves : s.schedule.clock.advance now = { s.schedule.clock with time := some next, holiday := mark })
    (range : next.second ≤ 59) :
    ∃ t, exec .clockTick s = .next t ∧
      t = { s with schedule := { s.schedule with clock := { s.schedule.clock with time := some next, holiday := mark } }
                   zones := t.zones } ∧
      ∀ z, t.zone z = (s.zone z).map fun r =>
        if next.second = 0 ∧ next.minute % 15 = 0 then
          { r with cell := gridRead (cellIndex next.day z (next.minute / 15)) s.schedule.grid }
        else r := by
  let moved := s.setSchedule
    { s.schedule with clock := { s.schedule.clock with time := some next, holiday := mark } }
  have run : exec .clockTick s = .next (if next.atBoundary then moved.deliver else moved) := by
    simp only [exec, execClockTick, State.timeOfDay, valid, moves]
    rfl
  refine ⟨_, run, ?_⟩
  by_cases boundary : next.second = 0 ∧ next.minute % 15 = 0
  · rw [if_pos ((atBoundary_iff range).mpr boundary)]
    simp only [if_pos boundary]
    exact ⟨deliver_frame moved, deliver_zone rfl⟩
  · rw [if_neg (mt (atBoundary_iff range).mp boundary)]
    simp only [if_neg boundary]
    exact ⟨rfl, fun z => (Option.map_id' (x := s.zone z)).symm⟩

/-- Settles O50: within the minute, within the day and at midnight. -/
theorem clockTickMovesTheClock : Obligations.ClockTickMovesTheClock := by
  unfold Obligations.ClockTickMovesTheClock
  intro s
  refine ⟨fun invalid => by simp [exec, execClockTick, State.timeOfDay, invalid],
    fun now next weekday mark valid known minutes seconds hnext hmark => ?_⟩
  have moves : s.schedule.clock.advance now = { s.schedule.clock with time := some next, holiday := mark } ∧
      next.second ≤ 59 := by
    by_cases within : now.second < 59
    · rw [if_pos within] at hnext
      obtain rfl : mark = s.schedule.clock.holiday := by simp [hmark, Nat.ne_of_lt within]
      exact ⟨hnext ▸ advance_second within _, hnext ▸ within⟩
    by_cases today : now.minute < 1439
    · rw [if_neg within, if_pos today] at hnext
      obtain rfl : mark = s.schedule.clock.holiday := by simp [hmark, Nat.ne_of_lt today]
      exact ⟨hnext ▸ advance_minute within today _, hnext ▸ Nat.zero_le 59⟩
    · rw [if_neg within, if_neg today] at hnext
      obtain rfl : mark = false := by
        simp [hmark, show now.minute = 1439 by omega, show now.second = 59 by omega]
      exact ⟨hnext ▸ advance_midnight within today known, hnext ▸ Nat.zero_le 59⟩
  exact clockTick_moves valid moves.1 moves.2

end Sys2Proof.Machine
end

section
/-! PROOF. O29: CLOCK.SET, its refusals, and the interval that it closes and opens. -/

namespace Sys2Proof.Machine

/-! ### The interval at CLOCK.SET (R54, R55) -/

/-- R55: the meter at CLOCK.SET changes itself and, by INTERVAL_OVER, the host link. -/
theorem meterClockSet_frame (ceiling : Nat) (s : State) :
    s.meterClockSet ceiling =
      { s with meter := (s.meterClockSet ceiling).meter, host := (s.meterClockSet ceiling).host } := by
  unfold State.meterClockSet
  split
  · rfl
  · exact closeInterval_frame ..

/-- R55: the next interval opens, and beside it only the history moves. -/
theorem meterClockSet_meter (ceiling : Nat) (s : State) :
    (s.meterClockSet ceiling).meter =
      { s.meter with
        pendingLength := none, interval := s.newInterval s.meter.nextLength true
        history := (s.meterClockSet ceiling).meter.history
        closeCount := (s.meterClockSet ceiling).meter.closeCount } := by
  unfold State.meterClockSet
  split
  · rfl
  · rw [closeInterval_meter]
    rfl

/-- R55, R63: an interval with seconds in it is closed with its record, and an empty one is discarded. -/
theorem meterClockSet_history (ceiling : Nat) (s : State) :
    if s.meter.interval.elapsed = 0 then
      (s.meterClockSet ceiling).meter.history = s.meter.history ∧
        (s.meterClockSet ceiling).meter.closeCount = s.meter.closeCount
    else
      (s.meterClockSet ceiling).meter.history =
          (if s.meter.history.length < 96 then s.meter.history else s.meter.history.drop 1) ++
            [s.meter.interval.close ceiling true] ∧
        (s.meterClockSet ceiling).meter.closeCount = s.meter.closeCount + 1#32 := by
  unfold State.meterClockSet
  split
  · exact ⟨rfl, rfl⟩
  · rw [closeInterval_meter, record_eq]
    exact ⟨rfl, rfl⟩

/-- R55, R57: only the close of an interval with seconds in it raises a notice. -/
theorem meterClockSet_host (ceiling : Nat) (s : State) :
    (s.meterClockSet ceiling).host =
      if s.meter.interval.elapsed ≠ 0 ∧ ceiling < s.meter.interval.energy / s.meter.interval.elapsed then
        noting s .intervalOver none none none (some ((s.meter.interval.energy / s.meter.interval.elapsed : Nat) : Int))
      else s.host := by
  unfold State.meterClockSet
  by_cases empty : s.meter.interval.elapsed = 0
  · rw [if_pos empty, if_neg fun closed => closed.1 empty]
    rfl
  · rw [if_neg empty, closeInterval_host]
    exact if_congr (and_iff_right empty).symm rfl rfl

/-- R54: the interval that opens at a CLOCK.SET is aligned to the seconds of the day, and marked when that clips it. -/
theorem newInterval_clockSet {t : TimeOfDay} {s : State} (valid : s.schedule.clock.time = some t) (length : Nat) :
    s.newInterval length true = {
      start := some (t.day, t.minute), startUptime := s.uptime, length, effective := length - t.seconds % length
      energy := 0, elapsed := 0, peak := 0, sheds := 0, clipped := decide (length - t.seconds % length < length)
      unaligned := false, overrun := false } := by
  simp only [State.newInterval, State.timeOfDay, valid, Bool.true_and]

/-- R59: the ceiling in force goes by the limits and the zones. -/
theorem ceiling_congr {s t : State} (limits : t.meter.limits = s.meter.limits) (zones : t.zones = s.zones) :
    Rule.ceiling t = Rule.ceiling s := by
  unfold Rule.ceiling Rule.recoveryZones
  rw [limits, zones]

theorem meterClockSet_limits (ceiling : Nat) (s : State) :
    (s.meterClockSet ceiling).meter.limits = s.meter.limits := by
  rw [meterClockSet_meter]

/-- Log 8: the ceiling that the close records is one of the two. -/
theorem freeCeiling_cases (n before after : Nat) :
    freeCeiling n before after = before ∨ freeCeiling n before after = after := by
  unfold freeCeiling
  split_ifs <;> simp

/-! ### The request (R96) -/

theorem within_iff {lo hi n : Nat} : within lo hi n = true ↔ lo ≤ n ∧ n ≤ hi := by simp [within]

theorem within_eq_false {lo hi n : Nat} (h : ¬(lo ≤ n ∧ n ≤ hi)) : within lo hi n = false :=
  Bool.eq_false_iff.mpr (mt within_iff.mp h)

theorem enc8_toNat (b : Byte) : enc8 b.toNat = [b] := by rw [enc8, BitVec.ofNat_toNat, BitVec.setWidth_eq]

/-- R96: the number of the first field of CLOCK.SET outside its range. -/
def clockFailure (day : Byte) (minute : Half) (second mark weekday : Byte) : Option Nat :=
  firstFailing [(1, within 1 8 day.toNat), (2, minute.toNat ≤ 1439), (3, second.toNat ≤ 59), (4, mark.toNat ≤ 1),
    (5, within 1 7 weekday.toNat)]

/-- R96: the clock that a CLOCK.SET writes. -/
def Clock.written (day : Byte) (minute : Half) (second mark weekday : Byte) : Clock :=
  { time := some { day := day.toNat, minute := minute.toNat, second := second.toNat }
    holiday := decide (mark.toNat = 1), weekdayAfter := some weekday.toNat }

/-- R96, R99: the part with a clock written and its cells delivered. -/
def State.clocked (c : Clock) (s : State) : State := (s.setSchedule { s.schedule with clock := c }).deliver

theorem clocked_frame (c : Clock) (s : State) :
    s.clocked c = { s with schedule := { s.schedule with clock := c }, zones := (s.clocked c).zones } := deliver_frame _

theorem clocked_zone {c : Clock} {t : TimeOfDay} (valid : c.time = some t) (s : State) (z : Nat) :
    (s.clocked c).zone z = (s.zone z).map fun r =>
      { r with cell := gridRead (cellIndex t.day z (t.minute / 15)) s.schedule.grid } :=
  deliver_zone (s := s.setSchedule { s.schedule with clock := c }) valid z

section
variable (c : Clock) (ceiling : Nat) (s : State)

theorem clockSet_schedule : ((s.clocked c).meterClockSet ceiling).schedule = { s.schedule with clock := c } := by
  rw [meterClockSet_frame, clocked_frame]

theorem clockSet_zones : ((s.clocked c).meterClockSet ceiling).zones = (s.clocked c).zones := by
  rw [meterClockSet_frame]

/-- R96: a clock written and an interval closed change the schedule, the zones, the meter and the host link. -/
theorem clockSet_frame :
    (s.clocked c).meterClockSet ceiling =
      { s with
        schedule := ((s.clocked c).meterClockSet ceiling).schedule, zones := ((s.clocked c).meterClockSet ceiling).zones
        meter := ((s.clocked c).meterClockSet ceiling).meter, host := ((s.clocked c).meterClockSet ceiling).host } := by
  refine (meterClockSet_frame ceiling (s.clocked c)).trans ?_
  rw [clockSet_schedule, clockSet_zones]
  exact congrArg (fun m : State => { m with
    meter := ((s.clocked c).meterClockSet ceiling).meter, host := ((s.clocked c).meterClockSet ceiling).host })
    (clocked_frame c s)

/-- R55, R173: the notice of the close carries the clock as set. -/
theorem clockSet_host :
    ((s.clocked c).meterClockSet ceiling).host =
      if s.meter.interval.elapsed ≠ 0 ∧ ceiling < s.meter.interval.energy / s.meter.interval.elapsed then
        noting { s with schedule := { s.schedule with clock := c } } .intervalOver none none none
          (some ((s.meter.interval.energy / s.meter.interval.elapsed : Nat) : Int))
      else s.host := by
  rw [meterClockSet_host, clocked_frame]
  rfl

/-- R54: the interval that opens is aligned to the clock as set. -/
theorem clockSet_meter {c : Clock} {t : TimeOfDay} (valid : c.time = some t) :
    ((s.clocked c).meterClockSet ceiling).meter =
      { s.meter with
        pendingLength := none
        interval := {
          start := some (t.day, t.minute), startUptime := s.uptime, length := s.meter.nextLength
          effective := s.meter.nextLength - t.seconds % s.meter.nextLength, energy := 0, elapsed := 0, peak := 0, sheds := 0
          clipped := decide (s.meter.nextLength - t.seconds % s.meter.nextLength < s.meter.nextLength)
          unaligned := false, overrun := false }
        history := ((s.clocked c).meterClockSet ceiling).meter.history
        closeCount := ((s.clocked c).meterClockSet ceiling).meter.closeCount } := by
  have set : (s.clocked c).schedule.clock.time = some t := by rw [clocked_frame, valid]
  have meter : (s.clocked c).meter = s.meter := by rw [clocked_frame]
  have uptime : (s.clocked c).uptime = s.uptime := by rw [clocked_frame]
  refine (meterClockSet_meter ceiling (s.clocked c)).trans ?_
  rw [newInterval_clockSet set, meter, uptime]

/-- R55, R63: the record of the close is of the interval before the CLOCK.SET. -/
theorem clockSet_history :
    if s.meter.interval.elapsed = 0 then
      ((s.clocked c).meterClockSet ceiling).meter.history = s.meter.history ∧
        ((s.clocked c).meterClockSet ceiling).meter.closeCount = s.meter.closeCount
    else
      ((s.clocked c).meterClockSet ceiling).meter.history =
          (if s.meter.history.length < 96 then s.meter.history else s.meter.history.drop 1) ++
            [s.meter.interval.close ceiling true] ∧
        ((s.clocked c).meterClockSet ceiling).meter.closeCount = s.meter.closeCount + 1#32 := by
  have meter : (s.clocked c).meter = s.meter := by rw [clocked_frame]
  simpa only [meter] using meterClockSet_history ceiling (s.clocked c)

end

section
variable {day : Byte} {minute : Half} {second mark weekday : Byte} {s : State}

theorem serveClockSet_range {n : Nat} (fails : clockFailure day minute second mark weekday = some n) :
    serveClockSet day minute second mark weekday s = refuseRange s n := by
  unfold clockFailure at fails
  simp only [serveClockSet, fails]

/-- R96, log 8: fields in their ranges set the clock, and the interval closes under one of the two ceilings. -/
theorem serveClockSet_accepted (passes : clockFailure day minute second mark weekday = none) :
    ∃ ceiling, (ceiling = Rule.ceiling s ∨ ceiling = Rule.ceiling (s.clocked (.written day minute second mark weekday))) ∧
      serveClockSet day minute second mark weekday s =
        accept (((s.clocked (.written day minute second mark weekday)).meterClockSet ceiling).useFree 1)
          ([day] ++ halfBytes minute ++ [second, mark, weekday] ++ enc8 (minute.toNat / 15) ++
            enc16 (900 - (minute.toNat * 60 + second.toNat) % 900)) := by
  refine ⟨_, freeCeiling_cases s.freeCount _ _, ?_⟩
  unfold clockFailure at passes
  simp only [serveClockSet, passes, encTime, enc8_toNat, enc16_toNat, List.append_assoc]
  rfl

end

/-- Settles O29: the checks refuse the first field that fails; what passes them is `State.clocked` and then
`State.meterClockSet`. -/
theorem clockSetSetsTheClockAndClosesTheInterval : Obligations.ClockSetSetsTheClockAndClosesTheInterval := by
  unfold Obligations.ClockSetSetsTheClockAndClosesTheInterval
  intro tag day minute second mark weekday s idle
  have answered {t : State} {a : Answer} (served : serveClockSet day minute second mark weekday s = (t, a)) :
      exec (.clockSet tag day minute second mark weekday) s = .next (t.answering 0x06#8 tag a.result a.payload) :=
    exec_request_served (r := .clockSet day minute second mark weekday) idle
      (commonCheck_eq_none rfl rfl rfl rfl (fun _ => rfl) s) served tag
  have refused {n : Nat} (fails : clockFailure day minute second mark weekday = some n) :=
    answered (serveClockSet_range fails)
  refine ⟨fun bad => refused (n := 1) ?_, fun day1 day8 bad => refused (n := 2) ?_,
    fun day1 day8 minutes bad => refused (n := 3) ?_, fun day1 day8 minutes seconds bad => refused (n := 4) ?_,
    fun day1 day8 minutes seconds marks bad => refused (n := 5) ?_,
    fun day1 day8 minutes seconds marks week1 week7 total length effective htotal hlength heffective => ?_⟩
  · simp [clockFailure, firstFailing, within_eq_false bad]
  · simp [clockFailure, firstFailing, within_iff, day1, day8, Nat.not_le.mpr bad]
  · simp [clockFailure, firstFailing, within_iff, day1, day8, minutes, Nat.not_le.mpr bad]
  · simp [clockFailure, firstFailing, within_iff, day1, day8, minutes, seconds, Nat.not_le.mpr bad]
  · simp [clockFailure, firstFailing, within_iff, day1, day8, minutes, seconds, marks, within_eq_false bad]
  have passes : clockFailure day minute second mark weekday = none := by
    simp [clockFailure, firstFailing, within_iff, day1, day8, minutes, seconds, marks, week1, week7]
  obtain ⟨ceiling, inForce, served⟩ := serveClockSet_accepted (s := s) passes
  subst htotal hlength heffective
  refine ⟨_, ceiling, answered served, ?_⟩
  have frame := clockSet_frame (.written day minute second mark weekday) ceiling s
  have schedule := clockSet_schedule (.written day minute second mark weekday) ceiling s
  have zones := clockSet_zones (.written day minute second mark weekday) ceiling s
  have host := clockSet_host (.written day minute second mark weekday) ceiling s
  have meter := clockSet_meter ceiling s (c := .written day minute second mark weekday) rfl
  have history := clockSet_history (.written day minute second mark weekday) ceiling s
  have cells := clocked_zone (c := .written day minute second mark weekday) rfl s
  have sameCeiling := ceiling_congr (meterClockSet_limits ceiling (s.clocked (.written day minute second mark weekday))) zones
  generalize s.clocked (.written day minute second mark weekday) = m at *
  generalize m.meterClockSet ceiling = u at *
  have free : u.freeCount = s.freeCount := by rw [frame]
  refine ⟨inForce.imp_right fun after => after.trans sameCeiling.symm, schedule, fun z => ?_, ?_, ?_, ?_, ?_⟩
  · exact (congrArg (Table.find z) zones).trans (cells z)
  · conv_lhs => rw [frame, ← free]
    rfl
  · exact meter
  · rw [← schedule] at host
    simp only [State.answering, useFree_host, host]
    rfl
  · exact history

end Sys2Proof.Machine
end

section
/-! PROOF. O37: SCHED.WINDOW and SCHED.END. -/

namespace Sys2Proof.Machine

/-! ### SCHED.WINDOW (R100, R101) -/

/-- R152, R170: in NORMAL, with no save and a level below 3, no common check refuses SCHED.WINDOW. -/
theorem commonCheck_schedWindow {s : State} (normal : s.host.run = .normal) (saving : s.store.saving = false)
    (level : s.table.level < 3) (day zLo zHi sLo sHi order direction mask compare occupancy : Byte) :
    s.commonCheck (.schedWindow day zLo zHi sLo sHi order direction mask compare occupancy) = none := by
  simp [State.commonCheck, requestMalformed, requestServiceOnly, requestLocked, normal, saving, level]

/-- R101: the window that fields in their ranges open, with its cursor at the first cell. -/
def Window.opened (day zLo zHi sLo sHi order direction mask compare occupancy : Byte) : Window :=
  { day := day.toNat, zLo := zLo.toNat, zHi := zHi.toNat, sLo := sLo.toNat, sHi := sHi.toNat,
    zonesFirst := decide (order.toNat = 1), descending := decide (direction.toNat = 1), maskOcc := mask.getLsbD 0,
    maskCool := mask.getLsbD 1, maskHeat := mask.getLsbD 2, compare := compareOf compare.toNat,
    compareOcc := if compare.toNat = 0 then none else some (occupancyOf occupancy.toNat),
    cursorZone := if direction.toNat = 1 then zHi.toNat else zLo.toNat,
    cursorSlot := if direction.toNat = 1 then sHi.toNat else sLo.toNat, wraps := 0, taken := 0, written := 0, skipped := 0 }

/-- R100: a compare mode in its range is the one of its code. -/
theorem compareOf_eq {n : Nat} (range : n ≤ 2) :
    compareOf n = if n = 0 then .none else if n = 1 then .ifEqual else .ifDifferent := by
  interval_cases n <;> rfl

section
variable {day zLo zHi sLo sHi order direction mask compare occupancy : Byte} {s : State}

/-- R101: what the check of a field asks: that the field lies in its range, and of the last zone once more that it is not 0. -/
def WindowFieldPasses (day zLo zHi sLo sHi order direction mask compare occupancy : Byte) (n : Nat) : Prop :=
  Rule.WindowFieldFits day zLo zHi sLo sHi order direction mask compare occupancy n ∧ (n = 3 → 1 ≤ zHi.toNat)

/-- R101: the ten checks of SCHED.WINDOW are those of its table. -/
theorem windowFailure_tests (day zLo zHi sLo sHi order direction mask compare occupancy : Byte) :
    ∃ checks : List (Nat × Bool), checks.map Prod.fst = List.range' 1 10 ∧
      (∀ c ∈ checks, c.2 = true ↔
        WindowFieldPasses day zLo zHi sLo sHi order direction mask compare occupancy c.1) ∧
      windowFailure day.toNat zLo.toNat zHi.toNat sLo.toNat sHi.toNat order.toNat direction.toNat mask.toNat compare.toNat
        occupancy.toNat = firstFailing checks := by
  refine ⟨_, rfl, ?_, rfl⟩
  simp only [List.mem_cons, List.not_mem_nil, or_false, WindowFieldPasses, Rule.WindowFieldFits, ne_eq,
    forall_eq_or_imp, within_iff, OfNat.one_ne_ofNat, IsEmpty.forall_iff, and_true, Nat.reduceEqDiff, Bool.and_eq_true,
    decide_eq_true_eq, forall_const, Nat.succ_ne_self, forall_eq, Bool.or_eq_true, true_and]
  omega

/-- R101: with the first zone in its range and no later than the last one, the last one is not 0 either. -/
theorem windowFieldPasses_of_fits {n : Nat}
    (fits : ∀ m, 1 ≤ m → m ≤ n → Rule.WindowFieldFits day zLo zHi sLo sHi order direction mask compare occupancy m)
    (low : 1 ≤ n) : WindowFieldPasses day zLo zHi sLo sHi order direction mask compare occupancy n := by
  refine ⟨fits n low (Nat.le_refl n), ?_⟩
  rintro rfl
  exact (fits 2 (by decide) (by decide)).1.trans (fits 3 (by decide) (by decide)).1

theorem windowFailure_some {n : Nat} (low : 1 ≤ n) (high : n ≤ 10)
    (fails : ¬Rule.WindowFieldFits day zLo zHi sLo sHi order direction mask compare occupancy n)
    (before : ∀ m, 1 ≤ m → m < n → Rule.WindowFieldFits day zLo zHi sLo sHi order direction mask compare occupancy m) :
    windowFailure day.toNat zLo.toNat zHi.toNat sLo.toNat sHi.toNat order.toNat direction.toNat mask.toNat compare.toNat
      occupancy.toNat = some n := by
  obtain ⟨checks, numbers, tests, eq⟩ :=
    windowFailure_tests day zLo zHi sLo sHi order direction mask compare occupancy
  rw [eq]
  exact firstFailing_numbered_some numbers tests low high (fun passes => fails passes.1) fun m first earlier =>
    windowFieldPasses_of_fits (fun k low high => before k low (Nat.lt_of_le_of_lt high earlier)) first

theorem windowFailure_none
    (fits : ∀ n, 1 ≤ n → n ≤ 10 → Rule.WindowFieldFits day zLo zHi sLo sHi order direction mask compare occupancy n) :
    windowFailure day.toNat zLo.toNat zHi.toNat sLo.toNat sHi.toNat order.toNat direction.toNat mask.toNat compare.toNat
      occupancy.toNat = none := by
  obtain ⟨checks, numbers, tests, eq⟩ :=
    windowFailure_tests day zLo zHi sLo sHi order direction mask compare occupancy
  rw [eq]
  exact firstFailing_numbered_none numbers tests fun n low high =>
    windowFieldPasses_of_fits (fun m first last => fits m first (last.trans high)) low

theorem serveSchedWindow_windowed (opened : s.schedule.window ≠ none) :
    serveSchedWindow day zLo zHi sLo sHi order direction mask compare occupancy s = refuse s .windowed :=
  if_pos (Option.isSome_iff_ne_none.mpr opened)

theorem serveSchedWindow_range {n : Nat} (closed : s.schedule.window = none)
    (fails : windowFailure day.toNat zLo.toNat zHi.toNat sLo.toNat sHi.toNat order.toNat direction.toNat mask.toNat
      compare.toNat occupancy.toNat = some n) :
    serveSchedWindow day zLo zHi sLo sHi order direction mask compare occupancy s = refuseRange s n := by
  simp [serveSchedWindow, closed, fails]

theorem serveSchedWindow_opens (closed : s.schedule.window = none)
    (passes : windowFailure day.toNat zLo.toNat zHi.toNat sLo.toNat sHi.toNat order.toNat direction.toNat mask.toNat
      compare.toNat occupancy.toNat = none) :
    ∃ w, w = Window.opened day zLo zHi sLo sHi order direction mask compare occupancy ∧
      serveSchedWindow day zLo zHi sLo sHi order direction mask compare occupancy s =
        accept (s.setSchedule { s.schedule with window := some w })
          (enc16 ((zHi.toNat - zLo.toNat + 1) * (sHi.toNat - sLo.toNat + 1)) ++ enc8 w.cursorZone ++ enc8 w.cursorSlot) := by
  refine ⟨_, rfl, ?_⟩
  simp [serveSchedWindow, closed, passes, Window.opened]

/-- R101: the compare occupancy is read back by its code; the compare mode NONE has none. -/
theorem opened_compareOcc
    (fits : Rule.WindowFieldFits day zLo zHi sLo sHi order direction mask compare occupancy 10) :
    (Window.opened day zLo zHi sLo sHi order direction mask compare occupancy).compareOcc.map Occupancy.toCode =
      if compare.toNat = 0 then none else some occupancy.toNat := by
  by_cases free : compare.toNat = 0
  · simp [Window.opened, free]
  · simp [Window.opened, free, occupancyOf_toCode (fits free)]

end

/-! ### SCHED.END (R107) -/

/-- R137, R170: in NORMAL no common check refuses SCHED.END, at any level and during a save. -/
theorem commonCheck_schedEnd {s : State} (normal : s.host.run = .normal) : s.commonCheck .schedEnd = none := by
  simp [State.commonCheck, requestMalformed, requestServiceOnly, requestTableChanging, requestLocked, normal]

theorem serveSchedEnd_noWindow {s : State} (closed : s.schedule.window = none) :
    serveSchedEnd s = refuse s .noWindow := by
  simp [serveSchedEnd, closed]

theorem serveSchedEnd_closes {w : Window} {s : State} (opened : s.schedule.window = some w) :
    serveSchedEnd s = accept s.closeWindow
      (enc32 w.taken ++ enc32 w.written ++ enc32 w.skipped ++ enc16 w.wraps ++ enc8 w.cursorZone ++
        enc8 w.cursorSlot) := by
  simp [serveSchedEnd, opened]

/-- Settles O37: the checks refuse the first field that fails, what passes them opens `Window.opened`, and SCHED.END closes it. -/
theorem windowsOpenAndCloseWithTheirTotals : Obligations.WindowsOpenAndCloseWithTheirTotals := by
  unfold Obligations.WindowsOpenAndCloseWithTheirTotals
  intro tag day zLo zHi sLo sHi order direction mask compare occupancy s idle normal
  have ended {t : State} {a : Answer} (served : serveSchedEnd s = (t, a)) :
      exec (.schedEnd tag) s = .next (t.answering 0x2A#8 tag a.result a.payload) :=
    exec_request_served (r := .schedEnd) idle (commonCheck_schedEnd normal) served tag
  refine ⟨fun saving level => ?_, fun closed => ended (serveSchedEnd_noWindow closed),
    fun w opened => ended (serveSchedEnd_closes opened)⟩
  have answered {t : State} {a : Answer}
      (served : serveSchedWindow day zLo zHi sLo sHi order direction mask compare occupancy s = (t, a)) :
      exec (.schedWindow tag day zLo zHi sLo sHi order direction mask compare occupancy) s =
        .next (t.answering 0x28#8 tag a.result a.payload) :=
    exec_request_served (r := .schedWindow day zLo zHi sLo sHi order direction mask compare occupancy) idle
      (commonCheck_schedWindow normal saving level ..) served tag
  refine ⟨fun opened => answered (serveSchedWindow_windowed opened), fun closed n low high fails before =>
    answered (serveSchedWindow_range closed (windowFailure_some low high fails before)), fun closed fits => ?_⟩
  obtain ⟨w, rfl, served⟩ := serveSchedWindow_opens closed (windowFailure_none fits)
  exact ⟨_, answered served, rfl, rfl, rfl, rfl, rfl, decide_eq_true_iff, decide_eq_true_iff, rfl, rfl, rfl,
    compareOf_eq (fits 9 (by decide) (by decide)), opened_compareOcc (fits 10 (by decide) (by decide)), rfl, rfl, rfl, rfl,
    rfl, rfl⟩

end Sys2Proof.Machine
end

section
/-! PROOF. O38 and O39: where a value leaves the cursor of its window (R104). -/

namespace Sys2Proof.Machine

/-! ### The cursor (R104) -/

/-- R104: an index within its bounds that rises goes back to the first after the last. -/
theorem advanceIndex_rising {lo hi i : Nat} (inside : i ≤ hi) :
    advanceIndex false lo hi i = (if i = hi then lo else i + 1, decide (i = hi)) := by
  by_cases last : i = hi
  · simp [advanceIndex, last]
  · simp [advanceIndex, last, show ¬hi ≤ i by omega]

/-- R104: an index within its bounds that falls goes back to the last after the first. -/
theorem advanceIndex_falling {lo hi i : Nat} (inside : lo ≤ i) :
    advanceIndex true lo hi i = (if i = lo then hi else i - 1, decide (i = lo)) := by
  by_cases first : i = lo
  · simp [advanceIndex, first]
  · simp [advanceIndex, first, show ¬i ≤ lo by omega]

/-- R104: an index stays within its bounds. -/
theorem advanceIndex_inside {lo hi i : Nat} (low : lo ≤ i) (high : i ≤ hi) (descending : Bool) :
    lo ≤ (advanceIndex descending lo hi i).1 ∧ (advanceIndex descending lo hi i).1 ≤ hi := by
  cases descending
  · rw [advanceIndex_rising high]
    dsimp only
    split <;> omega
  · rw [advanceIndex_falling low]
    dsimp only
    split <;> omega

/-- The slot index one on, and whether it passed its last bound. -/
def Window.nextSlot (w : Window) : Nat × Bool := advanceIndex w.descending w.sLo w.sHi w.cursorSlot

/-- The zone index one on, and whether it passed its last bound. -/
def Window.nextZone (w : Window) : Nat × Bool := advanceIndex w.descending w.zLo w.zHi w.cursorZone

/-- R104: the inner index moves, the outer one when the inner one passes its bound, and a wrap is both passing theirs. -/
theorem advance_eq (w : Window) :
    w.advance = { w with
      cursorZone := if w.zonesFirst || w.nextSlot.2 then w.nextZone.1 else w.cursorZone
      cursorSlot := if !w.zonesFirst || w.nextZone.2 then w.nextSlot.1 else w.cursorSlot
      wraps := if w.nextSlot.2 && w.nextZone.2 then min 65535 (w.wraps + 1) else w.wraps } := rfl

/-- R104: a value moves the cursor and the wrap count alone. -/
theorem advance_frame (w : Window) :
    w.advance = { w with
      cursorZone := w.advance.cursorZone, cursorSlot := w.advance.cursorSlot, wraps := w.advance.wraps } := rfl

/-- R104: a cursor inside the window stays inside it. -/
theorem cursorInWindow_advance {w : Window} (inside : Rule.CursorInWindow w) : Rule.CursorInWindow w.advance := by
  obtain ⟨zoneLow, zoneHigh, slotLow, slotHigh⟩ := inside
  have zone : w.zLo ≤ w.nextZone.1 ∧ w.nextZone.1 ≤ w.zHi := advanceIndex_inside zoneLow zoneHigh _
  have slot : w.sLo ≤ w.nextSlot.1 ∧ w.nextSlot.1 ≤ w.sHi := advanceIndex_inside slotLow slotHigh _
  rw [advance_eq]
  unfold Rule.CursorInWindow
  dsimp only
  split_ifs <;> omega

/-- R104: the cursor one cell on, in the words of the rule. -/
theorem cursorMoves_advance {w : Window} (inside : Rule.CursorInWindow w) : Rule.CursorMoves w w.advance := by
  obtain ⟨zoneLow, zoneHigh, slotLow, slotHigh⟩ := inside
  rintro inner outer rfl rfl
  refine ⟨if w.zonesFirst then w.advance.cursorZone else w.advance.cursorSlot,
    if w.zonesFirst then w.advance.cursorSlot else w.advance.cursorZone, w.nextSlot.2 && w.nextZone.2,
    by split <;> rfl, by split <;> rfl, rfl, fun rising => ?_, fun falling => ?_⟩
  · have slot : w.nextSlot = _ := (congrArg (advanceIndex · _ _ _) rising).trans (advanceIndex_rising slotHigh)
    have zone : w.nextZone = _ := (congrArg (advanceIndex · _ _ _) rising).trans (advanceIndex_rising zoneHigh)
    rw [advance_eq, slot, zone]
    cases w.zonesFirst <;> simp [and_comm]
  · have slot : w.nextSlot = _ := (congrArg (advanceIndex · _ _ _) falling).trans (advanceIndex_falling slotLow)
    have zone : w.nextZone = _ := (congrArg (advanceIndex · _ _ _) falling).trans (advanceIndex_falling zoneLow)
    rw [advance_eq, slot, zone]
    cases w.zonesFirst <;> simp [and_comm]

/-- R104: the rule speaks of the cursor and of the wrap count alone. -/
theorem CursorMoves.of_same {w v v' : Window} (moves : Rule.CursorMoves w v) (zone : v'.cursorZone = v.cursorZone)
    (slot : v'.cursorSlot = v.cursorSlot) (wraps : v'.wraps = v.wraps) : Rule.CursorMoves w v' := by
  unfold Rule.CursorMoves
  rw [zone, slot, wraps]
  exact moves

end Sys2Proof.Machine
end

section
/-! PROOF. O38 and O39: one value taken, several in order, and the delivery of the cells written. -/

namespace Sys2Proof.Machine

/-! ### One value (R103) -/

/-- R103: whether the value next to be taken is written. -/
def FillProgress.writes (p : FillProgress) : Bool := p.window.passes (gridRead p.window.here p.grid).occupancy

/-- R103: the cell that a value written leaves. -/
def FillProgress.cellAfter (p : FillProgress) (v : FillValue) : Cell :=
  p.window.apply v (gridRead p.window.here p.grid)

/-- R103: the counts of a window once a value has been written or skipped; they saturate. -/
def Window.counted (written : Bool) (w : Window) : Window :=
  { w with
    taken := min 4294967295 (w.taken + 1)
    written := if written then min 4294967295 (w.written + 1) else w.written
    skipped := if written then w.skipped else min 4294967295 (w.skipped + 1) }

/-- R103, R104: a value is written or skipped, and counted; the cursor moves on either way. -/
theorem take_eq (p : FillProgress) (v : FillValue) :
    p.take v = {
      grid := if p.writes then gridWrite p.window.here (p.cellAfter v) p.grid else p.grid
      window := (p.window.counted p.writes).advance
      cells := p.cells ++ if p.writes then [p.window.here] else [] } := by
  have test : p.take v = if p.writes then _ else _ := rfl
  rw [test]
  cases p.writes
  · simp only [Bool.false_eq_true, if_false, List.append_nil]
    rfl
  · rfl

/-- R93, R103: no other cell than the one under the cursor changes. -/
theorem take_grid (p : FillProgress) (v : FillValue) (i : Nat) :
    gridRead i (p.take v).grid =
      if i = p.window.here ∧ p.writes = true then p.cellAfter v else gridRead i p.grid := by
  rw [take_eq]
  cases p.writes
  · simp
  · simp [gridRead_gridWrite]

/-- R104: counting leaves the cursor where it is. -/
theorem counted_advance (written : Bool) (w : Window) :
    (w.counted written).advance = { w.counted written with
      cursorZone := w.advance.cursorZone, cursorSlot := w.advance.cursorSlot, wraps := w.advance.wraps } := rfl

/-- R103: the compare test passes on an equal occupancy. -/
theorem passes_ifEqual {w : Window} (h : w.compare = .ifEqual) (o : Occupancy) :
    w.passes o = decide (w.compareOcc = some o) := by
  rw [Window.passes, h, beq_eq_decide]

/-- R103: the compare test passes on another occupancy. -/
theorem passes_ifDifferent {w : Window} (h : w.compare = .ifDifferent) (o : Occupancy) :
    w.passes o = decide (w.compareOcc ≠ some o) := by
  rw [Window.passes, h, bne, beq_eq_decide, decide_not]

/-! ### Several values (R104) -/

/-- R104: the values of a fill, taken one after another. -/
def FillProgress.takeAll (values : List FillValue) (p : FillProgress) : FillProgress := values.foldl FillProgress.take p

theorem takeAll_cons (v : FillValue) (values : List FillValue) (p : FillProgress) :
    p.takeAll (v :: values) = (p.take v).takeAll values := rfl

/-- What a fill has written before does not matter to the values that follow. -/
theorem takeAll_written_before (before : List Nat) (values : List FillValue) (p : FillProgress) :
    FillProgress.takeAll values { p with cells := before ++ p.cells } =
      { p.takeAll values with cells := before ++ (p.takeAll values).cells } := by
  induction values generalizing p with
  | nil => rfl
  | cons v values ih =>
    have first : FillProgress.take { p with cells := before ++ p.cells } v =
        { p.take v with cells := before ++ (p.take v).cells } := by
      simp only [take_eq, List.append_assoc]
      rfl
    rw [takeAll_cons, first, ih, takeAll_cons]

/-- R105: a cell that is not among those written is as it was. -/
theorem takeAll_unwritten {i : Nat} {values : List FillValue} {p : FillProgress} (h : i ∉ (p.takeAll values).cells) :
    i ∉ p.cells ∧ gridRead i (p.takeAll values).grid = gridRead i p.grid := by
  induction values generalizing p with
  | nil => exact ⟨h, rfl⟩
  | cons v values ih =>
    obtain ⟨absent, same⟩ := ih (p := p.take v) h
    rw [takeAll_cons, same, take_grid]
    rw [take_eq] at absent
    cases writes : p.writes <;> simp_all

/-! ### The delivery of the cells written (R105) -/

/-- R105: what a fill leaves of a zone at a time of day: the cell in use, where the fill wrote it. -/
def FillProgress.delivers (p : FillProgress) (time : Option TimeOfDay) (z : Nat) (r : Zone) : Zone :=
  match time with
  | none => r
  | some now =>
    if cellIndex now.day z (now.minute / 15) ∈ p.cells then
      { r with cell := gridRead (cellIndex now.day z (now.minute / 15)) p.grid }
    else r

/-- R102, R105: the part after a fill, but for its reply. -/
def State.filled (p : FillProgress) (s : State) : State :=
  (s.setSchedule { s.schedule with grid := p.grid, window := some p.window }).deliverWritten p.cells

theorem update_same {α : Type} (t : Table α) : Table.update (fun _ a => a) t = t := by
  induction t with
  | nil => rfl
  | cons p t ih => rw [Table.update, ih]

theorem update_update {α : Type} (f g : Nat → α → α) (t : Table α) :
    Table.update g (Table.update f t) = Table.update (fun k a => g k (f k a)) t := by
  induction t with
  | nil => rfl
  | cons p t ih => rw [Table.update, Table.update, Table.update, ih]

/-- R105: a fill changes the grid, its window and the zones, each as `FillProgress.delivers` says. -/
theorem filled_eq (p : FillProgress) (s : State) :
    s.filled p = { s with
      schedule := { s.schedule with grid := p.grid, window := some p.window }
      zones := Table.update (p.delivers s.schedule.clock.time) s.zones } := by
  unfold State.filled State.deliverWritten State.timeOfDay
  cases valid : s.schedule.clock.time with
  | none =>
    have untouched : Table.update (p.delivers none) s.zones = s.zones := update_same s.zones
    simp only [setSchedule_schedule, valid, untouched]
    rfl
  | some now =>
    simp only [setSchedule_schedule, valid, List.contains_iff_mem]
    rfl

section
variable (values : List FillValue) (first : FillProgress)

/-- The values that follow a fill's first ones, as a fill of their own. -/
theorem takeAll_after :
    first.takeAll values =
      { FillProgress.takeAll values { first with cells := [] } with
        cells := first.cells ++ (FillProgress.takeAll values { first with cells := [] }).cells } := by
  rw [← takeAll_written_before first.cells values { first with cells := [] }, List.append_nil]

/-- R105: a zone that two fills one after another deliver to has what one fill of all their values delivers. -/
theorem delivers_after (time : Option TimeOfDay) (z : Nat) (r : Zone) :
    (FillProgress.takeAll values { first with cells := [] }).delivers time z (first.delivers time z r) =
      (first.takeAll values).delivers time z r := by
  rw [takeAll_after values first]
  cases time with
  | none => rfl
  | some now =>
    have unwritten := takeAll_unwritten (i := cellIndex now.day z (now.minute / 15)) (values := values)
      (p := { first with cells := [] })
    simp only [FillProgress.delivers, List.mem_append]
    by_cases second : cellIndex now.day z (now.minute / 15) ∈ (FillProgress.takeAll values { first with cells := [] }).cells
    · simp only [second, if_true, or_true]
      split <;> rfl
    · simp only [second, if_false, or_false, (unwritten second).2]

/-- R102, R105: two fills leave the part, but for their replies, as one fill of all their values does. -/
theorem filled_filled (s : State) :
    (s.filled first).filled (FillProgress.takeAll values { first with cells := [] }) = s.filled (first.takeAll values) := by
  have zones := funext fun z => funext fun r => delivers_after values first s.schedule.clock.time z r
  simp only [filled_eq, update_update, zones]
  rw [takeAll_after values first]

end

/-! ### SCHED.FILL (R102) -/

/-- R152, R170: in NORMAL, with no save and a level below 3, no common check refuses a SCHED.FILL with a mask and 1 to 16 values. -/
theorem commonCheck_schedFill {mask : Byte} {values : List FillValue} {s : State} (normal : s.host.run = .normal)
    (saving : s.store.saving = false) (level : s.table.level < 3) (masked : mask ≠ 0#8) (low : 1 ≤ values.length)
    (high : values.length ≤ 16) : s.commonCheck (.schedFill mask values) = none := by
  simp [State.commonCheck, requestMalformed, requestServiceOnly, requestLocked, normal, saving, level, masked,
    within_iff.mpr ⟨low, high⟩]

theorem exec_schedFill {tag mask : Byte} {values : List FillValue} {s t : State} {a : Answer} (idle : s.host.phase = .idle)
    (normal : s.host.run = .normal) (saving : s.store.saving = false) (level : s.table.level < 3) (masked : mask ≠ 0#8)
    (low : 1 ≤ values.length) (high : values.length ≤ 16) (served : serveSchedFill mask values s = (t, a)) :
    exec (.schedFill tag mask values) s = .next (t.answering 0x29#8 tag a.result a.payload) :=
  exec_request_served (r := .schedFill mask values) idle (commonCheck_schedFill normal saving level masked low high) served
    tag

theorem hasMask_iff {mask : Byte} {w : Window} : w.hasMask mask = true ↔ Rule.SameMask mask w := by
  simp [Window.hasMask, Rule.SameMask, and_assoc]

/-- R102: no value fails while the mask leaves the occupancy out or every occupancy is in its range. -/
theorem fillFailure_none {w : Window} {values : List FillValue}
    (fits : w.maskOcc = true → ∀ x ∈ values, x.occupancy.toNat ≤ 2) : fillFailure w values = none := by
  unfold fillFailure
  split
  · rename_i masked
    simpa using fits masked
  · rfl

/-- R102: the first value whose occupancy is above 2, by its number from 1. -/
theorem fillFailure_some {w : Window} (masked : w.maskOcc = true) {before after : List FillValue} {v : FillValue}
    (fits : ∀ x ∈ before, x.occupancy.toNat ≤ 2) (bad : 2 < v.occupancy.toNat) :
    fillFailure w (before ++ v :: after) = some (before.length + 1) := by
  have skipped : before.findIdx? (fun x => !decide (x.occupancy.toNat ≤ 2)) = none := by simpa using fits
  rw [fillFailure, if_pos masked, List.findIdx?_append, skipped]
  simp [List.findIdx?_cons, Nat.not_le.mpr bad]

section
variable {mask : Byte} {values : List FillValue} {w : Window} {s : State}

theorem serveSchedFill_noWindow (closed : s.schedule.window = none) :
    serveSchedFill mask values s = refuse s .noWindow := by
  simp [serveSchedFill, closed]

theorem serveSchedFill_mask (opened : s.schedule.window = some w) (other : ¬Rule.SameMask mask w) :
    serveSchedFill mask values s = refuseRange s 0 := by
  simp [serveSchedFill, opened, Bool.eq_false_iff.mpr (mt hasMask_iff.mp other)]

theorem serveSchedFill_range {n : Nat} (opened : s.schedule.window = some w) (same : Rule.SameMask mask w)
    (fails : fillFailure w values = some n) : serveSchedFill mask values s = refuseRange s n := by
  simp [serveSchedFill, opened, hasMask_iff.mpr same, fails]

/-- R102: a fill as it begins. -/
def State.fillStart (w : Window) (s : State) : FillProgress := { grid := s.schedule.grid, window := w, cells := [] }

theorem serveSchedFill_accepted (opened : s.schedule.window = some w) (same : Rule.SameMask mask w)
    (fits : w.maskOcc = true → ∀ x ∈ values, x.occupancy.toNat ≤ 2) :
    ∃ p, p = (s.fillStart w).takeAll values ∧
      serveSchedFill mask values s = accept (s.filled p)
        (enc32 p.cells.length ++ enc32 (values.length - p.cells.length) ++ enc16 p.window.wraps ++
          enc8 p.window.cursorZone ++ enc8 p.window.cursorSlot) := by
  refine ⟨_, rfl, ?_⟩
  simp only [serveSchedFill, opened, hasMask_iff.mpr same, fillFailure_none fits]
  rfl

end

end Sys2Proof.Machine
end

section
/-! PROOF. O38 and O39: a fill of one value, and a fill as the fills of its values one after another. -/

namespace Sys2Proof.Machine

/-! ### A fill of one value (R103 to R105) -/

/-- R103: whether a window writes the cell under its cursor in a grid. -/
def Window.writesIn (w : Window) (grid : Table Cell) : Bool := w.passes (gridRead w.here grid).occupancy

/-- R103: the compare test in the words of the rule. -/
theorem writesIn_eq {w : Window} {grid : Table Cell} {before : Cell} {passes : Bool}
    (hbefore : before = gridRead w.here grid)
    (none : w.compare = .none → passes = true)
    (ifEqual : w.compare = .ifEqual → passes = decide (w.compareOcc = some before.occupancy))
    (ifDifferent : w.compare = .ifDifferent → passes = decide (w.compareOcc ≠ some before.occupancy)) :
    w.writesIn grid = passes := by
  rw [Window.writesIn, ← hbefore]
  cases mode : w.compare with
  | none => rw [none mode, Window.passes, mode]
  | ifEqual => rw [ifEqual mode, passes_ifEqual mode]
  | ifDifferent => rw [ifDifferent mode, passes_ifDifferent mode]

/-- R103: a value in its range is read back from the cell it is written to. -/
theorem apply_occupancy {w : Window} {v : FillValue} (fits : w.maskOcc = true → v.occupancy.toNat ≤ 2) (c : Cell) :
    (w.apply v c).occupancy.toCode = if w.maskOcc then v.occupancy.toNat else c.occupancy.toCode := by
  rw [Window.apply]
  split
  · exact occupancyOf_toCode (fits ‹_›)
  · rfl

/-- R103, R105: what a zone has after a fill that wrote one cell, or none. -/
theorem delivers_one {p : FillProgress} {here : Nat} {after : Cell} {passes : Bool}
    (cells : p.cells = if passes then [here] else [])
    (grid : passes = true → gridRead here p.grid = after) (now : TimeOfDay) (z : Nat) (r : Zone) :
    p.delivers (some now) z r =
      if passes = true ∧ here = cellIndex now.day z (now.minute / 15) then { r with cell := after } else r := by
  rw [FillProgress.delivers, cells]
  cases passes with
  | false => simp
  | true =>
    by_cases inUse : cellIndex now.day z (now.minute / 15) = here
    · simp [inUse, grid]
    · simp [inUse, Ne.symm inUse]

section
variable {mask : Byte} {v : FillValue} {w : Window} {s : State}

/-- R102 to R105: the progress of a fill of one value. -/
theorem serveSchedFill_one (opened : s.schedule.window = some w) (same : Rule.SameMask mask w)
    (fits : w.maskOcc = true → v.occupancy.toNat ≤ 2) :
    ∃ p, p = (s.fillStart w).take v ∧ p.window = (w.counted (w.writesIn s.schedule.grid)).advance ∧
      p.cells = (if w.writesIn s.schedule.grid then [w.here] else []) ∧
      (∀ i, gridRead i p.grid = if i = w.here ∧ w.writesIn s.schedule.grid = true then
        w.apply v (gridRead w.here s.schedule.grid) else gridRead i s.schedule.grid) ∧
      serveSchedFill mask [v] s = accept (s.filled p)
        (enc32 (if w.writesIn s.schedule.grid then 1 else 0) ++ enc32 (if w.writesIn s.schedule.grid then 0 else 1) ++
          enc16 p.window.wraps ++ enc8 p.window.cursorZone ++ enc8 p.window.cursorSlot) := by
  obtain ⟨p, rfl, served⟩ := serveSchedFill_accepted opened same (values := [v]) (by simpa using fits)
  have taken := take_eq (s.fillStart w) v
  have cells : ((s.fillStart w).take v).cells = if w.writesIn s.schedule.grid then [w.here] else [] := by
    rw [taken]
    rfl
  refine ⟨_, rfl, by rw [taken]; rfl, cells, take_grid (s.fillStart w) v, served.trans ?_⟩
  rw [takeAll_cons, FillProgress.takeAll, List.foldl_nil, cells]
  cases w.writesIn s.schedule.grid <;> rfl

end

/-- Settles O38: the refusals in their order, and `serveSchedFill_one`. -/
theorem schedFillWritesOneValueAtTheCursor : Obligations.SchedFillWritesOneValueAtTheCursor := by
  unfold Obligations.SchedFillWritesOneValueAtTheCursor
  refine ⟨fun tag mask values s idle normal saving level masked low high => ?_,
    fun tag mask v w s here before passes idle normal saving level opened masked same fits hhere hbefore hpasses => ?_⟩
  · have answered {t : State} {a : Answer} (served : serveSchedFill mask values s = (t, a)) :=
      exec_schedFill (tag := tag) idle normal saving level masked low high served
    refine ⟨fun closed => answered (serveSchedFill_noWindow closed), fun w opened =>
      ⟨fun other => answered (serveSchedFill_mask opened other), fun same occ before v after split fit bad => ?_⟩⟩
    exact answered (serveSchedFill_range opened same (split ▸ fillFailure_some occ fit bad))
  · obtain ⟨p, -, window, cells, grid, served⟩ := serveSchedFill_one opened same fits
    obtain rfl : here = w.here := hhere
    have test : w.writesIn s.schedule.grid = passes := writesIn_eq hbefore (fun mode => by rw [hpasses, mode])
      (fun mode => by rw [hpasses, mode]) (fun mode => by rw [hpasses, mode])
    rw [test] at window cells grid served
    rw [← hbefore] at grid
    have run := exec_schedFill (values := [v]) (tag := tag) idle normal saving level masked (by simp) (by simp) served
    have filled := filled_eq p s
    refine ⟨_, w.apply v before, p.window, run, ?_, apply_occupancy fits before, rfl, rfl, ?_, ?_⟩
    · rw [filled]
      rfl
    · rw [filled]
      exact grid
    rw [window]
    refine ⟨rfl, rfl, rfl, rfl,
      fun inside => CursorMoves.of_same (cursorMoves_advance inside) rfl rfl rfl, fun z => ?_⟩
    have zones : (s.filled p).zone z = (s.zone z).map (p.delivers s.schedule.clock.time z) := by
      rw [filled]
      exact find_update ..
    refine zones.trans (congrArg (Option.map · (s.zone z)) (funext fun r => ?_))
    cases s.schedule.clock.time with
    | none => rfl
    | some now => exact delivers_one cells (fun writes => by rw [grid, if_pos ⟨rfl, writes⟩]) now z r

/-! ### A fill of several values (R104) -/

/-- R104: values that follow the first one of a fill are taken as a fill of their own that begins where the first one ends. -/
theorem serveSchedFill_after {mask : Byte} {v : FillValue} {values : List FillValue} {w : Window} {s : State}
    (opened : s.schedule.window = some w) (same : Rule.SameMask mask w)
    (fits : w.maskOcc = true → ∀ x ∈ v :: values, x.occupancy.toNat ≤ 2) :
    ∃ next whole payload₁ payload₂ payload,
      serveSchedFill mask [v] s = accept next payload₁ ∧ serveSchedFill mask values next = accept whole payload₂ ∧
        serveSchedFill mask (v :: values) s = accept whole payload ∧
        next = { s with schedule := next.schedule, zones := next.zones } ∧ whole.host = s.host := by
  obtain ⟨p, hp, window, -, -, served⟩ :=
    serveSchedFill_one opened same (v := v) fun occ => fits occ v List.mem_cons_self
  have filled := filled_eq p s
  have left : (s.filled p).schedule.window = some p.window := by rw [filled]
  have sameLeft : Rule.SameMask mask p.window := window ▸ same
  have fitsLeft : p.window.maskOcc = true → ∀ x ∈ values, x.occupancy.toNat ≤ 2 := by
    rw [window]
    exact fun occ x hx => fits occ x (List.mem_cons_of_mem v hx)
  obtain ⟨second, hsecond, servedSecond⟩ := serveSchedFill_accepted left sameLeft fitsLeft
  obtain ⟨all, hall, servedAll⟩ := serveSchedFill_accepted opened same fits
  have start : (s.filled p).fillStart p.window = { p with cells := [] } := by
    rw [filled]
    rfl
  have whole : (s.filled p).filled second = s.filled all := by
    rw [hsecond, hall, start, takeAll_cons, ← hp, filled_filled]
  exact ⟨_, _, _, _, _, served, servedSecond, whole ▸ servedAll, by rw [filled], by rw [whole, filled_eq]⟩

/-- Settles O39: the walk of the cursor, one value by `serveSchedFill_one`, and several by `serveSchedFill_after`. -/
theorem fillsWalkTheWindowInOrder : Obligations.FillsWalkTheWindowInOrder := by
  unfold Obligations.FillsWalkTheWindowInOrder
  refine ⟨fun w inside => ⟨cursorMoves_advance inside, advance_frame w⟩,
    fun tag mask v w s idle normal saving level opened masked same fits => ?_,
    fun tag mask v values w s idle normal saving level opened masked same low high fits => ?_⟩
  · obtain ⟨p, -, window, -, -, served⟩ := serveSchedFill_one opened same fits
    have run := exec_schedFill (values := [v]) (tag := tag) idle normal saving level masked (by simp) (by simp) served
    refine ⟨_, p.window, run, by rw [filled_eq]; rfl, ?_⟩
    rw [window]
    exact ⟨rfl, rfl, rfl, fun inside => ⟨CursorMoves.of_same (cursorMoves_advance inside) rfl rfl rfl,
      cursorInWindow_advance inside⟩⟩
  · obtain ⟨next, whole, payload₁, payload₂, payload, servedFirst, servedRest, servedAll, frame, host⟩ :=
      serveSchedFill_after opened same fits
    have runFirst := exec_schedFill (values := [v]) (tag := tag) idle normal saving level masked (by simp) (by simp) servedFirst
    have runAll := exec_schedFill (tag := tag) idle normal saving level masked (by simp) (by simpa using high) servedAll
    have runRest : exec (.schedFill tag mask values) next = _ :=
      exec_schedFill (by rw [frame, idle]) (by rw [frame, normal]) (by rw [frame, saving]) (by rw [frame]; exact level) masked
        low (Nat.le_of_lt high) servedRest
    have asItWas : { next.answering 0x29#8 tag .accepted payload₁ with host := s.host } = next := by
      rw [frame]
      rfl
    refine ⟨_, _, _, runFirst, (congrArg (exec _) asItWas).trans runRest, runAll, rfl, ?_⟩
    rw [← host]
    rfl

end Sys2Proof.Machine
end

section
/-! PROOF. The law of the fan (R118, R120, R140) unit by unit, and the changes of the part that keep it because no stage starts
and no fan moves. -/

namespace Sys2Proof.Machine

/-! ### The law of one unit -/

/-- R118, R120, R140: what `FanLaw` says of one bound unit. -/
structure BoundUnit.FanSafe (b : BoundUnit) : Prop where
  floor : b.anyOn = true → b.copy.proofLevel ≤ b.fan.position
  held : b.fanHold = true → b.fan.position = 0
  copy : 150 ≤ b.copy.proofLevel

theorem anyOn_iff {b : BoundUnit} : b.anyOn = true ↔ ∃ st, b.isOn st = true := by
  rw [BoundUnit.anyOn, List.any_eq_true]
  exact ⟨fun ⟨st, _, on⟩ => ⟨st, on⟩, fun ⟨st, on⟩ => ⟨st, mem_allStages st, on⟩⟩

theorem anyOn_of_stages {b c : BoundUnit} (stages : c.stages = b.stages) : c.anyOn = b.anyOn :=
  anyOn_congr (isOn_congr stages)

/-- A unit in which nothing has started, with its fan, its copy and its fan-fail hold as they were, or the hold ended. -/
theorem BoundUnit.FanSafe.congr {b c : BoundUnit} (safe : b.FanSafe) (on : ∀ st, c.isOn st = true → b.isOn st = true)
    (position : c.fan.position = b.fan.position) (held : c.fanHold = true → b.fanHold = true) (copy : c.copy = b.copy) :
    c.FanSafe where
  floor running := by
    obtain ⟨st, runs⟩ := anyOn_iff.mp running
    rw [position, copy]
    exact safe.floor (anyOn_iff.mpr ⟨st, on st runs⟩)
  held holds := position.trans (safe.held (held holds))
  copy := copy ▸ safe.copy

/-- A unit with the stage records, the fan position and the copy that it had. -/
theorem BoundUnit.FanSafe.of_stages {b c : BoundUnit} (safe : b.FanSafe) (stages : c.stages = b.stages)
    (position : c.fan.position = b.fan.position) (held : c.fanHold = true → b.fanHold = true) (copy : c.copy = b.copy) :
    c.FanSafe :=
  safe.congr (fun st on => by rwa [isOn_congr stages] at on) position held copy

/-- R120, R121, R162: with every stage off a fan may stop. -/
theorem BoundUnit.FanSafe.of_stopped {b : BoundUnit} (off : b.anyOn = false) (position : b.fan.position = 0)
    (copy : 150 ≤ b.copy.proofLevel) : b.FanSafe :=
  ⟨fun on => absurd on (Bool.eq_false_iff.mp off), fun _ => position, copy⟩

theorem BoundUnit.FanSafe.moved {b c : BoundUnit} (safe : b.FanSafe) (moved : StagesMoved b c)
    (on : ∀ st, c.isOn st = true → b.isOn st = true) : c.FanSafe := by
  obtain ⟨frame, _⟩ := moved
  exact safe.congr on (by rw [frame]) (fun held => by rwa [frame] at held) (by rw [frame])

/-- One stage record written, which is on only where it was. -/
theorem BoundUnit.FanSafe.written {b c : BoundUnit} {st : StageName} {r q : StageRec} (safe : b.FanSafe)
    (moved : StagesMoved b c) (hr : b.stages.get st = some r) (stages : c.stages = b.stages.set st (some q))
    (on : q.state.isOn = true → r.state.isOn = true) : c.FanSafe := by
  refine safe.moved moved fun x runs => ?_
  rw [isOn_of_set stages] at runs
  split at runs
  · subst x
    rw [isOn_of_get hr]
    exact on runs
  · exact runs

theorem withStage_moved (st : StageName) (r : StageRec) (b : BoundUnit) : StagesMoved b (b.withStage st r) := ⟨rfl, rfl⟩

/-- R36: a stage starts only with the fan at its proof level. -/
theorem BoundUnit.FanSafe.grantStage {b : BoundUnit} (safe : b.FanSafe) (air : b.copy.proofLevel ≤ b.fan.position)
    (now : Word) (st : StageName) : (b.grantStage now st).FanSafe := by
  obtain ⟨frame, _⟩ := grantStage_moved now st b
  rw [frame]
  exact ⟨fun _ => air, safe.held, safe.copy⟩

/-! ### The law of the part -/

theorem FanLaw.safe {s : State} (law : FanLaw s) {u : Nat} {b : BoundUnit} (hb : s.unit u = some b) : b.FanSafe :=
  ⟨law.floor u b hb, law.held u b hb, law.copies u b hb⟩

/-- With the descriptors, stored and saved, as they were, the law is that of every unit. -/
theorem FanLaw.of_safe {s t : State} (law : FanLaw s) (form : Table.wf t.units = true)
    (safe : ∀ u c, t.unit u = some c → c.FanSafe) (stored : t.table.descriptors = s.table.descriptors)
    (saved : t.store.image.contents.descriptors = s.store.image.contents.descriptors) : FanLaw t :=
  ⟨form, fun u c hc => (safe u c hc).floor, fun u c hc => (safe u c hc).held, fun u c hc => (safe u c hc).copy,
    stored ▸ law.stored, saved ▸ law.saved⟩

/-- With the units as they were, the law is that of the descriptors, stored and saved. -/
theorem FanLaw.of_units {s t : State} (law : FanLaw s) (units : t.units = s.units)
    (stored : ∀ p ∈ t.table.descriptors, 150 ≤ p.2.proofLevel)
    (saved : ∀ p ∈ t.store.image.contents.descriptors, 150 ≤ p.2.proofLevel) : FanLaw t := by
  have safe (u : Nat) (c : BoundUnit) (hc : t.unit u = some c) : c.FanSafe :=
    law.safe (u := u) (by rwa [State.unit, units] at hc)
  exact ⟨units ▸ law.units, fun u c hc => (safe u c hc).floor, fun u c hc => (safe u c hc).held,
    fun u c hc => (safe u c hc).copy, stored, saved⟩

/-- Two states with the same units and the same descriptors, stored and saved. -/
structure SameFans (s t : State) : Prop where
  units : t.units = s.units
  stored : t.table.descriptors = s.table.descriptors
  saved : t.store.image.contents.descriptors = s.store.image.contents.descriptors

theorem SameFans.refl (s : State) : SameFans s s := ⟨rfl, rfl, rfl⟩

theorem SameFans.trans {s m t : State} (h : SameFans s m) (k : SameFans m t) : SameFans s t :=
  ⟨k.units.trans h.units, k.stored.trans h.stored, k.saved.trans h.saved⟩

theorem SameFans.law {s t : State} (h : SameFans s t) (law : FanLaw s) : FanLaw t :=
  law.of_units h.units (h.stored ▸ law.stored) (h.saved ▸ law.saved)

/-- The operations of the blocks that reach neither the units nor the descriptors, as their frames say. -/
theorem sameFans_of_frame {s t : State} {host : HostLink} {arbiter : Arbiter} {meter : Meter} {zones : Table Zone}
    {schedule : Schedule} {profiles : Table (List Segment)} {roof : Roof}
    (frame : t = { s with
      host := host, arbiter := arbiter, meter := meter, zones := zones, schedule := schedule, profiles := profiles
      roof := roof }) : SameFans s t := by
  subst frame
  exact ⟨rfl, rfl, rfl⟩

theorem sameFans_raise (kind : NoticeKind) (unit : Option Nat) (stage : Option StageName) (zone : Option Nat)
    (value : Option Int) (s : State) : SameFans s (s.raise kind unit stage zone value) := ⟨rfl, rfl, rfl⟩

theorem sameFans_setRoof (r : Roof) (s : State) : SameFans s (s.setRoof r) := ⟨rfl, rfl, rfl⟩

theorem sameFans_useFree (n : Nat) (s : State) : SameFans s (s.useFree n) := ⟨rfl, rfl, rfl⟩

theorem sameFans_foldl {α : Type} {f : State → α → State} (each : ∀ s a, SameFans s (f s a)) (l : List α) (s : State) :
    SameFans s (l.foldl f s) := by
  induction l generalizing s with
  | nil => exact .refl s
  | cons a l ih => exact (each s a).trans (ih _)

theorem fanLaw_foldl {α : Type} {f : State → α → State} (each : ∀ s a, FanLaw s → FanLaw (f s a)) (l : List α) {s : State}
    (law : FanLaw s) : FanLaw (l.foldl f s) := by
  induction l generalizing s with
  | nil => exact law
  | cons a l ih => exact ih (each s a law)

/-! ### One unit, every unit -/

theorem fanLaw_putUnit {u : Nat} {b c : BoundUnit} {s : State} (law : FanLaw s) (hb : s.unit u = some b)
    (safe : c.FanSafe) : FanLaw (s.putUnit u c) := by
  refine law.of_safe (wf_putUnit hb c law.units) (fun v d hd => ?_) rfl rfl
  rw [unit_putUnit] at hd
  split at hd
  · cases hd
    exact safe
  · exact law.safe hd

theorem fanLaw_onUnit (u : Nat) {f : BoundUnit → BoundUnit} {s : State} (law : FanLaw s)
    (safe : ∀ b, s.unit u = some b → b.FanSafe → (f b).FanSafe) : FanLaw (s.onUnit u f) := by
  unfold State.onUnit
  split
  · exact law
  · exact fanLaw_putUnit law ‹_› (safe _ ‹_› (law.safe ‹_›))

theorem fanLaw_update {f : Nat → BoundUnit → BoundUnit} {s : State} (law : FanLaw s)
    (safe : ∀ u b, s.unit u = some b → b.FanSafe → (f u b).FanSafe) : FanLaw (s.setUnits (Table.update f s.units)) := by
  refine law.of_safe (wf_update f law.units) (fun u c hc => ?_) rfl rfl
  rw [setUnits_unit, find_update, Option.map_eq_some_iff] at hc
  obtain ⟨b, hb, rfl⟩ := hc
  exact safe u b hb (law.safe hb)

/-- Stages of the units have moved, and none has started. -/
theorem fanLaw_moved {s t : State} (law : FanLaw s) (form : Table.wf t.units = true) (moved : UnitsMoved s t)
    (on : ∀ u st, t.stageOn u st = true → s.stageOn u st = true) (stored : t.table = s.table)
    (saved : t.store = s.store) : FanLaw t := by
  refine law.of_safe form (fun u c hc => ?_) (by rw [stored]) (by rw [saved])
  have here := moved u
  cases hb : s.unit u with
  | none =>
    simp only [hb, hc] at here
    cases here
  | some b =>
    simp only [hb, hc] at here
    obtain ⟨_, ⟨⟩, change⟩ := here
    refine (law.safe hb).moved change fun st runs => ?_
    rw [← stageOn_of_unit hb]
    exact on u st (by rwa [stageOn_of_unit hc])

theorem fanLaw_onStage (u : Nat) (st : StageName) {f : StageRec → StageRec}
    (move : ∀ r, RestfulMove (some r.state) (some (f r).state)) {s : State} (law : FanLaw s) :
    FanLaw (s.onUnit u (BoundUnit.onStage st f)) :=
  fanLaw_moved law (wf_onUnit u _ law.units) (unitsMoved_onUnit u (onStage_moved st f) s)
    (fun _ _ => (restful_onStage u st move s).on) (by simp) (by simp)

/-! ### Stops and withdrawals (R8, R23, R24, R30) -/

theorem fanLaw_takeStop (u : Nat) (st : StageName) (cause : StopCause) {s : State} (law : FanLaw s) :
    FanLaw (s.takeStop u st cause) :=
  fanLaw_moved law ((restful_takeStop u st cause s).form law.units) (unitsMoved_takeStop u st cause s)
    (fun _ _ => (restful_takeStop u st cause s).on) (by rw [takeStop_frame]) (by rw [takeStop_frame])

theorem fanLaw_stopAll (u : Nat) (cause : StopCause) (stages : List StageName) {s : State} (law : FanLaw s) :
    FanLaw (s.stopAll u cause stages) := fanLaw_foldl (fun _ st => fanLaw_takeStop u st cause) stages law

theorem fanLaw_withdraw (u : Nat) (st : StageName) {s : State} (law : FanLaw s) : FanLaw (s.withdraw u st) :=
  fanLaw_moved law (wf_withdraw u st law.units) (unitsMoved_withdraw u st s) (keeping_withdraw u st s).on
    (by rw [withdraw_frame]) (by rw [withdraw_frame])

theorem fanLaw_withdrawAll (es : List Entry) {s : State} (law : FanLaw s) : FanLaw (s.withdrawAll es) :=
  fanLaw_foldl (f := fun s (e : Entry) => s.withdraw e.unit e.stage) (fun _ e => fanLaw_withdraw e.unit e.stage) es law

theorem fanLaw_stopEverything (cause : StopCause) {s : State} (law : FanLaw s) : FanLaw (s.stopEverything cause) :=
  fanLaw_foldl (fun _ (p : Nat × BoundUnit) => fanLaw_stopAll p.1 cause p.2.onStages) _ (fanLaw_withdrawAll _ law)

/-- R23, R24: stopping everything at once leaves no stage on. -/
theorem stopEverything_off {cause : StopCause} (immediate : cause.stopClass = .immediate) {s : State} (law : FanLaw s)
    {u : Nat} {b : BoundUnit} (hb : (s.stopEverything cause).unit u = some b) : b.anyOn = false := by
  refine Bool.eq_false_iff.mpr fun running => ?_
  obtain ⟨st, on⟩ := anyOn_iff.mp running
  rw [← stageOn_of_unit hb] at on
  obtain ⟨before, apart⟩ := stopListed_on immediate on
  obtain ⟨c, hc, runs⟩ := stageOn_iff.mp before
  have form := (fanLaw_withdrawAll s.arbiter.queue law).units
  have listed := (mem_iff_find form u c).mpr ⟨(lt_and_put_of_find form hc).1, hc⟩
  exact apart (u, c) listed ⟨rfl, List.mem_filter.mpr ⟨mem_allStages st, runs⟩⟩

/-! ### Grants and joins (R28, R36, R37) -/

/-- R36: an entry that is granted has passed the test of its unit's airflow. -/
theorem fanLaw_grant {e : Entry} {s : State} (law : FanLaw s) (candidate : s.skipReason e = none) : FanLaw (s.grant e) := by
  obtain ⟨b, hb, _, _, air, _⟩ := candidate_of_skipReason candidate
  refine law.of_safe (wf_grant e law.units) (fun v c hc => ?_) (by rw [grant_frame]) (by rw [grant_frame])
  rw [grant_unit] at hc
  split at hc
  · rw [hb, Option.map_some, Option.some_inj] at hc
    subst hc
    exact (law.safe hb).grantStage air s.uptime e.stage
  · exact law.safe hc

theorem fanLaw_attempt (cause : AttemptCause) {s : State} (law : FanLaw s) : FanLaw (s.attempt cause) := by
  have recorded (a : AttemptRec) {s : State} (law : FanLaw s) : FanLaw (s.recordAttempt a) :=
    SameFans.law (s := s) ⟨rfl, rfl, rfl⟩ law
  obtain ⟨skipped, rest, _, _, candidate, walk⟩ := walk_parts s s.arbiter.queue
  simp only [State.attempt, walk]
  cases rest with
  | nil => exact recorded _ law
  | cons e behind =>
    simp only [List.head?_cons]
    split
    · exact recorded _ law
    · exact recorded _ (fanLaw_grant law (candidate e behind rfl))

theorem fanLaw_request (u : Nat) (st : StageName) {s : State} (law : FanLaw s) : FanLaw (s.request u st) := by
  cases hb : s.unit u with
  | none => simpa only [State.request, hb] using law
  | some b =>
    cases hr : b.stages.get st with
    | none => simpa only [State.request, hb, hr] using law
    | some r =>
      rw [request_eq hb hr]
      split
      · have queued : FanLaw (s.putUnit u (b.withStage st { r with state := .queued })) :=
          fanLaw_putUnit law hb ((law.safe hb).written (withStage_moved st _ b) hr rfl nofun)
        have placed : SameFans (s.putUnit u (b.withStage st { r with state := .queued })) (s.joined u st b r) :=
          ⟨rfl, rfl, rfl⟩
        exact fanLaw_attempt .join (placed.law queued)
      · exact law

end Sys2Proof.Machine
end

section
/-! PROOF. What the zones, the demand meter, the stage controller's expiries and the ramp unit keep of the law of the fan. -/

namespace Sys2Proof.Machine

/-! ### Zones (chapter 4) -/

theorem fanLaw_modeStep (z : Nat) {s : State} (law : FanLaw s) : FanLaw (s.modeStep z) := by
  have entered (r : Zone) : FanLaw (s.putZone z r) := (sameFans_of_frame rfl).law law
  unfold State.modeStep
  split
  · exact law
  · split
    · split
      · exact entered _
      · exact law
    · split
      · exact fanLaw_withdrawAll _ (entered _)
      · exact law

theorem fanLaw_reclaimStep (z short : Nat) {s : State} (law : FanLaw s) : FanLaw (s.reclaimStep z short) := by
  unfold State.reclaimStep
  split
  · exact law
  · exact fanLaw_foldl (fun _ (p : Nat × StageName) => fanLaw_onStage p.1 p.2 reclaim_move) _
      ((sameFans_of_frame rfl).law law)

theorem fanLaw_requestStep (z : Nat) {s : State} (law : FanLaw s) : FanLaw (s.requestStep z) := by
  unfold State.requestStep
  split
  · exact law
  · split
    · split
      · exact law
      · split
        · exact (sameFans_of_frame rfl).law (fanLaw_request _ _ law)
        · exact law
    · exact law

theorem fanLaw_giveUpStep (z : Nat) {s : State} (law : FanLaw s) : FanLaw (s.giveUpStep z) := by
  unfold State.giveUpStep
  split
  · exact law
  · split
    · exact fanLaw_withdraw _ _ law
    · split
      · exact law
      · rename_i c _
        have stopped := fanLaw_takeStop c.unit c.stage .satisfied law
        dsimp only
        split
        · exact (sameFans_of_frame rfl).law stopped
        · exact stopped

theorem fanLaw_matchStep (z : Nat) {s : State} (law : FanLaw s) : FanLaw (s.matchStep z) := by
  unfold State.matchStep
  split
  · exact law
  split
  · exact law
  dsimp only
  split
  · have reclaimed {short : Nat} := fanLaw_reclaimStep z short law
    split
    · exact fanLaw_requestStep z reclaimed
    · exact reclaimed
  · split
    · exact fanLaw_giveUpStep z law
    · exact law

/-- R86: an evaluation moves the targets of the channels, not their positions. -/
theorem BoundUnit.FanSafe.takeTargets {b : BoundUnit} (safe : b.FanSafe) (r : Zone) : (b.takeTargets r).FanSafe := by
  unfold BoundUnit.takeTargets
  rw [rederiveGas_frame]
  exact safe.of_stages rfl rfl id rfl

theorem fanLaw_channelStep (z : Nat) {s : State} (law : FanLaw s) : FanLaw (s.channelStep z) := by
  unfold State.channelStep
  split
  · exact law
  · exact fanLaw_foldl (fun _ u law => fanLaw_onUnit u law fun _ _ safe => safe.takeTargets _) _ law

theorem fanLaw_evaluate (z : Nat) {s : State} (law : FanLaw s) : FanLaw (s.evaluate z) := by
  have read : SameFans s (((s.refreshCell z).temperatureStep z).onZone z Zone.withSetpoints) :=
    ((sameFans_of_frame (refreshCell_frame z s)).trans (sameFans_of_frame (temperatureStep_frame z _))).trans
      (sameFans_of_frame (onZone_frame z _ _))
  have law := read.law law
  unfold State.evaluate
  dsimp only
  split
  · have levelled := (sameFans_of_frame (levelStep_frame z _)).law (fanLaw_modeStep z law)
    exact fanLaw_channelStep z (fanLaw_matchStep z levelled)
  · exact law

theorem fanLaw_zoneEvaluation {zone : Nat} {s t : State} (law : FanLaw s) (run : exec (.zoneEvaluation zone) s = .next t) :
    FanLaw t := by
  cases run
  split
  · exact law
  split
  · exact fanLaw_evaluate zone ((sameFans_of_frame rfl).law law)
  · exact law

/-! ### The demand meter (chapter 3) -/

theorem fanLaw_shed (c : ShedCandidate) {s : State} (law : FanLaw s) : FanLaw (s.shed c) :=
  (sameFans_of_frame rfl).law (fanLaw_takeStop c.unit c.stage .shed law)

theorem sameFans_recordOverrun (load : Nat) (s : State) : SameFans s (s.recordOverrun load) := by
  unfold State.recordOverrun
  dsimp only
  split <;> exact ⟨rfl, rfl, rfl⟩

theorem fanLaw_accumulationEvent {s t : State} (law : FanLaw s) (run : exec .accumulationEvent s = .next t) : FanLaw t := by
  have added : FanLaw s.metered := (sameFans_of_frame rfl).law law
  rw [execAccumulationEvent_eq] at run
  cases run
  split
  · exact (sameFans_of_frame (closeInterval_frame ..)).law added
  split
  · split
    · exact fanLaw_shed _ added
    · exact fanLaw_attempt .meter ((sameFans_recordOverrun ..).law added)
  · exact fanLaw_attempt .meter added

theorem fanLaw_staggerExpiry {s t : State} (law : FanLaw s) (run : exec .staggerExpiry s = .next t) : FanLaw t := by
  rw [execStaggerExpiry_eq] at run
  cases run
  split
  · exact fanLaw_attempt .stagger (SameFans.law (s := s) ⟨rfl, rfl, rfl⟩ law)
  · exact law

/-! ### The stage controller's expiries (R7, R11, R15, R16) -/

theorem fanLaw_minOnExpiry {u : Nat} {st : StageName} {s t : State} (law : FanLaw s)
    (run : exec (.minOnExpiry u st) s = .next t) : FanLaw t := by
  cases run
  split
  · exact law
  rename_i b hb
  split
  · exact law
  rename_i r hr
  split
  · dsimp only
    split
    · exact fanLaw_putUnit law hb ((law.safe hb).written (putStage_moved ..) hr (putStage_stages ..) nofun)
    · exact fanLaw_putUnit law hb ((law.safe hb).written (withStage_moved ..) hr rfl id)
  · exact law

theorem fanLaw_minOffExpiry {u : Nat} {st : StageName} {s t : State} (law : FanLaw s)
    (run : exec (.minOffExpiry u st) s = .next t) : FanLaw t := by
  cases run
  refine fanLaw_onStage u st (fun r => ?_) law
  split
  · dsimp only
    split
    · rename_i rest
      rw [rest]
      exact .of_idle nofun rfl
    · exact .refl _
  · exact .refl _

theorem fanLaw_provingExpiry {u : Nat} {st : StageName} {s t : State} (law : FanLaw s)
    (run : exec (.provingExpiry u st) s = .next t) : FanLaw t := by
  cases run
  split
  · exact law
  rename_i b hb
  split
  · exact law
  rename_i r hr
  split
  · have ended : FanLaw (s.putUnit u (b.withStage st { r with proving := .stopped })) :=
      fanLaw_putUnit law hb ((law.safe hb).written (withStage_moved ..) hr rfl id)
    dsimp only
    split
    · split
      · exact fanLaw_takeStop _ _ _ ended
      · exact fanLaw_putUnit law hb ((law.safe hb).written (withStage_moved ..) hr rfl id)
    · exact ended
  · exact law

theorem fanLaw_tripCountClear {u : Nat} {st : StageName} {s t : State} (law : FanLaw s)
    (run : exec (.tripCountClear u st) s = .next t) : FanLaw t := by
  cases run
  refine fanLaw_onStage u st (fun r => ?_) law
  split
  · exact .refl _
  · split <;> exact .refl _

/-! ### The ramp unit (R115, R116, R118 to R120) -/

/-- R116: a step ends no lower than the lower of where it began and where it heads. -/
theorem le_stepPosition {profiles : Table (List Segment)} {k p g n : Nat} (begins : n ≤ p) (heads : n ≤ g) :
    n ≤ stepPosition profiles k p g := by
  unfold stepPosition
  split
  · exact begins
  split
  · exact heads
  split
  · exact begins
  split
  · exact le_min heads (begins.trans (Nat.le_add_right ..))
  · exact heads.trans (le_max_left ..)

/-- R118: while a stage is on, in SHUTDOWN too, a fan that is not held heads for its proof level or above. -/
theorem proofLevel_le_fanEffective {b : BoundUnit} (on : b.anyOn = true) (free : b.fanHold = false) (run : RunState) :
    b.copy.proofLevel ≤ b.fanEffective run := by
  simp [BoundUnit.fanEffective, BoundUnit.floorApplies, on, free]

/-- R120: a held fan is at its effective target. -/
theorem stepPosition_self (profiles : Table (List Segment)) (k p : Nat) : stepPosition profiles k p p = p := if_pos rfl

/-- R140, R120: a unit with a stage on has no fan-fail hold, since its fan is above 0. -/
theorem BoundUnit.FanSafe.free {b : BoundUnit} (safe : b.FanSafe) (on : b.anyOn = true) : b.fanHold = false := by
  refine Bool.eq_false_iff.mpr fun held => ?_
  have stands := (safe.copy.trans (safe.floor on)).trans_eq (safe.held held)
  omega

theorem BoundUnit.FanSafe.rampStep {b : BoundUnit} (safe : b.FanSafe) (run : RunState) (profiles : Table (List Segment)) :
    (b.rampStep run profiles).FanSafe := by
  unfold BoundUnit.rampStep
  split
  · exact safe
  · refine ⟨fun on => ?_, fun held => ?_, safe.copy⟩
    · have on : b.anyOn = true := on
      exact le_stepPosition (safe.floor on) (proofLevel_le_fanEffective on (safe.free on) run)
    · have held : b.fanHold = true := held
      have target : b.fanEffective run = 0 := if_pos held
      change stepPosition profiles b.fan.profile b.fan.position (b.fanEffective run) = 0
      rw [safe.held held, target, stepPosition_self]

theorem fanLaw_rampStep {s t : State} (law : FanLaw s) (run : exec .rampStep s = .next t) : FanLaw t := by
  cases run
  exact fanLaw_update law fun _ _ _ safe => safe.rampStep ..

theorem fanLaw_purgeExpiry {u : Nat} {s t : State} (law : FanLaw s) (run : exec (.purgeExpiry u) s = .next t) :
    FanLaw t := by
  cases run
  refine fanLaw_onUnit u law fun b _ safe => ?_
  split
  · exact safe.of_stages rfl rfl id rfl
  · exact safe

theorem fanLaw_holdOffExpiry {u : Nat} {s t : State} (law : FanLaw s) (run : exec (.holdOffExpiry u) s = .next t) :
    FanLaw t := by
  cases run
  refine fanLaw_onUnit u law fun b _ safe => ?_
  split
  · exact safe.of_stages rfl rfl id rfl
  · exact safe

/-- R2: a second moves timers alone. -/
theorem BoundUnit.FanSafe.tick {b : BoundUnit} (safe : b.FanSafe) : b.tick.FanSafe := by
  refine safe.congr (fun st on => ?_) rfl id rfl
  rw [BoundUnit.isOn, stageIs_eq] at on ⊢
  exact (tick_move b st).on on

theorem fanLaw_secondPasses {s : State} (law : FanLaw s) : FanLaw (secondPasses s) := by
  have ticked := fanLaw_update (f := fun _ b => b.tick) law fun _ _ _ safe => safe.tick
  exact law.of_safe ticked.units (fun u _ hc => ticked.safe (u := u) hc) rfl rfl

/-! ### Fallback (R162) -/

/-- R162: at fallback every stage of the unit stops before its fan does. -/
theorem fanLaw_takeFallback (u : Nat) {s : State} (law : FanLaw s) : FanLaw (s.takeFallback u) := by
  unfold State.takeFallback
  split
  · exact law
  rename_i b hb
  split
  · refine fanLaw_onUnit u (fanLaw_stopAll u .unitLost b.onStages law) fun c hc safe => ?_
    have off : c.anyOn = false := by
      refine Bool.eq_false_iff.mpr fun running => ?_
      obtain ⟨st, on⟩ := anyOn_iff.mp running
      rw [← stageOn_of_unit hc] at on
      obtain ⟨before, apart⟩ := stopAll_on rfl on
      rw [stageOn_of_unit hb] at before
      exact apart ⟨rfl, List.mem_filter.mpr ⟨mem_allStages st, before⟩⟩
    exact .of_stopped off rfl safe.copy
  · exact law

end Sys2Proof.Machine
end

section
/-! PROOF. The law of the fan under the roof bus (R120, R134, R160 to R165) and the unit table (R141 to R149). -/

namespace Sys2Proof.Machine

/-! ### The contents of a reply (R135, R164) -/

theorem fanLaw_takeProof (u : Nat) (st : StageName) {s : State} (law : FanLaw s) : FanLaw (s.takeProof u st) := by
  unfold State.takeProof
  split
  · exact law
  rename_i b hb
  split
  · refine fanLaw_putUnit law hb ((law.safe hb).moved (onStage_moved ..) fun x on => ?_)
    rw [BoundUnit.isOn, stageIs_eq] at on ⊢
    exact (onStage_move prove_move st x b).on on
  split
  · exact fanLaw_takeStop _ _ _ law
  · exact law

theorem fanLaw_softLimitAction (u : Nat) (heat : Bool) {s : State} (law : FanLaw s) : FanLaw (s.softLimitAction u heat) := by
  unfold State.softLimitAction
  split
  · exact law
  rename_i b hb
  split
  · have armed : FanLaw (s.putUnit u b.startHoldOff) := fanLaw_putUnit law hb ((law.safe hb).of_stages rfl rfl id rfl)
    dsimp only
    split
    · exact fanLaw_onUnit u armed fun c _ safe => safe.of_stages rfl rfl id rfl
    split
    · exact fanLaw_takeStop _ _ _ armed
    · exact armed
  · exact law

theorem fanLaw_takeEvent (u : Nat) (e : ReplyEvent) {s : State} (law : FanLaw s) : FanLaw (s.takeEvent u e) := by
  cases e with
  | proof st => exact fanLaw_takeProof u st law
  | trip st => exact fanLaw_takeStop u st .hardLimit law
  | flame st => exact fanLaw_takeStop u st .hardLimit law
  | fan st => exact fanLaw_takeStop u st .fanFail law
  | soft heat => exact fanLaw_softLimitAction u heat law

theorem fanLaw_takeEvents (u : Nat) (events : List ReplyEvent) {s : State} (law : FanLaw s) :
    FanLaw (s.takeEvents u events) := fanLaw_foldl (fun _ e => fanLaw_takeEvent u e) events law

theorem restful_takeEvents (u : Nat) (events : List ReplyEvent) (s : State) : Restful s (s.takeEvents u events) :=
  restful_foldl (fun s e => restful_takeEvent u e s) events s

/-- R134: a stage that FAN_FAIL reaches is off after the reply, whatever else the reply holds for it and in whatever order. -/
theorem takeEvents_fan_off {u : Nat} {st : StageName} {events : List ReplyEvent} (member : .fan st ∈ events) (s : State) :
    (s.takeEvents u events).stageOn u st = false := by
  induction events generalizing s with
  | nil => cases member
  | cons e rest ih =>
    rcases List.mem_cons.mp member with rfl | member
    · refine Bool.eq_false_iff.mpr fun on => ?_
      have before := (restful_takeEvents u rest (s.takeStop u st .fanFail)).on on
      exact Bool.false_ne_true ((takeStop_stageOn rfl s).symm.trans before)
    · exact ih member (s.takeEvent u e)

/-- R134: FAN_FAIL reaches every stage of the unit that is on. -/
theorem fan_mem_replyEvents {b : BoundUnit} (fails : b.limit.fanFail = true) {st : StageName} (on : b.isOn st = true)
    (n : Nat) : .fan st ∈ b.replyEvents n := by
  rw [(replyEvents_perm n b).mem_iff]
  simp [BoundUnit.stageEvents, fails, on, mem_allStages]

/-! ### Good replies (R134, R160, R164) -/

/-- R120, R160, R164: a reply heard ends a fan-fail hold or leaves it. -/
theorem BoundUnit.FanSafe.heard {b : BoundUnit} (safe : b.FanSafe) (now : Word) (r : BoardReply) :
    (b.heard now r).FanSafe :=
  safe.of_stages rfl rfl (fun held => (Bool.and_eq_true_iff.mp held).1) rfl

theorem fanLaw_hear {u : Nat} {b : BoundUnit} {s : State} (law : FanLaw s) (hb : s.unit u = some b) (r : BoardReply) :
    FanLaw (s.hear u r b) := by
  unfold State.hear
  split
  · exact fanLaw_putUnit ((sameFans_raise ..).law law) hb ((law.safe hb).heard ..)
  · exact fanLaw_putUnit law hb ((law.safe hb).heard ..)

theorem fanLaw_rebuildUnexpected (u : Nat) {s : State} (law : FanLaw s) : FanLaw (s.rebuildUnexpected u) := by
  unfold State.rebuildUnexpected
  split
  · exact law
  · rename_i b hb
    dsimp only
    have rebuilt : FanLaw (s.putUnit u b.rebuilt) := fanLaw_putUnit law hb ((law.safe hb).of_stages rfl rfl id rfl)
    exact (sameFans_useFree ..).law ((sameFans_foldl (fun s st => sameFans_raise ..) _ _).law rebuilt)

/-- R134: a reply with FAN_FAIL stops the fan once it has stopped every stage of the unit. -/
theorem fanLaw_goodReply (u : Nat) (r : BoardReply) {s : State} (law : FanLaw s) : FanLaw (s.goodReply u r) := by
  cases hb : s.unit u with
  | none =>
    simp only [State.goodReply, hb]
    exact law
  | some b =>
    rw [goodReply_eq hb]
    have taken (events : List ReplyEvent) : FanLaw ((s.hear u r b).takeEvents u events) :=
      fanLaw_takeEvents u events (fanLaw_hear law hb r)
    refine fanLaw_rebuildUnexpected u (fanLaw_onUnit u ((sameFans_useFree ..).law (taken _)) fun c hc safe => ?_)
    rw [useFree_unit] at hc
    unfold BoundUnit.fanFailStop
    split
    · rename_i fails
      obtain ⟨d, hd, same⟩ := takeEvents_bound (hear_unit u r b s) ((b.heard s.uptime r).replyEvents s.freeCount)
      obtain rfl : c = d := Option.some.inj (hc.symm.trans hd)
      refine .of_stopped (Bool.eq_false_iff.mpr fun running => ?_) rfl safe.copy
      obtain ⟨st, on⟩ := anyOn_iff.mp running
      have on : c.isOn st = true := on
      rw [← stageOn_of_unit hc] at on
      have before := (restful_takeEvents u _ (s.hear u r b)).on on
      rw [stageOn_of_unit (hear_unit u r b s)] at before
      exact Bool.false_ne_true ((takeEvents_fan_off (fan_mem_replyEvents (same ▸ fails) before _) _).symm.trans on)
    · exact safe

/-! ### Misses and visits (R158 to R161) -/

theorem fanLaw_declareLost {u : Nat} {b c : BoundUnit} {s : State} (law : FanLaw s) (hc : s.unit u = some c)
    (safe : b.FanSafe) : FanLaw (s.declareLost u b) := by
  have lost : FanLaw (s.putUnit u { b.setLink .lost with lostOn := b.onSet }) :=
    fanLaw_putUnit law hc (safe.of_stages rfl rfl id rfl)
  exact fanLaw_takeFallback u (fanLaw_withdrawAll _ ((sameFans_raise ..).law lost))

theorem fanLaw_miss (u : Nat) {s : State} (law : FanLaw s) : FanLaw (s.miss u) := by
  unfold State.miss
  split
  · exact law
  rename_i b hb
  have safe := law.safe hb
  dsimp only
  split
  · exact fanLaw_putUnit law hb (safe.of_stages rfl rfl id rfl)
  · exact fanLaw_putUnit law hb (safe.of_stages rfl rfl id rfl)
  · exact fanLaw_putUnit law hb (safe.of_stages rfl rfl id rfl)
  split
  · exact fanLaw_putUnit law hb (safe.of_stages rfl rfl id rfl)
  · exact fanLaw_declareLost law hb (safe.of_stages rfl rfl id rfl)

theorem fanLaw_visitEnd {received : List Byte} {s t : State} (law : FanLaw s) (run : exec (.visitEnd received) s = .next t) :
    FanLaw t := by
  cases run
  split
  · exact law
  · dsimp only
    refine (sameFans_of_frame (nextVisit_frame _)).law ?_
    split
    · split
      · exact fanLaw_goodReply _ _ law
      · exact fanLaw_miss _ law
    · exact law

theorem sameFans_pollCycleStart {ms : Nat} {s t : State} (run : exec (.pollCycleStart ms) s = .next t) : SameFans s t := by
  cases run
  split
  · exact (sameFans_setRoof ..).trans (sameFans_of_frame (nextVisit_frame _))
  · exact .refl s

/-! ### Binding, freeing and refreshing (R146, R148, R149) -/

theorem mem_of_find {α : Type} {k : Nat} {a : α} {t : Table α} (found : Table.find k t = some a) : (k, a) ∈ t := by
  induction t with
  | nil => cases found
  | cons p t ih =>
    obtain ⟨j, c⟩ := p
    unfold Table.find at found
    split at found
    · cases found
      subst j
      exact List.mem_cons_self
    · exact List.mem_cons_of_mem _ (ih found)

theorem FanLaw.descriptor {s : State} (law : FanLaw s) {u : Nat} {d : Descriptor} (hd : s.descriptor u = some d) :
    150 ≤ d.proofLevel := law.stored (u, d) (mem_of_find hd)

theorem anyOn_of_idle {b : BoundUnit} (idle : ∀ st, (b.stateOf st).any StageState.isEngaged = false) : b.anyOn = false := by
  refine Bool.eq_false_iff.mpr fun running => ?_
  obtain ⟨st, on⟩ := anyOn_iff.mp running
  rw [BoundUnit.isOn, stageIs_eq, Option.any_eq_true] at on
  obtain ⟨a, ha, runs⟩ := on
  have engaged := idle st
  rw [ha, Option.any_some] at engaged
  exact Bool.false_ne_true (engaged.symm.trans (isEngaged_iff.mpr (.inr runs)))

/-- R146: a unit is made with its stages off and its fan at 0. -/
theorem make_fanSafe (z : Nat) {d : Descriptor} (level : 150 ≤ d.proofLevel) (counters : StageName → Nat × Nat) :
    (BoundUnit.make z d counters).FanSafe := .of_stopped (anyOn_of_idle (make_idle z d counters)) rfl level

theorem bindUnit_unit (u z v : Nat) (d : Descriptor) (counters : StageName → Nat × Nat) (s : State) :
    (s.bindUnit u z d counters).unit v = if v = u then some (BoundUnit.make z d counters) else s.unit v := by
  rw [State.bindUnit, onZone_unit, unit_putUnit]

theorem fanLaw_bindUnit {u : Nat} (z : Nat) {d : Descriptor} (counters : StageName → Nat × Nat) {s : State} (law : FanLaw s)
    (number : 0 < u) (level : 150 ≤ d.proofLevel) : FanLaw (s.bindUnit u z d counters) := by
  have form : Table.wf (s.bindUnit u z d counters).units = true := by
    rw [State.bindUnit, onZone_units]
    exact wf_put number _ law.units
  refine law.of_safe form (fun v c hc => ?_) (by rw [bindUnit_frame]) (by rw [bindUnit_frame])
  rw [bindUnit_unit] at hc
  split at hc
  · cases hc
    exact make_fanSafe z level counters
  · exact law.safe hc

theorem fanLaw_freeUnit (u : Nat) {s : State} (law : FanLaw s) : FanLaw (s.freeUnit u) := by
  unfold State.freeUnit
  split
  · exact law
  · refine (sameFans_of_frame (onZone_frame ..)).law (law.of_safe (wf_erase u law.units) (fun v c hc => ?_) rfl rfl)
    rw [setRoof_unit, setUnits_unit, find_erase] at hc
    split at hc
    · cases hc
    · exact law.safe (u := v) hc

/-- R149: a unit takes a new copy while none of its stages is engaged. -/
theorem refresh_fanSafe {b : BoundUnit} (safe : b.FanSafe) (idle : b.anyEngaged = false) {d : Descriptor}
    (level : 150 ≤ d.proofLevel) : (b.refresh d).FanSafe := by
  have off : (b.refresh d).anyOn = false := anyOn_of_idle fun st => by
    rw [BoundUnit.stateOf, BoundUnit.refresh, Six_get_ofFn]
    refine refreshStage_idle d st ?_
    have none := List.any_eq_false.mp idle st (mem_allStages st)
    rwa [stageIs_eq, Bool.not_eq_true] at none
  exact ⟨fun on => absurd on (Bool.eq_false_iff.mp off), safe.held, level⟩

theorem fanLaw_serveUnitBind (unit zone : Byte) {s : State} (law : FanLaw s) : FanLaw (serveUnitBind unit zone s).1 := by
  unfold serveUnitBind
  split
  · exact law
  · exact law
  · rename_i passes
    obtain ⟨number, _⟩ := bindFailure_none passes
    split
    · exact law
    · exact fanLaw_bindUnit _ _ law (unitNumber_iff.mp number).1 (law.descriptor ‹_›)

theorem fanLaw_serveUnitFree (unit : Byte) {s : State} (law : FanLaw s) : FanLaw (serveUnitFree unit s).1 := by
  unfold serveUnitFree
  split
  · exact law
  split
  · exact law
  split
  · exact law
  · exact fanLaw_freeUnit _ law

theorem fanLaw_serveUnitRefresh (unit : Byte) {s : State} (law : FanLaw s) : FanLaw (serveUnitRefresh unit s).1 := by
  unfold serveUnitRefresh
  dsimp only
  split
  · exact law
  split
  · rename_i b d hb hd
    split
    · exact law
    rename_i idle
    split
    · exact law
    split
    · exact law
    have refreshed : FanLaw (s.putUnit unit.toNat (b.refresh d)) :=
      fanLaw_putUnit law hb (refresh_fanSafe (law.safe hb) (Bool.eq_false_iff.mpr idle) (law.descriptor hd))
    unfold accept
    dsimp only
    split
    · exact fanLaw_takeFallback _ refreshed
    · exact refreshed
  · exact law

theorem fanLaw_serveStageUnlock (unit stage : Byte) {s : State} (law : FanLaw s) :
    FanLaw (serveStageUnlock unit stage s).1 := by
  unfold serveStageUnlock
  split
  · split
    · exact law
    · split
      · exact law
      · split
        · exact fanLaw_putUnit law ‹_› ((law.safe ‹_›).written (withStage_moved ..) ‹_› rfl nofun)
        · exact law
  · exact law

/-! ### Stored descriptors (R140 to R142) -/

/-- R140: of all fields only field 15 is the proof level, and no value below 150 fits it. -/
theorem write_proofLevel {id v : Nat} (fits : fieldFits id v = true) {d : Descriptor} (level : 150 ≤ d.proofLevel) :
    150 ≤ (d.write id v).proofLevel := by
  by_cases proof : id = 15
  · subst proof
    have range : within 150 1000 v = true := fits
    simp only [within, Bool.and_eq_true, decide_eq_true_eq] at range
    exact range.1
  · have same : (d.write id v).proofLevel = d.proofLevel := by
      unfold Descriptor.write
      split
      case h_15 => exact absurd rfl proof
      all_goals rfl
    rwa [same]

/-- R141: every pair of a list that passes the check fits its field. -/
theorem pairFailure_none {seen : List Nat} {pairs : List (Byte × Half)} (passes : pairFailure seen pairs = none) :
    ∀ p ∈ pairs, fieldFits p.1.toNat p.2.toNat = true := by
  induction pairs generalizing seen with
  | nil => exact List.forall_mem_nil _
  | cons p rest ih =>
    unfold pairFailure at passes
    split at passes
    · rename_i first
      exact List.forall_mem_cons.mpr ⟨(Bool.and_eq_true_iff.mp first).1, ih passes⟩
    · cases passes

theorem writeAll_proofLevel {pairs : List (Byte × Half)} (fit : ∀ p ∈ pairs, fieldFits p.1.toNat p.2.toNat = true)
    {d : Descriptor} (level : 150 ≤ d.proofLevel) : 150 ≤ (d.writeAll pairs).proofLevel := by
  induction pairs generalizing d with
  | nil => exact level
  | cons p rest ih =>
    obtain ⟨first, others⟩ := List.forall_mem_cons.mp fit
    exact ih others (write_proofLevel first level)

theorem putPairs_proofLevel {pairs : List (Byte × Half)} (fit : ∀ p ∈ pairs, fieldFits p.1.toNat p.2.toNat = true)
    (u : Nat) {t : UnitTable} (stored : ∀ p ∈ t.descriptors, 150 ≤ p.2.proofLevel) :
    ∀ p ∈ (t.putPairs u pairs).descriptors, 150 ≤ p.2.proofLevel := by
  unfold UnitTable.putPairs
  split
  · exact fun p hp => stored p (mem_erase hp).1
  · intro p hp
    rcases mem_put hp with rfl | hp
    · refine writeAll_proofLevel fit ?_
      cases found : Table.find u t.descriptors with
      | none => exact (by decide : 150 ≤ 300)
      | some d => exact stored (u, d) (mem_of_find found)
    · exact stored p hp

theorem fanLaw_serveUnitPut (unit : Byte) (pairs : List (Byte × Half)) {s : State} (law : FanLaw s) :
    FanLaw (serveUnitPut unit pairs s).1 := by
  unfold serveUnitPut
  dsimp only
  split
  · exact law
  split
  · exact law
  rename_i passes
  split
  · exact law
  split
  · exact law
  · exact law.of_units rfl (putPairs_proofLevel (pairFailure_none passes) _ law.stored) law.saved

end Sys2Proof.Machine
end

section
/-! PROOF. O59: smoke, restart, store and power-on (R121, R136, R138, R171, R176 to R180), the requests, and every command. -/

namespace Sys2Proof.Machine

/-! ### Smoke and restart (R121, R136, R138, R171) -/

/-- R121: with every stage off the smoke action may stop the fan. -/
theorem BoundUnit.FanSafe.smokeAction {b : BoundUnit} (safe : b.FanSafe) (off : b.anyOn = false) :
    b.smokeAction.FanSafe := by
  unfold BoundUnit.smokeAction
  split
  · exact .of_stopped off rfl safe.copy
  · exact safe.of_stages rfl rfl id rfl

theorem BoundUnit.FanSafe.releaseParked {b : BoundUnit} (safe : b.FanSafe) : b.releaseParked.FanSafe := by
  unfold BoundUnit.releaseParked
  split
  · exact safe.of_stages rfl rfl id rfl
  · exact safe

/-- R136, R121: the smoke action reaches the fans once every stage has stopped. -/
theorem fanLaw_enterShutdown {s : State} (law : FanLaw s) : FanLaw s.enterShutdown := by
  unfold State.enterShutdown
  extract_lets _ m stopped acted zoned
  have noted : FanLaw m := SameFans.law (s := s) ⟨rfl, rfl, rfl⟩ law
  have acts : FanLaw acted :=
    fanLaw_update (f := fun _ b => b.smokeAction) (fanLaw_stopEverything .shutdown noted) fun _ _ hb safe =>
      safe.smokeAction (stopEverything_off rfl noted hb)
  have closed : SameFans acted zoned.closeWindow := ⟨rfl, rfl, rfl⟩
  exact closed.law acts

theorem fanLaw_smokeAsserted {s t : State} (law : FanLaw s) (run : exec .smokeAsserted s = .next t) : FanLaw t := by
  cases run
  have level : FanLaw (s.setHost { s.host with smoke := true }) := (sameFans_of_frame rfl).law law
  split
  · exact fanLaw_enterShutdown level
  · exact level

theorem fanLaw_release {s : State} (law : FanLaw s) : FanLaw s.release := by
  unfold State.release
  extract_lets _ noted armed
  have armed : FanLaw armed := SameFans.law (s := s) ⟨rfl, rfl, rfl⟩ law
  exact fanLaw_update armed fun _ _ _ safe => safe.releaseParked

theorem fanLaw_restart {s : State} (law : FanLaw s) : FanLaw s.restart := by
  unfold State.restart
  extract_lets stopped armed zoned
  have closed : SameFans stopped zoned.closeWindow := ⟨rfl, rfl, rfl⟩
  exact closed.law (fanLaw_stopEverything .restart law)

theorem fanLaw_servePartRelease {s : State} (law : FanLaw s) : FanLaw (servePartRelease s).1 := by
  unfold servePartRelease
  split
  · exact law
  · unfold accept
    dsimp only
    split
    · exact fanLaw_release law
    · exact law

/-! ### The store (R176 to R180) -/

/-- R177: the image takes the descriptors as they are stored. -/
theorem fanLaw_serveStoreSave {s : State} (law : FanLaw s) : FanLaw (serveStoreSave s).1 := by
  unfold serveStoreSave
  split
  · exact law
  · exact law.of_units rfl law.stored law.stored

theorem sameFans_saveCompletion {equal : Bool} {s t : State} (run : exec (.saveCompletion equal) s = .next t) :
    SameFans s t := by
  cases run
  split
  · unfold State.completeSave
    dsimp only
    split <;> exact ⟨rfl, rfl, rfl⟩
  · exact .refl s

theorem clear_units (s : State) : s.clear.units = (s.units.foldl (fun s p => s.freeUnit p.1) s).units := by
  simp [State.clear]

/-- R179: a clear leaves no descriptor, in the table or in the image. -/
theorem clear_descriptors (s : State) :
    s.clear.table.descriptors = [] ∧ s.clear.store.image.contents.descriptors = [] := by
  simp [State.clear, Image.erased, Contents.defaults]

theorem fanLaw_clear {s : State} (law : FanLaw s) : FanLaw s.clear := by
  have freed : FanLaw (s.units.foldl (fun s p => s.freeUnit p.1) s) :=
    fanLaw_foldl (fun _ (p : Nat × BoundUnit) => fanLaw_freeUnit p.1) _ law
  obtain ⟨stored, saved⟩ := clear_descriptors s
  exact freed.of_units (clear_units s) (stored ▸ List.forall_mem_nil _) (saved ▸ List.forall_mem_nil _)

theorem fanLaw_serveStoreClear {s : State} (law : FanLaw s) : FanLaw (serveStoreClear s).1 := by
  unfold serveStoreClear
  split
  · exact law
  split
  · exact law
  · exact fanLaw_clear law

theorem load_proofLevel {i : Image} (saved : ∀ p ∈ i.contents.descriptors, 150 ≤ p.2.proofLevel) :
    ∀ p ∈ i.load.descriptors, 150 ≤ p.2.proofLevel := by
  unfold Image.load
  split
  · exact saved
  · exact List.forall_mem_nil _

/-- R180: the load binds no unit and takes its descriptors from the image. -/
theorem fanLaw_loaded (smoke service protect : Bool) {s : State} (law : FanLaw s) :
    FanLaw (s.loaded smoke service protect) := by
  have base {m : State} (units : m.units = []) (stored : m.table.descriptors = s.store.image.load.descriptors)
      (image : m.store.image = s.store.image) : FanLaw m := by
    have unbound (u : Nat) : m.unit u = none := by rw [State.unit, units]; rfl
    exact ⟨by rw [units]; rfl, fun u _ hb => (nomatch (unbound u).symm.trans hb),
      fun u _ hb => (nomatch (unbound u).symm.trans hb), fun u _ hb => (nomatch (unbound u).symm.trans hb),
      stored ▸ load_proofLevel law.saved, image ▸ law.saved⟩
  unfold State.loaded
  dsimp only
  split <;> exact base rfl rfl rfl

/-- R180, R121: a binding re-made; its stages are off when the smoke action reaches its fan. -/
theorem fanLaw_remake (p : Nat × SavedBinding) {s : State} (law : FanLaw s) : FanLaw (s.remake p) := by
  unfold State.remake
  split
  · rename_i d passes hd
    obtain ⟨number, _⟩ := bindFailure_none passes
    have bound := fanLaw_bindUnit p.2.zone p.2.counter law (unitNumber_iff.mp number).1 (law.descriptor hd)
    unfold State.smokeAtBinding
    split
    · refine fanLaw_onUnit p.1 bound fun b hb safe => safe.smokeAction ?_
      rw [bindUnit_unit, if_pos rfl, Option.some_inj] at hb
      subst hb
      exact anyOn_of_idle (make_idle p.2.zone d p.2.counter)
    · exact bound
  · exact (sameFans_raise ..).law law
  · exact law

theorem fanLaw_powerOn {smoke service protect : Bool} {s t : State} (law : FanLaw s)
    (run : exec (.powerOn smoke service protect) s = .next t) : FanLaw t := by
  cases run
  have bound := fanLaw_foldl (fun _ p => fanLaw_remake p) s.store.image.load.bindings
    (fanLaw_loaded smoke service protect law)
  exact (sameFans_setRoof ..).law bound

/-! ### Requests (R169, R170) -/

/-- The requests whose owners reach neither the units nor the descriptors. -/
def requestLeavesFans : Request → Bool
  | .partProtect .. | .noteTake | .clockSet .. | .zonePut .. | .zoneOverride .. | .schedWindow .. | .schedFill ..
  | .schedEnd | .profilePut .. | .demandLimits .. | .demandSite .. => true
  | _ => false

theorem sameFans_serveClockSet (day : Byte) (minute : Half) (second mark weekday : Byte) (s : State) :
    SameFans s (serveClockSet day minute second mark weekday s).1 := by
  have metered (ceiling : Nat) (s : State) : SameFans s (s.meterClockSet ceiling) := by
    unfold State.meterClockSet
    split
    · exact ⟨rfl, rfl, rfl⟩
    · exact sameFans_of_frame (closeInterval_frame ..)
  have written (c : Schedule) : SameFans s (s.setSchedule c) := ⟨rfl, rfl, rfl⟩
  unfold serveClockSet
  split
  · exact .refl s
  · exact (((written _).trans (sameFans_of_frame (deliver_frame _))).trans (metered _ _)).trans (sameFans_useFree ..)

theorem sameFans_serve {r : Request} (leaves : requestLeavesFans r = true) (s : State) : SameFans s (serve r s).1 := by
  cases r with
  | noteTake | demandSite => exact ⟨rfl, rfl, rfl⟩
  | clockSet => exact sameFans_serveClockSet ..
  | partProtect | zonePut | zoneOverride | schedWindow | schedFill | schedEnd | profilePut | demandLimits =>
    simp only [serve, servePartProtect, serveZonePut, State.defineZone, serveZoneOverride, serveSchedWindow, serveSchedFill,
      State.deliverWritten, serveSchedEnd, serveProfilePut, serveDemandLimits, State.applyLimits]
    repeat' split
    all_goals exact ⟨rfl, rfl, rfl⟩
  | _ => cases leaves

theorem fanLaw_serve (r : Request) {s : State} (law : FanLaw s) : FanLaw (serve r s).1 := by
  cases r with
  | partRestart =>
    simp only [serve, servePartRestart]
    split
    · exact law
    · exact fanLaw_restart law
  | partRelease => exact fanLaw_servePartRelease law
  | unitPut unit pairs => exact fanLaw_serveUnitPut unit pairs law
  | unitBind unit zone => exact fanLaw_serveUnitBind unit zone law
  | unitFree unit => exact fanLaw_serveUnitFree unit law
  | unitRefresh unit => exact fanLaw_serveUnitRefresh unit law
  | stageUnlock unit stage => exact fanLaw_serveStageUnlock unit stage law
  | storeSave => exact fanLaw_serveStoreSave law
  | storeClear => exact fanLaw_serveStoreClear law
  | partProtect | noteTake | clockSet | zonePut | zoneOverride | schedWindow | schedFill | schedEnd | profilePut
  | demandLimits | demandSite => exact (sameFans_serve rfl s).law law
  | partStatus | clockGet | unitGet | unitReadings | stageGet | queueGet | zoneGet | schedGet | profileGet | demandGet
  | demandHistory =>
    rw [serve_read rfl]
    exact law

theorem sameFans_setHost (h : HostLink) (s : State) : SameFans s (s.setHost h) := ⟨rfl, rfl, rfl⟩

theorem fanLaw_takeRequest (tag : Byte) (r : Request) {s : State} (law : FanLaw s) : FanLaw (s.takeRequest tag r) := by
  refine (sameFans_setHost _ (s.answerTo r).1).law ?_
  unfold State.answerTo
  split
  · exact law
  · exact fanLaw_serve r law

theorem fanLaw_takeFrame (f : Frame) {s : State} (law : FanLaw s) : FanLaw (s.takeFrame f) := by
  unfold State.takeFrame
  split
  · exact (sameFans_setHost ..).law law
  · exact (sameFans_setHost ..).law law
  · exact fanLaw_takeRequest _ _ law

theorem fanLaw_holdFrame (f : Frame) {s : State} (law : FanLaw s) : FanLaw (s.holdFrame f) := by
  rw [holdFrame_frame]
  exact (sameFans_setHost ..).law law

theorem fanLaw_offerFrame (f : Frame) {s : State} (law : FanLaw s) : FanLaw (s.offerFrame f) := by
  unfold State.offerFrame
  split
  · exact fanLaw_takeFrame f law
  · exact fanLaw_holdFrame f law

theorem fanLaw_offerRequest (tag : Byte) (r : Request) {s : State} (law : FanLaw s) : FanLaw (s.offerRequest tag r) := by
  unfold State.offerRequest
  split
  · exact fanLaw_takeRequest tag r law
  · exact fanLaw_holdFrame _ law

/-! ### The line (R167, R168) -/

theorem fanLaw_hostByteReceived {byte : Byte} {s t : State} (law : FanLaw s)
    (run : exec (.hostByteReceived byte) s = .next t) : FanLaw t := by
  have received (r : Receiver) : FanLaw (s.setReceiver r) := (sameFans_setHost ..).law law
  cases run
  split
  · split
    · exact received _
    · exact law
  unfold State.collect
  split
  · exact received _
  dsimp only
  split
  · exact received _
  split
  · exact received _
  · exact fanLaw_offerFrame _ (received _)

theorem fanLaw_replySent {s t : State} (law : FanLaw s) (run : exec .replySent s = .next t) : FanLaw t := by
  cases run
  split
  · exact law
  split
  · exact (sameFans_setHost ..).law law
  · exact fanLaw_takeFrame _ ((sameFans_setHost ..).law law)

/-! ### Every command and every second -/

theorem sameFans_siteStale {s t : State} (run : exec .siteStale s = .next t) : SameFans s t := by
  cases run
  split <;> exact ⟨rfl, rfl, rfl⟩

theorem sameFans_overrideEnd {zone : Nat} {s t : State} (run : exec (.overrideEnd zone) s = .next t) : SameFans s t := by
  cases run
  split
  · exact .refl s
  split
  · exact .refl s
  split <;> exact ⟨rfl, rfl, rfl⟩

theorem sameFans_clockTick {s t : State} (run : exec .clockTick s = .next t) : SameFans s t := by
  have written (c : Schedule) : SameFans s (s.setSchedule c) := ⟨rfl, rfl, rfl⟩
  cases run
  split
  · exact .refl s
  dsimp only
  split
  · exact (written _).trans (sameFans_of_frame (deliver_frame _))
  · exact written _

theorem fanLaw_exec {c : Instr} {s t : State} (law : FanLaw s) (run : exec c s = .next t) : FanLaw t := by
  cases c with
  | powerOn => exact fanLaw_powerOn law run
  | smokeAsserted => exact fanLaw_smokeAsserted law run
  | smokeNegated | serviceLineChange | protectLineChange | receiveGapTimeout =>
    cases run
    exact (sameFans_setHost ..).law law
  | hostByteReceived => exact fanLaw_hostByteReceived law run
  | replySent => exact fanLaw_replySent law run
  | saveCompletion => exact (sameFans_saveCompletion run).law law
  | minOnExpiry => exact fanLaw_minOnExpiry law run
  | minOffExpiry => exact fanLaw_minOffExpiry law run
  | provingExpiry => exact fanLaw_provingExpiry law run
  | tripCountClear => exact fanLaw_tripCountClear law run
  | staggerExpiry => exact fanLaw_staggerExpiry law run
  | accumulationEvent => exact fanLaw_accumulationEvent law run
  | siteStale => exact (sameFans_siteStale run).law law
  | zoneEvaluation => exact fanLaw_zoneEvaluation law run
  | changeoverExpiry =>
    cases run
    exact (sameFans_of_frame (onZone_frame ..)).law law
  | overrideEnd => exact (sameFans_overrideEnd run).law law
  | clockTick => exact (sameFans_clockTick run).law law
  | rampStep => exact fanLaw_rampStep law run
  | purgeExpiry => exact fanLaw_purgeExpiry law run
  | holdOffExpiry => exact fanLaw_holdOffExpiry law run
  | pollCycleStart => exact (sameFans_pollCycleStart run).law law
  | visitEnd => exact fanLaw_visitEnd law run
  | fallbackExpiry =>
    cases run
    exact fanLaw_takeFallback _ law
  | _ =>
    cases run
    exact fanLaw_offerRequest _ _ law

/-- Settles O59: a stage starts only with the fan at its proof level, a fan stops at once only with every stage off, and a ramp
step takes no fan below the level that a stage keeps it at. -/
theorem everyStepKeepsTheFanAtItsFloor : Obligations.EveryStepKeepsTheFanAtItsFloor := by
  unfold Obligations.EveryStepKeepsTheFanAtItsFloor
  intro s t law run
  obtain ⟨_, rfl⟩ | ⟨c, rest, _, run⟩ := step_cases run
  · exact fanLaw_secondPasses law
  · have popped : SameFans s { s with pending := rest } := ⟨rfl, rfl, rfl⟩
    exact fanLaw_exec (popped.law law) run

end Sys2Proof.Machine
end

section
/-! PROOF. O51: bands, positions and effective targets of a ramp step. -/

namespace Sys2Proof.Machine

/-! ### Bands (R110) -/

/-- R110: the band of a value is the first one that ends above it, or the last one. -/
theorem rateAt_bandRate {segments : List Segment} (defined : segments ≠ []) (x : Nat) :
    RateAt segments x (bandRate segments x) := by
  fun_induction bandRate segments x with
  | case1 => exact absurd rfl defined
  | case2 g x => exact ⟨[], g, [], rfl, rfl, Nat.zero_le _, .inr rfl⟩
  | case3 g h rest x below => exact ⟨[], g, h :: rest, rfl, rfl, Nat.zero_le _, .inl (by simpa using below)⟩
  | case4 g h rest x past ih =>
    obtain ⟨before, k, after, parts, rate, low, high⟩ := ih (List.cons_ne_nil h rest)
    refine ⟨g :: before, k, after, by rw [parts, List.cons_append], rate, ?_, high.imp_left fun inside => ?_⟩ <;>
      rw [List.map_cons, List.sum_cons] <;> omega

/-! ### Positions (R116) -/

/-- R116: a step with a profile moves by the rate of the band at the position, and stops at its target. -/
theorem stepPosition_profile {profiles : Table (List Segment)} {segments : List Segment} {k p g : Nat} (moves : p ≠ g)
    (named : k ≠ 0) (found : Table.find k profiles = some segments) :
    stepPosition profiles k p g =
      if p < g then min g (p + bandRate segments p) else max g (p - bandRate segments (p - 1)) := by
  simp only [stepPosition, moves, named, found, if_false]

theorem stepsTo_stepPosition (profiles : Table (List Segment)) (k p g : Nat) :
    StepsTo profiles k p g (stepPosition profiles k p g) := by
  refine ⟨fun same => if_pos same, fun moves plain => ?_,
    fun segments named found defined => ⟨fun rises => ?_, fun falls => ?_⟩⟩
  · rw [stepPosition, if_neg moves, if_pos plain]
  · exact ⟨_, rateAt_bandRate defined p, by rw [stepPosition_profile rises.ne named found, if_pos rises]⟩
  · exact ⟨_, rateAt_bandRate defined (p - 1), by rw [stepPosition_profile falls.ne' named found, if_neg falls.not_gt]⟩

/-! ### Effective targets (R115, R118) -/

/-- R115, R118: the fan heads for its floor while a stage is on, and in NORMAL while the purge timer runs. -/
theorem fanEffective_eq (run : RunState) (b : BoundUnit) :
    b.fanEffective run =
      if b.fanHold then 0
      else if b.anyOn = true ∨ (run = .normal ∧ b.purge ≠ .stopped) then max b.fan.target b.copy.proofLevel
      else b.fan.target := by
  unfold BoundUnit.fanEffective BoundUnit.floorApplies
  simp only [Bool.or_eq_true, isRunning_iff]
  refine ite_congr rfl (fun _ => rfl) fun _ => ?_
  cases run <;> cases b.anyOn <;> simp

/-- R116: each channel of a unit that is not LOST steps toward its own effective target. -/
theorem rampStep_present {b : BoundUnit} (present : b.live.link ≠ .lost) (run : RunState) (profiles : Table (List Segment)) :
    b.rampStep run profiles =
      { b with
        fan := b.fan.step profiles (b.fanEffective run)
        damper := b.damper.step profiles b.damperEffective
        gas := b.gas.step profiles b.gasEffective } := if_neg present

/-- R125: the channels of a LOST unit stand still. -/
theorem rampStep_lost {b : BoundUnit} (lost : b.live.link = .lost) (run : RunState) (profiles : Table (List Segment)) :
    b.rampStep run profiles = b := if_pos lost

/-- R116: of a unit only the positions of its three channels move. -/
theorem rampStep_frame (run : RunState) (profiles : Table (List Segment)) (b : BoundUnit) :
    b.rampStep run profiles = { b with
      fan := { b.fan with position := (b.rampStep run profiles).fan.position }
      damper := { b.damper with position := (b.rampStep run profiles).damper.position }
      gas := { b.gas with position := (b.rampStep run profiles).gas.position } } := by
  by_cases lost : b.live.link = .lost
  · rw [rampStep_lost lost]
  · rw [rampStep_present lost]
    rfl

/-- Settles O51: every unit takes `BoundUnit.rampStep`, each channel by `stepsTo_stepPosition`. -/
theorem rampStepMovesEveryChannel : Obligations.RampStepMovesEveryChannel := by
  unfold Obligations.RampStepMovesEveryChannel
  intro s
  have stepped (u : Nat) : (s.setUnits (Table.update (fun _ b => b.rampStep s.host.run s.profiles) s.units)).unit u =
      (s.unit u).map (BoundUnit.rampStep s.host.run s.profiles) := find_update _ u s.units
  refine ⟨_, rfl, rfl, fun u => by rw [stepped, Option.isSome_map], fun u b hb => ?_⟩
  refine ⟨b.rampStep s.host.run s.profiles, by rw [stepped, hb, Option.map_some], rampStep_frame .., ?_, fun present => ?_⟩
  · exact fun lost => rampStep_lost lost ..
  · rw [rampStep_present present, ← fanEffective_eq]
    exact ⟨stepsTo_stepPosition .., stepsTo_stepPosition .., stepsTo_stepPosition ..⟩

end Sys2Proof.Machine
end

section
/-! PROOF. O24: PROFILE.GET and PROFILE.PUT. -/

namespace Sys2Proof.Machine

/-- R110: the profile numbers are 1 to 8. -/
theorem profileNumber_iff {k : Nat} : within 1 8 k = true ↔ 1 ≤ k ∧ k ≤ 8 := by simp [within]

/-! ### PROFILE.GET (R112) -/

/-- R170: no common check refuses PROFILE.GET. -/
theorem commonCheck_profileGet (profile : Byte) (s : State) : s.commonCheck (.profileGet profile) = none := by
  simp [State.commonCheck, requestMalformed, requestServiceOnly, requestHalted, requestTableChanging, requestLocked]

theorem serveProfileGet_index {profile : Byte} (bad : ¬(1 ≤ profile.toNat ∧ profile.toNat ≤ 8)) (s : State) :
    serveProfileGet profile s = refuse s .index := by
  rw [serveProfileGet, if_pos (Bool.eq_false_iff.mpr (mt profileNumber_iff.mp bad))]

theorem serveProfileGet_absent {profile : Byte} {s : State} (low : 1 ≤ profile.toNat) (high : profile.toNat ≤ 8)
    (absent : Table.find profile.toNat s.profiles = none) : serveProfileGet profile s = refuse s .absent := by
  simp [serveProfileGet, profileNumber_iff.mpr ⟨low, high⟩, absent]

theorem serveProfileGet_defined {profile : Byte} {segments : List Segment} {s : State} (low : 1 ≤ profile.toNat)
    (high : profile.toNat ≤ 8) (found : Table.find profile.toNat s.profiles = some segments) :
    serveProfileGet profile s =
      accept s (encList (fun g => enc16 g.width ++ enc16 g.rate) segments ++ enc8 (s.profileUsers profile.toNat)) := by
  simp [serveProfileGet, profileNumber_iff.mpr ⟨low, high⟩, found]

/-! ### PROFILE.PUT (R111) -/

/-- R152, R154, R170: no common check refuses a PROFILE.PUT of at most 8 segments with the keyswitch on, in NORMAL, with no save
and a level below 2. -/
theorem commonCheck_profilePut {s : State} (normal : s.host.run = .normal) (service : s.host.service = true)
    (saving : s.store.saving = false) (level : s.table.level < 2) {segments : List (Half × Half)}
    (size : segments.length ≤ 8) (profile : Byte) : s.commonCheck (.profilePut profile segments) = none := by
  simp [State.commonCheck, requestMalformed, requestLocked, normal, service, saving, Nat.not_lt.mpr size,
    Nat.not_le.mpr level]

/-- R111: the check of a segment is the rule's. -/
theorem segmentFits_iff {g : Half × Half} :
    (within 1 1000 g.1.toNat && within 1 1000 g.2.toNat) = true ↔ Rule.SegmentFits g := by
  simp only [within, Rule.SegmentFits, Bool.and_eq_true, decide_eq_true_eq, and_assoc]

theorem segmentFailure_none {segments : List (Half × Half)} (fits : ∀ g ∈ segments, Rule.SegmentFits g) :
    segmentFailure segments = none := by
  rw [segmentFailure, Option.map_eq_none_iff, List.findIdx?_eq_none_iff]
  exact fun g hg => by rw [segmentFits_iff.mpr (fits g hg)]; rfl

/-- R111: the first segment out of its range is the one that is named. -/
theorem segmentFailure_first {before after : List (Half × Half)} {g : Half × Half}
    (fits : ∀ x ∈ before, Rule.SegmentFits x) (bad : ¬Rule.SegmentFits g) :
    segmentFailure (before ++ g :: after) = some (before.length + 1) := by
  have passed := Option.map_eq_none_iff.mp (segmentFailure_none fits)
  have fails : (within 1 1000 g.1.toNat && within 1 1000 g.2.toNat) = false :=
    Bool.eq_false_iff.mpr (mt segmentFits_iff.mp bad)
  rw [segmentFailure, List.findIdx?_append, passed, List.findIdx?_cons, fails]
  simp

theorem serveProfilePut_index {profile : Byte} (bad : ¬(1 ≤ profile.toNat ∧ profile.toNat ≤ 8))
    (segments : List (Half × Half)) (s : State) : serveProfilePut profile segments s = refuse s .index := by
  rw [serveProfilePut]
  exact if_pos (Bool.eq_false_iff.mpr (mt profileNumber_iff.mp bad))

section

variable {profile : Byte} {segments : List (Half × Half)} (low : 1 ≤ profile.toNat) (high : profile.toNat ≤ 8)
include low high

theorem serveProfilePut_segment {n : Nat} (fails : segmentFailure segments = some n) (s : State) :
    serveProfilePut profile segments s = refuseRange s n := by
  simp only [serveProfilePut, profileNumber_iff.mpr ⟨low, high⟩, fails]
  rfl

/-- R111: an empty list removes the profile, unless a bound unit uses it. -/
theorem serveProfilePut_empty (s : State) :
    serveProfilePut profile [] s =
      if 0 < s.profileUsers profile.toNat then refuse s .state
      else accept (s.setProfiles (Table.erase profile.toNat s.profiles))
        (enc8 profile.toNat ++ enc8 (s.profileUsers profile.toNat)) := by
  simp only [serveProfilePut, profileNumber_iff.mpr ⟨low, high⟩]
  rfl

/-- R111: segments in their ranges are written if their widths make 1000. -/
theorem serveProfilePut_segments (nonempty : segments ≠ []) (fits : ∀ g ∈ segments, Rule.SegmentFits g) (s : State) :
    serveProfilePut profile segments s =
      if (segments.map fun g => g.1.toNat).sum ≠ 1000 then refuseRange s 0
      else accept (s.setProfiles (Table.put profile.toNat (segmentsMade segments) s.profiles))
        (enc8 profile.toNat ++ enc8 (s.profileUsers profile.toNat)) := by
  have widths : (segmentsMade segments).map Segment.width = segments.map fun g => g.1.toNat := List.map_map
  simp only [serveProfilePut, profileNumber_iff.mpr ⟨low, high⟩, segmentFailure_none fits, List.isEmpty_iff, nonempty, widths]
  rfl

end

/-- Settles O24: the owner's refusals in their order, the profile read back, and the profile written or removed. -/
theorem profilesAreWrittenAndReadBack : Obligations.ProfilesAreWrittenAndReadBack := by
  unfold Obligations.ProfilesAreWrittenAndReadBack
  intro tag profile segments s users counted idle
  have counted : s.profileUsers profile.toNat = users := counted.symm
  have read {t : State} {a : Answer} (served : serveProfileGet profile s = (t, a)) :
      exec (.profileGet tag profile) s = .next (t.answering 0x31#8 tag a.result a.payload) :=
    exec_request_served (r := .profileGet profile) idle (commonCheck_profileGet profile s) served tag
  refine ⟨fun bad => read (serveProfileGet_index bad s), fun low high =>
    ⟨fun absent => read (serveProfileGet_absent low high absent), fun defined found => ?_⟩, ?_⟩
  · have served := serveProfileGet_defined low high found
    rw [counted] at served
    exact read served
  intro normal service saving level size
  have written {t : State} {a : Answer} (served : serveProfilePut profile segments s = (t, a)) :
      exec (.profilePut tag profile segments) s = .next (t.answering 0x30#8 tag a.result a.payload) :=
    exec_request_served (r := .profilePut profile segments) idle
      (commonCheck_profilePut normal service saving level size profile) served tag
  refine ⟨fun bad => written (serveProfilePut_index bad segments s), fun low high => ⟨?_, fun fits => ⟨?_, ?_, ?_, ?_⟩⟩⟩
  · rintro before g after rfl first bad
    exact written (serveProfilePut_segment low high (segmentFailure_first first bad) s)
  · intro nonempty whole
    have served := serveProfilePut_segments low high nonempty fits s
    rw [if_neg (not_not.mpr whole), enc8_toNat, counted] at served
    exact written served
  · exact fun nonempty short => written ((serveProfilePut_segments low high nonempty fits s).trans (if_pos short))
  · rintro rfl used
    exact written ((serveProfilePut_empty low high s).trans (if_pos (counted ▸ Nat.pos_of_ne_zero used)))
  · rintro rfl unused
    have served := serveProfilePut_empty low high s
    rw [counted, unused, if_neg (Nat.lt_irrefl 0), enc8_toNat] at served
    exact written served

end Sys2Proof.Machine
end

section
/-! PROOF. Smoke shutdown at the lines and on the host link: the changes of level alone, the requests of
SHUTDOWN, the release. -/

namespace Sys2Proof.Machine

/-! ### The input lines (R136, R154) -/

/-- R136: in SHUTDOWN an assertion of SMOKE is its level alone. -/
theorem exec_smokeAsserted_shutdown {s : State} (shutdown : s.host.run = .shutdown) :
    exec .smokeAsserted s = .next (s.setHost { s.host with smoke := true }) := by
  have halted : (s.setHost { s.host with smoke := true }).host.run ≠ .normal := fun normal =>
    nomatch shutdown.symm.trans normal
  exact congrArg Host.Outcome.next (if_neg halted)

/-- Settles O7: a level is all that these commands write. -/
theorem lineChangesSetOnlyTheirLevel : Obligations.LineChangesSetOnlyTheirLevel := by
  unfold Obligations.LineChangesSetOnlyTheirLevel
  exact fun s => ⟨exec_smokeAsserted_shutdown, rfl, fun _ => rfl, fun _ => rfl⟩

/-! ### The common checks in SHUTDOWN (R137, R170) -/

section
variable {r : Request} {s : State}

theorem commonCheck_malformed (counts : Rule.CountsMalformed r) (s : State) : s.commonCheck r = some .malformed := by
  simp [State.commonCheck, requestMalformed_iff, counts]

theorem commonCheck_service (counts : ¬Rule.CountsMalformed r) (service : Rule.ServiceOnly r)
    (off : s.host.service = false) : s.commonCheck r = some .service := by
  simp [State.commonCheck, requestMalformed_iff, requestServiceOnly_iff, counts, service, off]

theorem commonCheck_halted (counts : ¬Rule.CountsMalformed r) (service : Rule.ServiceOnly r → s.host.service = true)
    (shutdown : s.host.run = .shutdown) (outside : servedInShutdown r = false) : s.commonCheck r = some .halted := by
  have passes : (requestServiceOnly r && !s.host.service) = false := by
    rw [← requestServiceOnly_iff] at service
    cases only : requestServiceOnly r with
    | false => rfl
    | true => rw [service only]; rfl
  simp [State.commonCheck, requestMalformed_iff, requestHalted_eq, counts, passes, shutdown, outside]

/-- R137: the check for HALTED passes every request of the first row. -/
theorem commonCheck_ne_halted (inside : servedInShutdown r = true) (s : State) : s.commonCheck r ≠ some .halted := by
  have served : requestHalted r = false := by rw [requestHalted_eq, inside]; rfl
  unfold State.commonCheck
  rw [served, Bool.and_false]
  split
  · exact nofun
  · split
    · exact nofun
    · rw [if_neg Bool.false_ne_true]
      split
      · exact nofun
      · split <;> exact nofun

end

/-! ### What the owners of the first row answer (R137) -/

@[simp] theorem accept_result (s : State) (payload : List Byte) : (accept s payload).2.result = .accepted := rfl

@[simp] theorem refuse_result (s : State) (why : Result) : (refuse s why).2.result = why := rfl

@[simp] theorem refuseRange_result (s : State) (n : Nat) : (refuseRange s n).2.result = .range := rfl

/-- R137: no owner of a request of the first row answers HALTED. -/
theorem serve_ne_halted {r : Request} (inside : servedInShutdown r = true) (s : State) :
    (serve r s).2.result ≠ .halted := by
  cases r with
  | partStatus | noteTake | clockGet | demandSite | demandGet => exact nofun
  | partRelease =>
    simp only [serve, servePartRelease]
    split <;> simp
  | clockSet =>
    simp only [serve, serveClockSet]
    split <;> simp
  | unitGet | unitReadings | stageGet | zoneGet | profileGet =>
    simp only [serve, serveUnitGet, serveUnitReadings, serveStageGet, serveZoneGet, serveProfileGet]
    repeat' split
    all_goals simp
  | queueGet | schedGet | demandHistory =>
    simp only [serve, serveQueueGet, serveSchedGet, serveDemandHistory]
    split <;> simp
  | _ => cases inside

/-- R137: the answer to a request of the first row is not HALTED, by its checks and by its owner. -/
theorem answerTo_ne_halted {r : Request} (inside : servedInShutdown r = true) (s : State) :
    (s.answerTo r).2.result ≠ .halted := by
  unfold State.answerTo
  split
  · rename_i why refuses
    exact fun halted => commonCheck_ne_halted inside s (refuses.trans (congrArg some halted))
  · exact serve_ne_halted inside s

/-- Settles O13: a refusal is the first of R170's checks that holds, and a request of the first row meets HALTED nowhere. -/
theorem shutdownRefusesTheRequestsOfR137 : Obligations.ShutdownRefusesTheRequestsOfR137 := by
  unfold Obligations.ShutdownRefusesTheRequestsOfR137
  intro r tag s idle shutdown
  rw [exec_requestCommand_idle idle]
  refine ⟨fun counts => ?_, fun counts service off => ?_, fun counts service outside => ?_,
    fun inside t p run replied => ?_⟩
  · rw [takeRequest_refused (commonCheck_malformed counts s)]
  · rw [takeRequest_refused (commonCheck_service counts service off)]
  · rw [takeRequest_refused (commonCheck_halted counts service shutdown outside)]
  · cases run
    cases replied
    exact answerTo_ne_halted inside s

/-! ### The release (R138) -/

/-- R138: the release, block by block. -/
theorem release_eq (s : State) :
    s.release =
      { s with
        host := { noting s .shutdownOff none none none none with run := .normal }
        arbiter := { s.arbiter with stagger := .running s.meter.limits.spacing }
        units := Table.update (fun _ b => b.releaseParked) s.units } := by
  unfold State.release
  rw [raise_eq]
  rfl

/-- R138, R121: every bound unit takes what the release does to a parked one. -/
theorem release_unit (s : State) (u : Nat) : s.release.unit u = (s.unit u).map BoundUnit.releaseParked := by
  rw [release_eq]
  exact find_update ..

theorem servePartRelease_smoke {s : State} (smoke : s.host.smoke = true) : servePartRelease s = refuse s .state :=
  if_pos smoke

theorem servePartRelease_normal {s : State} (clear : s.host.smoke = false) (normal : s.host.run = .normal) :
    servePartRelease s = accept s [0#8] := by
  simp only [servePartRelease, clear, normal, Bool.false_eq_true, if_false, reduceCtorEq]
  rfl

theorem servePartRelease_shutdown {s : State} (clear : s.host.smoke = false) (shutdown : s.host.run = .shutdown) :
    servePartRelease s = accept s.release [0#8] := by
  have normal : s.release.host.run = .normal := by rw [release_eq]
  simp only [servePartRelease, clear, shutdown, Bool.false_eq_true, if_false, if_true, normal]
  rfl

/-- Settles O26, by the three cases of the owner; the release is that of `release_eq`. -/
theorem partReleaseReturnsToNormal : Obligations.PartReleaseReturnsToNormal := by
  unfold Obligations.PartReleaseReturnsToNormal
  intro tag s idle
  have served {t : State} {a : Answer} (served : servePartRelease s = (t, a)) :
      exec (.partRelease tag) s = .next (t.answering 0x04#8 tag a.result a.payload) :=
    exec_request_served (r := .partRelease) idle (commonCheck_eq_none rfl rfl rfl rfl (fun _ => rfl) s) served tag
  refine ⟨fun smoke => served (servePartRelease_smoke smoke),
    fun clear normal => served (servePartRelease_normal clear normal),
    fun clear shutdown => ⟨_, served (servePartRelease_shutdown clear shutdown), ?_, release_unit s⟩⟩
  simp only [release_eq]
  rfl

end Sys2Proof.Machine
end

section
/-! PROOF. The stopping of everything at once (R23, R24), unit by unit and stage by stage, and the entry into SHUTDOWN that it
is a part of (R136). -/

namespace Sys2Proof.Machine

/-! ### Stops one after another (R87, R119, R122) -/

/-- No stage comes on from one state of a unit to another. -/
def OnWithin (b c : BoundUnit) : Prop := ∀ st, c.isOn st = true → b.isOn st = true

theorem OnWithin.anyOn {b c : BoundUnit} (within : OnWithin b c) (on : c.anyOn = true) : b.anyOn = true := by
  obtain ⟨st, listed, runs⟩ := List.any_eq_true.mp on
  exact List.any_eq_true.mpr ⟨st, listed, within st runs⟩

/-- A stage that has stopped since does not run again, so two moves of the heat stages are one. -/
theorem heatMoved_iff {b c d : BoundUnit} (first : OnWithin b c) (second : OnWithin c d) :
    HeatMoved b d ↔ HeatMoved b c ∨ HeatMoved c d := by
  have moved (st : StageName) : d.isOn st ≠ b.isOn st ↔ c.isOn st ≠ b.isOn st ∨ d.isOn st ≠ c.isOn st := by
    have one := first st
    have two := second st
    revert one two
    cases b.isOn st <;> cases c.isOn st <;> cases d.isOn st <;> decide
  simp only [HeatMoved, moved]
  tauto

/-- R87: a unit that calls for gas after a stop called for gas before it. -/
theorem gasCall_of_within {c d : BoundUnit} (within : OnWithin c d) (copy : d.copy = c.copy) (calls : d.gasCall ≠ 0) :
    c.gasCall ≠ 0 := by
  unfold BoundUnit.gasCall at *
  by_cases second : d.isOn .h2 = true
  · rw [if_pos (within .h2 second)]
    decide
  · rw [if_neg second] at calls
    have first : d.isOn .h1 = true := by
      by_contra off
      exact calls (if_neg off)
    rw [if_pos first, copy] at calls
    rw [if_pos (within .h1 first)]
    split
    · decide
    · exact calls

/-- R122: a gas target that does not change leaves its channel and the reduction. -/
def GasStill (b c : BoundUnit) : Prop :=
  c.gas.target = b.gas.target → c.gas = b.gas ∧ c.gasReduction = b.gasReduction

/-- R87, R122: the gas channel after two stops. A valve that the first one has closed stays closed, since the second one leaves
a target that stays 0 (`GasStill`). -/
theorem GasFollows.andThen {b c d : BoundUnit} (first : GasFollows (HeatMoved b c) b.gasReduction b c)
    (second : GasFollows (HeatMoved c d) c.gasReduction c d) (still : GasStill c d)
    (copy : c.copy = b.copy ∧ d.copy = c.copy) (zone : c.zone = b.zone) (on : OnWithin b c) (on' : OnWithin c d) :
    GasFollows (HeatMoved b d) b.gasReduction b d := by
  obtain ⟨profile, derived, kept⟩ := first
  obtain ⟨profile', derived', kept'⟩ := second
  rw [copy.1, zone] at derived' kept'
  refine ⟨profile'.trans profile, fun ⟨moved, called⟩ => ?_, fun stays => ?_⟩
  · by_cases later : HeatMoved c d
    · obtain ⟨target, closes, flows⟩ := derived' ⟨later, called⟩
      by_cases earlier : HeatMoved b c
      · obtain ⟨target₁, closes₁, flows₁⟩ := derived ⟨earlier, called⟩
        refine ⟨target, fun zero flowing => ?_, fun flowing => ?_⟩
        · by_cases closed : c.gas.target = 0
          · obtain ⟨gas, reduction⟩ := still (zero.trans closed.symm)
            rw [gas, reduction]
            exact closes₁ closed flowing
          · exact closes zero closed
        · have calls : c.gas.target ≠ 0 := by
            rw [target₁, ← copy.1]
            refine gasCall_of_within on' copy.2 ?_
            rw [BoundUnit.gasCall, copy.2, copy.1, ← target]
            exact flowing
          exact ⟨(flows flowing).1.trans (flows₁ calls).1, (flows flowing).2.trans (flows₁ calls).2⟩
      · obtain ⟨gas, reduction⟩ := kept fun h => earlier h.1
        rw [← gas, ← reduction]
        exact ⟨target, closes, flows⟩
    · obtain ⟨gas, reduction⟩ := kept' fun h => later h.1
      have heat := not_or.mp later
      rw [gas, reduction, not_not.mp heat.1, not_not.mp heat.2]
      exact derived ⟨((heatMoved_iff on on').mp moved).resolve_right later, called⟩
  · obtain ⟨gas, reduction⟩ := kept fun h => stays ⟨(heatMoved_iff on on').mpr (.inl h.1), h.2⟩
    obtain ⟨gas', reduction'⟩ := kept' fun h => stays ⟨(heatMoved_iff on on').mpr (.inr h.1), h.2⟩
    exact ⟨gas'.trans gas, reduction'.trans reduction⟩

/-- R119: the purge timer after two stops starts at the one that leaves no stage on. -/
theorem PurgeFollows.andThen {run : RunState} {cause : StopCause} {b c d : BoundUnit} (first : PurgeFollows run cause b c)
    (second : PurgeFollows run cause c d) (copy : c.copy = b.copy) (on : OnWithin b c) (on' : OnWithin c d) :
    PurgeFollows run cause b d := by
  unfold PurgeFollows at *
  rw [second, first, copy]
  have one := on.anyOn
  have two := on'.anyOn
  revert one two
  cases b.anyOn <;> cases c.anyOn <;> cases d.anyOn <;> simp

/-- R119, R87, R122: what follows two stops of one cause in a unit. -/
theorem StopFollows.andThen {run : RunState} {cause : StopCause} {b c d : BoundUnit} (first : StopFollows run cause b c)
    (second : StopFollows run cause c d) (still : GasStill c d) (on : OnWithin b c) (on' : OnWithin c d) :
    StopFollows run cause b d := by
  obtain ⟨frame, purge, gas⟩ := first
  obtain ⟨frame', purge', gas'⟩ := second
  have copy : c.copy = b.copy := by rw [frame]
  have copy' : d.copy = c.copy := by rw [frame']
  have zone : c.zone = b.zone := by rw [frame]
  refine ⟨?_, purge.andThen purge' copy on on', gas.andThen gas' still ⟨copy, copy'⟩ zone on on'⟩
  conv_lhs => rw [frame', frame]

/-- R119: a purge timer that stays where no last stage has stopped follows the rules. -/
theorem purgeFollows_of_same {run : RunState} {cause : StopCause} {b c : BoundUnit} (on : c.anyOn = b.anyOn)
    (kept : c.purge = b.purge) : PurgeFollows run cause b c := by
  unfold PurgeFollows
  rw [on, if_neg fun h => nomatch h.1.symm.trans h.2.1]
  exact kept

theorem StopFollows.refl (run : RunState) (cause : StopCause) (b : BoundUnit) : StopFollows run cause b b :=
  ⟨rfl, purgeFollows_of_same rfl rfl, gasFollows_of_same (by simp [HeatMoved]) rfl rfl⟩

/-- R87, R122: a derivation that gives the target that stands changes nothing. -/
theorem rederiveGas_still {b : BoundUnit} (target : b.rederiveGas.gas.target = b.gas.target) : b.rederiveGas = b := by
  unfold BoundUnit.rederiveGas at *
  split
  · rename_i called
    rw [if_pos called, (setGasTarget_spec ..).2.1] at target
    exact if_pos target
  · rfl

/-- R122: a record written at a stop leaves a gas channel whose target does not change. -/
theorem putStage_still (run : RunState) (cause : StopCause) (st : StageName) (r : StageRec) (b : BoundUnit) :
    GasStill b (b.putStage run cause st r) := fun target => by
  obtain ⟨gas, reduction⟩ := putStage_gas run cause st r b
  rw [gas] at target
  rw [gas, reduction]
  unfold BoundUnit.withStageGas at *
  split
  · rename_i moved
    rw [if_pos moved] at target
    rw [rederiveGas_still (b := b.withStage st r) target]
    exact ⟨rfl, rfl⟩
  · exact ⟨rfl, rfl⟩

/-! ### A stage withdrawn or stopped at once (R4, R12) -/

/-- R4, R12: a stage record after withdrawals and immediate stops: as it was, withdrawn if the stage waited, or stopped if it
was on. -/
def StageRec.HaltedTo (d : Descriptor) (now : Word) (cause : StopCause) (r r' : StageRec) : Prop :=
  r' = r ∨ (r.state = .queued ∧ r' = { r with state := .off }) ∨
    (r.state.isOn = true ∧ r' = r.immediateStop d now cause)

section
variable {d : Descriptor} {now : Word} {cause : StopCause} {r q p : StageRec}

theorem haltedTo_withdraw (d : Descriptor) (now : Word) (cause : StopCause) (r : StageRec) :
    r.HaltedTo d now cause r.withdraw := by
  by_cases waits : r.state = .queued
  · exact .inr (.inl ⟨waits, if_pos waits⟩)
  · exact .inl (if_neg waits)

theorem haltedTo_immediateStop (d : Descriptor) (now : Word) (cause : StopCause) (r : StageRec) :
    r.HaltedTo d now cause (r.immediateStop d now cause) := by
  by_cases on : r.state.isOn = true
  · exact .inr (.inr ⟨on, rfl⟩)
  · exact .inl (if_neg on)

/-- R12: a stage that is on is not engaged after an immediate stop. -/
theorem immediateStop_idle (d : Descriptor) (now : Word) (cause : StopCause) (on : r.state.isOn = true) :
    (r.immediateStop d now cause).state.isEngaged = false := by
  unfold StageRec.immediateStop
  rw [if_pos on]
  dsimp only
  split
  · split <;> rfl
  · rfl

/-- A stage that has been withdrawn or stopped is not engaged. -/
theorem StageRec.HaltedTo.idle_of_ne (h : r.HaltedTo d now cause q) (moved : q ≠ r) : q.state.isEngaged = false := by
  obtain same | ⟨_, rfl⟩ | ⟨on, rfl⟩ := h
  · exact absurd same moved
  · rfl
  · exact immediateStop_idle d now cause on

/-- A stage that is not engaged cannot be withdrawn or stopped. -/
theorem StageRec.HaltedTo.of_idle (h : r.HaltedTo d now cause q) (idle : r.state.isEngaged = false) : q = r := by
  have engaged := mt isEngaged_iff.mpr (Bool.eq_false_iff.mp idle)
  obtain same | ⟨waits, _⟩ | ⟨on, _⟩ := h
  · exact same
  · exact absurd (.inl waits) engaged
  · exact absurd (.inr on) engaged

theorem StageRec.HaltedTo.trans (h : r.HaltedTo d now cause q) (k : q.HaltedTo d now cause p) :
    r.HaltedTo d now cause p := by
  by_cases same : q = r
  · exact same ▸ k
  · exact k.of_idle (h.idle_of_ne same) ▸ h

theorem StageRec.HaltedTo.on (h : r.HaltedTo d now cause q) (on : q.state.isOn = true) : r.state.isOn = true := by
  by_cases same : q = r
  · exact same ▸ on
  · exact absurd (isEngaged_iff.mpr (.inr on)) (Bool.eq_false_iff.mp (h.idle_of_ne same))

/-- R12: what an immediate stop that is no trip leaves of a stage that is on. -/
theorem immediateStop_stoppedAtOnce (d : Descriptor) (now : Word) (noTrip : cause.isTrip = false)
    (on : r.state.isOn = true) : StoppedAtOnce d now cause r (r.immediateStop d now cause) := by
  obtain ⟨rest, trips⟩ := immediateStop_rest d now noTrip on
  refine ⟨rest, trips, ?_⟩
  simp [StageRec.immediateStop, StageRec.toRest, on, noTrip]

/-- R4, R12: a stage that has come to be not engaged was withdrawn if it waited and stopped if it was on. -/
theorem StageRec.HaltedTo.of_halted (h : r.HaltedTo d now cause q) (noTrip : cause.isTrip = false)
    (idle : q.state.isEngaged = false) :
    if r.state = .queued then q = { r with state := .off }
    else if r.state.isOn = true then StoppedAtOnce d now cause r q else q = r := by
  have disengaged := mt isEngaged_iff.mpr (Bool.eq_false_iff.mp idle)
  obtain rfl | ⟨waits, rfl⟩ | ⟨on, rfl⟩ := h
  · rw [if_neg fun waits => disengaged (.inl waits), if_neg fun on => disengaged (.inr on)]
  · rw [if_pos waits]
  · have runs : r.state ≠ .queued := fun waits => by rw [waits] at on; cases on
    rw [if_neg runs, if_pos on]
    exact immediateStop_stoppedAtOnce d now noTrip on

end

/-! ### Items that may be absent -/

section
variable {α : Type} {R : α → α → Prop}

theorem optionRel_refl (refl : ∀ a, R a a) (x : Option α) : Option.Rel R x x := by
  cases x with
  | none => exact .none
  | some a => exact .some (refl a)

theorem optionRel_trans (trans : ∀ {a b c}, R a b → R b c → R a c) {x y z : Option α} (h : Option.Rel R x y)
    (k : Option.Rel R y z) : Option.Rel R x z := by
  cases h with
  | none => cases k; exact .none
  | some h => cases k with | some k => exact .some (trans h k)

theorem optionRel_some {x : Option α} {a : α} (h : Option.Rel R (some a) x) : ∃ b, x = some b ∧ R a b := by
  cases h with
  | some h => exact ⟨_, rfl, h⟩

theorem optionRel_isSome {x y : Option α} (h : Option.Rel R x y) : y.isSome = x.isSome := by
  cases h <;> rfl

end

/-! ### One unit -/

/-- Whether a stage is engaged is read from the stage records alone. -/
theorem anyEngaged_congr {b c : BoundUnit} (h : c.stages = b.stages) : c.anyEngaged = b.anyEngaged := by
  have same (st : StageName) : c.stageIs StageState.isEngaged st = b.stageIs StageState.isEngaged st := by
    rw [stageIs_eq, stageIs_eq, stateOf_congr h]
  simp only [BoundUnit.anyEngaged, funext same]

/-- R4, R12, R119, R122: a unit after withdrawals and immediate stops of one cause. -/
structure HaltedUnit (run : RunState) (now : Word) (cause : StopCause) (b c : BoundUnit) : Prop where
  follows : StopFollows run cause b c
  records : ∀ st, Option.Rel (StageRec.HaltedTo b.copy now cause) (b.stages.get st) (c.stages.get st)

section
variable {run : RunState} {now : Word} {cause : StopCause} {b c d : BoundUnit}

theorem HaltedUnit.refl (run : RunState) (now : Word) (cause : StopCause) (b : BoundUnit) :
    HaltedUnit run now cause b b := ⟨.refl run cause b, fun _ => optionRel_refl (fun _ => .inl rfl) _⟩

theorem HaltedUnit.copy (h : HaltedUnit run now cause b c) : c.copy = b.copy := by rw [h.follows.1]

theorem HaltedUnit.within (h : HaltedUnit run now cause b c) : OnWithin b c := fun st => by
  unfold BoundUnit.isOn BoundUnit.stageIs
  have moved := h.records st
  revert moved
  cases b.stages.get st <;> cases c.stages.get st <;> intro moved
  · exact id
  · cases moved
  · exact nofun
  · exact (Option.rel_some_some.mp moved).on

/-- A unit after one change more. -/
theorem HaltedUnit.andThen (h : HaltedUnit run now cause b c) (k : HaltedUnit run now cause c d)
    (still : GasStill c d) : HaltedUnit run now cause b d where
  follows := h.follows.andThen k.follows still h.within k.within
  records st := optionRel_trans .trans (h.records st) (h.copy ▸ k.records st)

/-- One record written: every other one stays. -/
theorem records_set {st : StageName} {r q : StageRec} (hr : b.stages.get st = some r)
    (hc : c.stages = b.stages.set st (some q)) (halted : r.HaltedTo b.copy now cause q) (x : StageName) :
    Option.Rel (StageRec.HaltedTo b.copy now cause) (b.stages.get x) (c.stages.get x) := by
  rw [hc, Six_get_set]
  split
  · subst x
    rw [hr]
    exact .some halted
  · exact optionRel_refl (fun _ => .inl rfl) _

theorem haltedUnit_withdraw {st : StageName} {r : StageRec} (hr : b.stages.get st = some r) :
    HaltedUnit run now cause b (b.withStage st r.withdraw) := by
  have same : (b.withStage st r.withdraw).isOn = b.isOn := isOn_of_set_same hr rfl (by
    rw [withdraw_record]
    cases r.state <;> rfl)
  exact ⟨⟨rfl, purgeFollows_of_same (anyOn_congr same) rfl, gasFollows_of_same (by simp [HeatMoved, same]) rfl rfl⟩,
    records_set hr rfl (haltedTo_withdraw ..)⟩

/-- R4: one withdrawal more. -/
theorem HaltedUnit.withdraw (h : HaltedUnit run now cause b c) (st : StageName) :
    HaltedUnit run now cause b (c.onStage st StageRec.withdraw) := by
  cases hr : c.stages.get st with
  | none => simpa only [BoundUnit.onStage, hr] using h
  | some r =>
    rw [onStage_of_get hr]
    exact h.andThen (haltedUnit_withdraw hr) fun _ => ⟨rfl, rfl⟩

/-- R12: one immediate stop more. -/
theorem HaltedUnit.stop (h : HaltedUnit run now cause b c) {st : StageName} {r : StageRec} (hr : c.stages.get st = some r) :
    HaltedUnit run now cause b (c.putStage run cause st (r.immediateStop c.copy now cause)) :=
  h.andThen ⟨putStage_stopFollows .., records_set hr (putStage_stages ..) (haltedTo_immediateStop ..)⟩
    (putStage_still run cause st _ c)

/-- R136: the stages of a unit that has come to rest. -/
theorem HaltedUnit.stages (h : HaltedUnit run now cause b c) (noTrip : cause.isTrip = false)
    (idle : c.anyEngaged = false) (st : StageName) :
    match b.stages.get st with
    | none => c.stages.get st = none
    | some r => ∃ q, c.stages.get st = some q ∧
      if r.state = .queued then q = { r with state := .off }
      else if r.state.isOn = true then StoppedAtOnce b.copy now cause r q else q = r := by
  have moved := h.records st
  cases hr : b.stages.get st with
  | none =>
    rw [hr] at moved
    exact Option.not_isSome_iff_eq_none.mp (by rw [optionRel_isSome moved]; exact nofun)
  | some r =>
    rw [hr] at moved
    obtain ⟨q, hq, halted⟩ := optionRel_some moved
    have rest : c.stageIs StageState.isEngaged st = false :=
      Bool.eq_false_iff.mpr (List.any_eq_false.mp idle st (mem_allStages st))
    rw [BoundUnit.stageIs, hq] at rest
    exact ⟨q, hq, halted.of_halted noTrip rest⟩

end

/-! ### The part -/

/-- A state that differs from another at most in the units and the queue. -/
def SameBesidesQueue (s t : State) : Prop :=
  t = { s with units := t.units, arbiter := { s.arbiter with queue := t.arbiter.queue } }

theorem SameBesidesQueue.trans {s m t : State} (h : SameBesidesQueue s m) (k : SameBesidesQueue m t) :
    SameBesidesQueue s t := by
  unfold SameBesidesQueue at *
  rw [h] at k
  exact k

theorem sameBesidesQueue_withdraw (u : Nat) (st : StageName) (s : State) : SameBesidesQueue s (s.withdraw u st) := by
  unfold SameBesidesQueue
  conv_lhs => rw [withdraw_frame, withdraw_arbiter]
  rw [withdraw_arbiter]

theorem sameBesidesQueue_takeStop {cause : StopCause} (noTrip : cause.isTrip = false) (u : Nat) (st : StageName)
    (s : State) : SameBesidesQueue s (s.takeStop u st cause) := by
  unfold SameBesidesQueue
  conv_lhs => rw [takeStop_frame, takeStop_host noTrip]
  rw [takeStop_frame]

/-- R23, R24: a part after withdrawals and immediate stops of one cause. -/
structure Halted (cause : StopCause) (s t : State) : Prop where
  frame : SameBesidesQueue s t
  units : ∀ u, Option.Rel (HaltedUnit s.host.run s.uptime cause) (s.unit u) (t.unit u)

section
variable {cause : StopCause} {s t : State}

theorem Halted.refl (cause : StopCause) (s : State) : Halted cause s s := ⟨rfl, fun _ => optionRel_refl (.refl _ _ _) _⟩

/-- One change more, of one unit. -/
theorem Halted.andThen {m : State} (h : Halted cause s m) (frame : SameBesidesQueue m t) {u : Nat}
    (other : ∀ v, v ≠ u → t.unit v = m.unit v)
    (same : ∀ b c, s.unit u = some b → m.unit u = some c → HaltedUnit s.host.run s.uptime cause b c →
      ∃ d, t.unit u = some d ∧ HaltedUnit s.host.run s.uptime cause b d)
    (unbound : m.unit u = none → t.unit u = none) : Halted cause s t where
  frame := h.frame.trans frame
  units v := by
    have before := h.units v
    by_cases hv : v = u
    · subst v
      cases hb : s.unit u <;> cases hc : m.unit u <;> rw [hb, hc] at before
      · rw [unbound hc]
        exact .none
      · cases before
      · cases before
      · obtain ⟨d, hd, halted⟩ := same _ _ hb hc (Option.rel_some_some.mp before)
        rw [hd]
        exact .some halted
    · rw [other v hv]
      exact before

theorem Halted.withdraw (h : Halted cause s t) (u : Nat) (st : StageName) : Halted cause s (t.withdraw u st) := by
  have unit (v : Nat) (entry : t.arbiter.queue.any (Entry.isFor u st) = true) :
      (t.withdraw u st).unit v = if v = u then (t.unit u).map (BoundUnit.onStage st StageRec.withdraw) else t.unit v := by
    rw [State.withdraw, if_pos entry, unit_onUnit]
    rfl
  by_cases entry : t.arbiter.queue.any (Entry.isFor u st) = true
  · refine h.andThen (sameBesidesQueue_withdraw u st t) (u := u) (fun v hv => ?_) (fun b c _ hc halted => ?_) fun hc => ?_
    · rw [unit v entry, if_neg hv]
    · exact ⟨_, by rw [unit u entry, if_pos rfl, hc]; rfl, halted.withdraw st⟩
    · rw [unit u entry, if_pos rfl, hc]
      rfl
  · rw [State.withdraw, if_neg entry]
    exact h

theorem Halted.takeStop (h : Halted cause s t) (immediate : cause.stopClass = .immediate) (noTrip : cause.isTrip = false)
    (u : Nat) (st : StageName) : Halted cause s (t.takeStop u st cause) := by
  have run : t.host.run = s.host.run := by rw [h.frame]
  have now : t.uptime = s.uptime := by rw [h.frame]
  refine h.andThen (sameBesidesQueue_takeStop noTrip u st t) (u := u) (fun v hv => takeStop_other hv st cause t)
    (fun b c _ hc halted => ?_) fun hc => ?_
  · cases hr : c.stages.get st with
    | none => exact ⟨c, by simp [State.takeStop, hc, hr], halted⟩
    | some r =>
      refine ⟨_, takeStop_unit cause hc hr, ?_⟩
      rw [StageRec.takeStop, immediate, run, now]
      exact halted.stop hr
  · simp [State.takeStop, hc]

/-- R23, R24: everything stopped at once is one withdrawal after another, and then one stop after another. -/
theorem halted_stopEverything (immediate : cause.stopClass = .immediate) (noTrip : cause.isTrip = false) (s : State) :
    Halted cause s (s.stopEverything cause) :=
  have withdrawn : Halted cause s (s.withdrawAll s.arbiter.queue) :=
    List.foldlRecOn _ _ (.refl cause s) fun _ h e _ => h.withdraw e.unit e.stage
  List.foldlRecOn _ _ withdrawn fun _ h p _ =>
    List.foldlRecOn p.2.onStages _ h fun _ h st _ => h.takeStop immediate noTrip p.1 st

end

/-! ### The entry into SHUTDOWN (R136) -/

/-- R121: the smoke action, for both of its kinds. -/
theorem smokeAction_eq (b : BoundUnit) :
    b.smokeAction =
      { b with
        purge := .stopped
        fan := if b.copy.smokeAction = .fanOff then { b.fan with target := 0, position := 0 }
          else { b.fan with target := 1000 }
        damper := { b.damper with target := if b.copy.smokeAction = .fanOff then 0 else 1000 } } := by
  unfold BoundUnit.smokeAction
  cases b.copy.smokeAction <;> rfl

/-- R136: the part once the host link has taken the run state and raised the notice. -/
def State.shutdownNoted (s : State) : State :=
  s.setHost { noting s .shutdownOn none none none none with run := .shutdown }

/-- R136: the part once every entry has been withdrawn and every stage that was on has stopped. -/
def State.shutdownStopped (s : State) : State := s.shutdownNoted.stopEverything .shutdown

theorem shutdownStopped_halted (s : State) : Halted .shutdown s.shutdownNoted s.shutdownStopped :=
  halted_stopEverything rfl rfl s.shutdownNoted

section
variable {s : State}

theorem shutdownNoted_agrees (law : QueueLaw s) : QueueAgrees s.shutdownNoted := law.agrees.congr rfl rfl

/-- R24, R136: what has been stopped leaves no stage engaged. -/
theorem shutdownStopped_idle (law : QueueLaw s) (u : Nat) (st : StageName) :
    s.shutdownStopped.stageEngaged u st = false := stopEverything_idle rfl (shutdownNoted_agrees law) u st

/-- R24: no entry is left in the queue. -/
theorem shutdownStopped_queue (law : QueueLaw s) : s.shutdownStopped.arbiter.queue = [] :=
  ((keeping_stopEverything .shutdown _).agrees (shutdownNoted_agrees law)).queue_eq_nil (shutdownStopped_idle law)

/-- R136: the entry, block by block: what it reaches, and what it leaves. -/
theorem enterShutdown_eq (law : QueueLaw s) :
    s.enterShutdown =
      { s with
        host := { noting s .shutdownOn none none none none with run := .shutdown }
        units := Table.update (fun _ b => b.smokeAction) s.shutdownStopped.units
        zones := Table.update (fun _ r => r.enterShutdown) s.zones
        arbiter := { s.arbiter with queue := [] }
        schedule := { s.schedule with window := none } } := by
  have steps : s.enterShutdown =
      { s.shutdownStopped with
        units := Table.update (fun _ b => b.smokeAction) s.shutdownStopped.units
        zones := Table.update (fun _ r => r.enterShutdown) s.shutdownStopped.zones
        schedule := { s.shutdownStopped.schedule with window := none } } := by
    unfold State.enterShutdown
    rw [raise_eq]
    rfl
  have frame : SameBesidesQueue s.shutdownNoted s.shutdownStopped := (shutdownStopped_halted s).frame
  conv_lhs => rw [steps, frame, shutdownStopped_queue law]
  rfl

/-- R92: every zone takes its entry into SHUTDOWN. -/
theorem enterShutdown_zone (law : QueueLaw s) (z : Nat) : s.enterShutdown.zone z = (s.zone z).map Zone.enterShutdown := by
  rw [enterShutdown_eq law]
  exact find_update ..

/-- R121: every bound unit takes its smoke action after its stages have stopped. -/
theorem enterShutdown_unit (law : QueueLaw s) (u : Nat) :
    s.enterShutdown.unit u = (s.shutdownStopped.unit u).map BoundUnit.smokeAction := by
  rw [enterShutdown_eq law]
  exact find_update ..

/-- R136: the entry binds no unit and frees none. -/
theorem enterShutdown_isSome (law : QueueLaw s) (u : Nat) : (s.enterShutdown.unit u).isSome = (s.unit u).isSome := by
  rw [enterShutdown_unit law, Option.isSome_map]
  exact optionRel_isSome ((shutdownStopped_halted s).units u)

/-- R24, R12, R121, R122: a bound unit after the entry, with its stages withdrawn or stopped, its gas following them, and its
smoke action taken. -/
theorem enterShutdown_bound (law : QueueLaw s) {u : Nat} {b : BoundUnit} (hb : s.unit u = some b) :
    ∃ c, s.enterShutdown.unit u = some c.smokeAction ∧ HaltedUnit .shutdown s.uptime .shutdown b c ∧
      c.anyEngaged = false := by
  have moved := (shutdownStopped_halted s).units u
  rw [show s.shutdownNoted.unit u = some b from hb] at moved
  obtain ⟨c, hc, halted⟩ := optionRel_some moved
  exact ⟨c, by rw [enterShutdown_unit law, hc]; rfl, halted, (anyEngaged_eq_false_iff hc).mpr (shutdownStopped_idle law u)⟩

theorem exec_smokeAsserted_normal (normal : s.host.run = .normal) :
    exec .smokeAsserted s = .next (s.setHost { s.host with smoke := true }).enterShutdown :=
  congrArg Host.Outcome.next (if_pos normal)

end

/-- Settles O6: the level is set, and the rest is the entry into SHUTDOWN, block by block. -/
theorem smokeAssertedEntersShutdown : Obligations.SmokeAssertedEntersShutdown := by
  unfold Obligations.SmokeAssertedEntersShutdown
  intro s normal law
  have set : SameStarts s (s.setHost { s.host with smoke := true }) := ⟨rfl, rfl, rfl, rfl, rfl⟩
  have level := set.keeping.law law
  have entry := enterShutdown_eq level
  refine ⟨_, exec_smokeAsserted_normal normal, ?_, ?_, enterShutdown_zone level, enterShutdown_isSome level,
    fun u b hb => ?_⟩
  · rw [entry]
    rfl
  · conv_lhs => rw [entry]
    rw [entry]
    rfl
  · obtain ⟨c, hc, halted, idle⟩ := enterShutdown_bound (u := u) level hb
    obtain ⟨rest, _, gas⟩ := halted.follows
    have stages : c.smokeAction.stages = c.stages := smokeAction_stages c
    have on : c.smokeAction.isOn = c.isOn := isOn_congr stages
    refine ⟨_, hc, ?_, ?_, ?_, ?_⟩
    · rw [anyEngaged_congr stages]
      exact idle
    · rw [smokeAction_eq, rest]
    · exact gas.congr (by simp only [HeatMoved, on]) on (by rw [smokeAction_eq]) (by rw [smokeAction_eq])
    · rw [stages]
      exact halted.stages rfl idle

end Sys2Proof.Machine
end

section
/-! PROOF. The law of bindings (R145, R146, R176) in terms of the three things that it reads of the part, and the changes of the
part that leave them as they are. -/

namespace Sys2Proof.Machine

/-! ### What the law reads -/

/-- R146: the zone to which a unit is bound, 0 for a parked one. -/
def State.zoneOf (s : State) (u : Nat) : Option Nat := (s.unit u).map BoundUnit.zone

/-- R145: the bus address of a bound unit's active copy. -/
def State.addressOf (s : State) (u : Nat) : Option Nat := (s.unit u).map fun b => b.copy.busAddress

/-- R67: the unit list of a zone; that of a zone that is not defined is empty. -/
def State.unitList (s : State) (z : Nat) : List Nat := ((s.zone z).map Zone.units).getD []

/-- R145, R146: what `BindingLaw` says of the bindings as they stand. -/
structure BindingsAgree (s : State) : Prop where
  units : Table.wf s.units = true
  zones : Table.wf s.zones = true
  numbers : ∀ u z, s.zoneOf u = some z → u ≤ 24 ∧ z ≤ 12
  listed : ∀ u z, u ∈ s.unitList z ↔ z ≠ 0 ∧ s.zoneOf u = some z
  lists : ∀ z, (s.unitList z).length ≤ 4 ∧ (s.unitList z).Nodup
  addresses : ∀ u v a, s.addressOf u = some a → s.addressOf v = some a → u = v

/-- R176: what `BindingLaw` says of the image. -/
structure Contents.BindingsInForm (c : Contents) : Prop where
  zones : Table.wf c.zones = true
  numbers : ∀ p ∈ c.bindings, p.1 ≤ 24 ∧ p.2.zone ≤ 12
  rising : Table.wf c.bindings = true

theorem zoneOf_eq_some {s : State} {u z : Nat} : s.zoneOf u = some z ↔ ∃ b, s.unit u = some b ∧ b.zone = z := by
  simp [State.zoneOf]

theorem addressOf_eq_some {s : State} {u a : Nat} :
    s.addressOf u = some a ↔ ∃ b, s.unit u = some b ∧ b.copy.busAddress = a := by
  simp [State.addressOf]

theorem unitList_defined {s : State} {z : Nat} {r : Zone} (hr : s.zone z = some r) : s.unitList z = r.units := by
  simp [State.unitList, hr]

theorem unitList_undefined {s : State} {z : Nat} (undefined : s.zone z = none) : s.unitList z = [] := by
  simp [State.unitList, undefined]

theorem mem_unitList {s : State} {u z : Nat} : u ∈ s.unitList z ↔ ∃ r, s.zone z = some r ∧ u ∈ r.units := by
  cases hr : s.zone z with
  | none => simp [unitList_undefined hr]
  | some r => simp [unitList_defined hr]

theorem bindingLaw_iff {s : State} : BindingLaw s ↔ BindingsAgree s ∧ s.store.image.contents.BindingsInForm := by
  constructor
  · intro law
    refine ⟨⟨law.units, law.zones, fun u z bound => ?_, fun u z => ?_, fun z => ?_, fun u v a hu hv => ?_⟩,
      ⟨law.saved, law.bindings, law.rising⟩⟩
    · obtain ⟨b, hb, rfl⟩ := zoneOf_eq_some.mp bound
      exact law.numbers u b hb
    · rw [mem_unitList, ← law.listed, zoneOf_eq_some]
    · cases hr : s.zone z with
      | none => simp [unitList_undefined hr]
      | some r => rw [unitList_defined hr]; exact law.lists z r hr
    · obtain ⟨b, hb, rfl⟩ := addressOf_eq_some.mp hu
      obtain ⟨c, hc, same⟩ := addressOf_eq_some.mp hv
      exact law.addresses u v b c hb hc same.symm
  · rintro ⟨agree, image⟩
    refine ⟨agree.units, agree.zones, image.zones, fun u b hb => ?_, fun u z => ?_, fun z r hr => ?_, image.numbers,
      image.rising, fun u v b c hb hc same => ?_⟩
    · exact agree.numbers u b.zone (zoneOf_eq_some.mpr ⟨b, hb, rfl⟩)
    · rw [← mem_unitList, agree.listed, zoneOf_eq_some]
    · rw [← unitList_defined hr]
      exact agree.lists z
    · exact agree.addresses u v _ (addressOf_eq_some.mpr ⟨b, hb, rfl⟩) (addressOf_eq_some.mpr ⟨c, hc, same.symm⟩)

theorem BindingLaw.agree {s : State} (law : BindingLaw s) : BindingsAgree s := (bindingLaw_iff.mp law).1

theorem BindingLaw.image {s : State} (law : BindingLaw s) : s.store.image.contents.BindingsInForm :=
  (bindingLaw_iff.mp law).2

/-! ### Changes that are no matter of the law -/

/-- A change that leaves every binding, every bus address, every unit list and the image, and keeps the form of both tables. -/
structure SameBindings (s t : State) : Prop where
  unitForm : Table.wf s.units = true → Table.wf t.units = true
  zoneForm : Table.wf s.zones = true → Table.wf t.zones = true
  bound : ∀ u, t.zoneOf u = s.zoneOf u
  addresses : ∀ u, t.addressOf u = s.addressOf u
  lists : ∀ z, t.unitList z = s.unitList z
  image : t.store.image.contents = s.store.image.contents

theorem SameBindings.trans {s m t : State} (h : SameBindings s m) (k : SameBindings m t) : SameBindings s t :=
  ⟨k.unitForm ∘ h.unitForm, k.zoneForm ∘ h.zoneForm, fun u => (k.bound u).trans (h.bound u),
    fun u => (k.addresses u).trans (h.addresses u), fun z => (k.lists z).trans (h.lists z), k.image.trans h.image⟩

theorem SameBindings.agree {s t : State} (h : SameBindings s t) (agree : BindingsAgree s) : BindingsAgree t where
  units := h.unitForm agree.units
  zones := h.zoneForm agree.zones
  numbers u z bound := agree.numbers u z (h.bound u ▸ bound)
  listed u z := by rw [h.lists, h.bound, agree.listed]
  lists z := h.lists z ▸ agree.lists z
  addresses u v a hu hv := agree.addresses u v a (h.addresses u ▸ hu) (h.addresses v ▸ hv)

theorem SameBindings.law {s t : State} (h : SameBindings s t) (law : BindingLaw s) : BindingLaw t :=
  bindingLaw_iff.mpr ⟨h.agree law.agree, h.image ▸ law.image⟩

/-- The operations that reach neither the units nor the zones nor the image's contents. -/
theorem sameBindings_of_tables {s t : State} (units : t.units = s.units) (zones : t.zones = s.zones)
    (image : t.store.image.contents = s.store.image.contents) : SameBindings s t := by
  have unit (u : Nat) : t.unit u = s.unit u := by rw [State.unit, units, State.unit]
  have zone (z : Nat) : t.zone z = s.zone z := by rw [State.zone, zones, State.zone]
  exact ⟨fun form => units ▸ form, fun form => zones ▸ form, fun u => by rw [State.zoneOf, unit, State.zoneOf],
    fun u => by rw [State.addressOf, unit, State.addressOf], fun z => by rw [State.unitList, zone, State.unitList], image⟩

theorem SameBindings.refl (s : State) : SameBindings s s := sameBindings_of_tables rfl rfl rfl

theorem sameBindings_setHost (h : HostLink) (s : State) : SameBindings s (s.setHost h) := sameBindings_of_tables rfl rfl rfl

theorem sameBindings_raise (kind : NoticeKind) (unit : Option Nat) (stage : Option StageName) (zone : Option Nat)
    (value : Option Int) (s : State) : SameBindings s (s.raise kind unit stage zone value) := sameBindings_setHost ..

theorem sameBindings_setRoof (r : Roof) (s : State) : SameBindings s (s.setRoof r) := sameBindings_of_tables rfl rfl rfl

theorem sameBindings_setMeter (m : Meter) (s : State) : SameBindings s (s.setMeter m) := sameBindings_of_tables rfl rfl rfl

theorem sameBindings_setSchedule (c : Schedule) (s : State) : SameBindings s (s.setSchedule c) :=
  sameBindings_of_tables rfl rfl rfl

theorem sameBindings_useFree (n : Nat) (s : State) : SameBindings s (s.useFree n) := sameBindings_of_tables rfl rfl rfl

theorem sameBindings_foldl {α : Type} {f : State → α → State} (each : ∀ s a, SameBindings s (f s a)) (l : List α)
    (s : State) : SameBindings s (l.foldl f s) := by
  induction l generalizing s with
  | nil => exact .refl s
  | cons a l ih => exact (each s a).trans (ih _)

/-! ### Units that keep their zones and bus addresses -/

/-- R146: a unit with the zone and the bus address that it had. -/
def BoundUnit.SameBinding (b c : BoundUnit) : Prop := c.zone = b.zone ∧ c.copy.busAddress = b.copy.busAddress

theorem StagesMoved.sameBinding {b c : BoundUnit} (moved : StagesMoved b c) : b.SameBinding c := by
  obtain ⟨frame, _⟩ := moved
  exact ⟨by rw [frame], by rw [frame]⟩

/-- A change of the units in which each keeps its binding. -/
theorem sameBindings_of_units {s t : State} (form : Table.wf s.units = true → Table.wf t.units = true)
    (same : ∀ u, match s.unit u with
      | none => t.unit u = none
      | some b => ∃ c, t.unit u = some c ∧ b.SameBinding c)
    (zones : t.zones = s.zones) (image : t.store.image.contents = s.store.image.contents) : SameBindings s t := by
  have read {α : Type} (f : BoundUnit → α) (keeps : ∀ b c : BoundUnit, b.SameBinding c → f c = f b) (u : Nat) :
      (t.unit u).map f = (s.unit u).map f := by
    have here := same u
    cases hb : s.unit u with
    | none =>
      simp only [hb] at here
      rw [here]
    | some b =>
      simp only [hb] at here
      obtain ⟨c, hc, kept⟩ := here
      simp only [hc, Option.map_some, keeps b c kept]
  exact ⟨form, fun form => zones ▸ form, read _ fun _ _ kept => kept.1, read _ fun _ _ kept => kept.2,
    fun z => by rw [State.unitList, State.zone, zones]; rfl, image⟩

theorem sameBindings_moved {s t : State} (form : Table.wf s.units = true → Table.wf t.units = true) (moved : UnitsMoved s t)
    (zones : t.zones = s.zones) (store : t.store = s.store) : SameBindings s t := by
  refine sameBindings_of_units form (fun u => ?_) zones (by rw [store])
  have here := moved u
  cases hb : s.unit u with
  | none => simpa only [hb] using here
  | some b =>
    simp only [hb] at here
    obtain ⟨c, hc, change⟩ := here
    exact ⟨c, hc, change.sameBinding⟩

theorem sameBindings_putUnit {u : Nat} {b c : BoundUnit} {s : State} (hb : s.unit u = some b) (same : b.SameBinding c) :
    SameBindings s (s.putUnit u c) := by
  refine sameBindings_of_units (wf_putUnit hb c) (fun v => ?_) rfl rfl
  rw [unit_putUnit]
  by_cases hv : v = u
  · subst hv
    simpa only [hb, if_true, Option.some.injEq, exists_eq_left'] using same
  · cases hd : s.unit v with
    | none => simp [hv]
    | some d => simpa only [hv, if_false, Option.some.injEq, exists_eq_left'] using ⟨rfl, rfl⟩

theorem sameBindings_onUnit (u : Nat) {f : BoundUnit → BoundUnit} (same : ∀ b, BoundUnit.SameBinding b (f b)) (s : State) :
    SameBindings s (s.onUnit u f) := by
  unfold State.onUnit
  split
  · exact .refl s
  · exact sameBindings_putUnit ‹_› (same _)

theorem sameBindings_updateUnits {f : Nat → BoundUnit → BoundUnit} (same : ∀ u b, BoundUnit.SameBinding b (f u b)) (s : State) :
    SameBindings s (s.setUnits (Table.update f s.units)) := by
  refine sameBindings_of_units (wf_update f) (fun u => ?_) rfl rfl
  have written : (s.setUnits (Table.update f s.units)).unit u = (s.unit u).map (f u) := find_update f u s.units
  rw [written]
  cases s.unit u with
  | none => rfl
  | some b => exact ⟨f u b, rfl, same u b⟩

/-! ### Zones that keep their unit lists -/

/-- A change of the zones in which each keeps its list; a zone without units may come or go. -/
theorem sameBindings_of_zones {s t : State} (form : Table.wf s.zones = true → Table.wf t.zones = true)
    (lists : ∀ z, t.unitList z = s.unitList z) (units : t.units = s.units)
    (image : t.store.image.contents = s.store.image.contents) : SameBindings s t := by
  have unit (u : Nat) : t.unit u = s.unit u := by rw [State.unit, units, State.unit]
  exact ⟨fun form => units ▸ form, form, fun u => by rw [State.zoneOf, unit, State.zoneOf],
    fun u => by rw [State.addressOf, unit, State.addressOf], lists, image⟩

theorem unitList_putZone (z y : Nat) (r : Zone) (s : State) :
    (s.putZone z r).unitList y = if y = z then r.units else s.unitList y := by
  rw [State.unitList, zone_putZone]
  split <;> rfl

/-- A zone written with the list that the zone at its number has, defined or not. -/
theorem sameBindings_putZone {z : Nat} {r : Zone} {s : State} (number : Table.wf s.zones = true → 0 < z)
    (same : r.units = s.unitList z) : SameBindings s (s.putZone z r) := by
  refine sameBindings_of_zones (fun form => wf_put (number form) r form) (fun y => ?_) rfl rfl
  rw [unitList_putZone]
  split
  · subst y
    exact same
  · rfl

theorem zone_pos {z : Nat} {r : Zone} {s : State} (hr : s.zone z = some r) (form : Table.wf s.zones = true) : 0 < z :=
  (lt_and_put_of_find form hr).1

theorem wf_onZone (z : Nat) (f : Zone → Zone) {s : State} (form : Table.wf s.zones = true) :
    Table.wf (s.onZone z f).zones = true := by
  unfold State.onZone
  split
  · exact form
  · exact wf_put (zone_pos ‹_› form) _ form

theorem sameBindings_rewriteZone {z : Nat} {r q : Zone} {s : State} (hr : s.zone z = some r) (same : q.units = r.units) :
    SameBindings s (s.putZone z q) := sameBindings_putZone (zone_pos hr) (same.trans (unitList_defined hr).symm)

theorem sameBindings_onZone (z : Nat) {f : Zone → Zone} (same : ∀ r, (f r).units = r.units) (s : State) :
    SameBindings s (s.onZone z f) := by
  unfold State.onZone
  split
  · exact .refl s
  · exact sameBindings_rewriteZone ‹_› (same _)

theorem sameBindings_updateZones {f : Nat → Zone → Zone} (same : ∀ z r, (f z r).units = r.units) (s : State) :
    SameBindings s (s.setZones (Table.update f s.zones)) := by
  refine sameBindings_of_zones (wf_update f) (fun z => ?_) rfl rfl
  have written : (s.setZones (Table.update f s.zones)).zone z = (s.zone z).map (f z) := find_update f z s.zones
  rw [State.unitList, written, State.unitList, Option.map_map]
  congr 2
  exact funext (same z)

end Sys2Proof.Machine
end

section
/-! PROOF. The bindings under the stage controller, the zones, the demand meter, the ramp unit and the roof bus: none of them
binds a unit, frees one or lists one. -/

namespace Sys2Proof.Machine

/-! ### Stops, withdrawals, grants and joins (R4, R5, R8, R28, R30) -/

theorem sameBindings_takeStop (u : Nat) (st : StageName) (cause : StopCause) (s : State) :
    SameBindings s (s.takeStop u st cause) :=
  sameBindings_moved (restful_takeStop u st cause s).form (unitsMoved_takeStop u st cause s) (by rw [takeStop_frame])
    (by rw [takeStop_frame])

theorem sameBindings_stopAll (u : Nat) (cause : StopCause) (stages : List StageName) (s : State) :
    SameBindings s (s.stopAll u cause stages) := sameBindings_foldl (fun s st => sameBindings_takeStop u st cause s) stages s

theorem sameBindings_withdraw (u : Nat) (st : StageName) (s : State) : SameBindings s (s.withdraw u st) :=
  sameBindings_moved (wf_withdraw u st) (unitsMoved_withdraw u st s) (by rw [withdraw_frame]) (by rw [withdraw_frame])

theorem sameBindings_withdrawAll (es : List Entry) (s : State) : SameBindings s (s.withdrawAll es) :=
  sameBindings_foldl (f := fun s (e : Entry) => s.withdraw e.unit e.stage)
    (fun s e => sameBindings_withdraw e.unit e.stage s) es s

theorem sameBindings_stopEverything (cause : StopCause) (s : State) : SameBindings s (s.stopEverything cause) :=
  (sameBindings_withdrawAll _ s).trans
    (sameBindings_foldl (fun s (p : Nat × BoundUnit) => sameBindings_stopAll p.1 cause p.2.onStages s) _ _)

theorem sameBindings_attempt (cause : AttemptCause) (s : State) : SameBindings s (s.attempt cause) :=
  sameBindings_moved (wf_attempt cause) (unitsMoved_attempt cause s) (by rw [attempt_frame]) (by rw [attempt_frame])

theorem wf_request (u : Nat) (st : StageName) {s : State} (form : Table.wf s.units = true) :
    Table.wf (s.request u st).units = true := by
  unfold State.request
  split
  · exact form
  split
  · exact form
  split
  · exact wf_attempt .join (wf_putUnit ‹_› _ form)
  · exact form

theorem sameBindings_request (u : Nat) (st : StageName) (s : State) : SameBindings s (s.request u st) :=
  sameBindings_moved (wf_request u st) (unitsMoved_request u st s) (by rw [request_frame]) (by rw [request_frame])

theorem sameBindings_onStage (u : Nat) (st : StageName) (f : StageRec → StageRec) (s : State) :
    SameBindings s (s.onUnit u (BoundUnit.onStage st f)) :=
  sameBindings_onUnit u (fun b => (onStage_moved st f b).sameBinding) s

/-! ### The stage controller's expiries (R7, R11, R15, R16) -/

theorem sameBindings_minOnExpiry {u : Nat} {st : StageName} {s t : State} (run : exec (.minOnExpiry u st) s = .next t) :
    SameBindings s t := by
  cases run
  split
  · exact .refl s
  rename_i b hb
  split
  · exact .refl s
  split
  · dsimp only
    split
    · exact sameBindings_putUnit hb (putStage_moved ..).sameBinding
    · exact sameBindings_putUnit hb ⟨rfl, rfl⟩
  · exact .refl s

theorem sameBindings_provingExpiry {u : Nat} {st : StageName} {s t : State}
    (run : exec (.provingExpiry u st) s = .next t) : SameBindings s t := by
  cases run
  split
  · exact .refl s
  split
  · exact .refl s
  rename_i b hb _ r _
  split
  · have ended : SameBindings s (s.putUnit u (b.withStage st { r with proving := .stopped })) :=
      sameBindings_putUnit hb ⟨rfl, rfl⟩
    dsimp only
    split
    · split
      · exact ended.trans (sameBindings_takeStop ..)
      · exact sameBindings_putUnit hb ⟨rfl, rfl⟩
    · exact ended
  · exact .refl s

/-! ### Zones (chapter 4) -/

theorem sameBindings_temperatureStep (z : Nat) (s : State) : SameBindings s (s.temperatureStep z) := by
  unfold State.temperatureStep
  split
  · exact .refl s
  rename_i r hr
  split
  · exact sameBindings_rewriteZone hr rfl
  split
  · exact (sameBindings_rewriteZone hr (by rfl)).trans (sameBindings_raise ..)
  · exact .refl s

theorem sameBindings_refreshCell (z : Nat) (s : State) : SameBindings s (s.refreshCell z) := by
  unfold State.refreshCell
  split
  · exact .refl s
  · exact sameBindings_onZone z (fun _ => by rfl) s

theorem sameBindings_modeStep (z : Nat) (s : State) : SameBindings s (s.modeStep z) := by
  unfold State.modeStep
  split
  · exact .refl s
  rename_i r hr
  split
  · split
    · exact sameBindings_rewriteZone hr rfl
    · exact .refl s
  split
  · exact (sameBindings_rewriteZone hr (by rfl)).trans (sameBindings_withdrawAll ..)
  · exact .refl s

theorem moveLevel_units (now : Word) (cap : Nat) (r : Zone) : (r.moveLevel now cap).units = r.units := by
  unfold Zone.moveLevel
  dsimp only
  split
  · rfl
  · split <;> rfl

theorem zone_levelStep_units (now : Word) (cap : Nat) (available : Bool) (r : Zone) :
    (r.levelStep now cap available).units = r.units := by
  unfold Zone.levelStep
  dsimp only [Zone.economize]
  split
  · rfl
  · exact moveLevel_units now cap r

theorem sameBindings_levelStep (z : Nat) (s : State) : SameBindings s (s.levelStep z) := by
  refine sameBindings_onZone z (fun r => ?_) s
  split
  · rfl
  · exact zone_levelStep_units ..
  · exact zone_levelStep_units ..

theorem sameBindings_reclaimStep (z short : Nat) (s : State) : SameBindings s (s.reclaimStep z short) := by
  unfold State.reclaimStep
  split
  · exact .refl s
  · rename_i r hr
    exact (sameBindings_rewriteZone hr (by rfl)).trans
      (sameBindings_foldl (fun s (p : Nat × StageName) => sameBindings_onStage p.1 p.2 _ s) _ _)

theorem sameBindings_requestStep (z : Nat) (s : State) : SameBindings s (s.requestStep z) := by
  unfold State.requestStep
  split
  · exact .refl s
  rename_i r hr
  split
  · split
    · exact .refl s
    split
    · rename_i c _ _
      have zone : (s.request c.unit c.stage).zone z = some r := by rw [request_frame]; exact hr
      exact (sameBindings_request ..).trans (sameBindings_rewriteZone zone rfl)
    · exact .refl s
  · exact .refl s

theorem sameBindings_giveUpStep (z : Nat) (s : State) : SameBindings s (s.giveUpStep z) := by
  unfold State.giveUpStep
  split
  · exact .refl s
  rename_i r hr
  split
  · exact sameBindings_withdraw ..
  split
  · exact .refl s
  rename_i c _
  have zone : (s.takeStop c.unit c.stage .satisfied).zone z = some r := by rw [takeStop_frame]; exact hr
  have stopped := sameBindings_takeStop c.unit c.stage .satisfied s
  dsimp only
  split
  · exact stopped.trans (sameBindings_rewriteZone zone rfl)
  · exact stopped

theorem sameBindings_matchStep (z : Nat) (s : State) : SameBindings s (s.matchStep z) := by
  unfold State.matchStep
  split
  · exact .refl s
  split
  · exact .refl s
  dsimp only
  split
  · split
    · exact (sameBindings_reclaimStep ..).trans (sameBindings_requestStep ..)
    · exact sameBindings_reclaimStep ..
  split
  · exact sameBindings_giveUpStep z s
  · exact .refl s

theorem takeTargets_sameBinding (r : Zone) (b : BoundUnit) : b.SameBinding (b.takeTargets r) := by
  unfold BoundUnit.takeTargets
  rw [rederiveGas_frame]
  exact ⟨rfl, rfl⟩

theorem sameBindings_channelStep (z : Nat) (s : State) : SameBindings s (s.channelStep z) := by
  unfold State.channelStep
  split
  · exact .refl s
  · exact sameBindings_foldl (fun s u => sameBindings_onUnit u (takeTargets_sameBinding _) s) _ s

theorem sameBindings_evaluate (z : Nat) (s : State) : SameBindings s (s.evaluate z) := by
  have read := ((sameBindings_refreshCell z s).trans (sameBindings_temperatureStep z _)).trans
    (sameBindings_onZone z (f := Zone.withSetpoints) (fun _ => rfl) _)
  unfold State.evaluate
  dsimp only
  split
  · exact (((read.trans (sameBindings_modeStep z _)).trans (sameBindings_levelStep z _)).trans
      (sameBindings_matchStep z _)).trans (sameBindings_channelStep z _)
  · exact read

theorem sameBindings_zoneEvaluation {zone : Nat} {s t : State} (run : exec (.zoneEvaluation zone) s = .next t) :
    SameBindings s t := by
  cases run
  split
  · exact .refl s
  rename_i r hr
  split
  · exact (sameBindings_rewriteZone hr (by rfl)).trans (sameBindings_evaluate ..)
  · exact .refl s

theorem sameBindings_overrideEnd {zone : Nat} {s t : State} (run : exec (.overrideEnd zone) s = .next t) :
    SameBindings s t := by
  cases run
  split
  · exact .refl s
  rename_i r hr
  split
  · exact .refl s
  split
  · exact (sameBindings_rewriteZone hr (by rfl)).trans (sameBindings_raise ..)
  · exact .refl s

theorem sameBindings_changeoverExpiry {zone : Nat} {s t : State} (run : exec (.changeoverExpiry zone) s = .next t) :
    SameBindings s t := by
  cases run
  refine sameBindings_onZone zone (fun r => ?_) s
  split <;> rfl

/-! ### The clock and the demand meter (chapters 3 and 5) -/

theorem sameBindings_deliver (s : State) : SameBindings s s.deliver := by
  unfold State.deliver
  split
  · exact .refl s
  · exact sameBindings_updateZones (fun _ _ => by rfl) s

theorem sameBindings_clockTick {s t : State} (run : exec .clockTick s = .next t) : SameBindings s t := by
  cases run
  split
  · exact .refl s
  dsimp only
  split
  · exact (sameBindings_setSchedule ..).trans (sameBindings_deliver _)
  · exact sameBindings_setSchedule ..

theorem sameBindings_closeInterval (ceiling : Nat) (atClockSet : Bool) (s : State) :
    SameBindings s (s.closeInterval ceiling atClockSet) := by
  rw [closeInterval_frame]
  exact sameBindings_of_tables rfl rfl rfl

theorem sameBindings_recordOverrun (load : Nat) (s : State) : SameBindings s (s.recordOverrun load) := by
  unfold State.recordOverrun
  dsimp only
  split
  · exact sameBindings_setMeter ..
  · exact (sameBindings_setMeter ..).trans (sameBindings_raise ..)

theorem sameBindings_accumulationEvent {s t : State} (run : exec .accumulationEvent s = .next t) : SameBindings s t := by
  have added : SameBindings s s.metered := sameBindings_setMeter ..
  rw [execAccumulationEvent_eq] at run
  cases run
  refine added.trans ?_
  split
  · exact sameBindings_closeInterval ..
  split
  · split
    · exact (sameBindings_takeStop ..).trans (sameBindings_setMeter ..)
    · exact (sameBindings_recordOverrun ..).trans (sameBindings_attempt ..)
  · exact sameBindings_attempt ..

theorem sameBindings_staggerExpiry {s t : State} (run : exec .staggerExpiry s = .next t) : SameBindings s t := by
  have stopped : SameBindings s s.staggerStopped := sameBindings_of_tables rfl rfl rfl
  rw [execStaggerExpiry_eq] at run
  cases run
  split
  · exact stopped.trans (sameBindings_attempt ..)
  · exact .refl s

theorem sameBindings_siteStale {s t : State} (run : exec .siteStale s = .next t) : SameBindings s t := by
  cases run
  split
  · exact (sameBindings_setMeter ..).trans (sameBindings_raise ..)
  · exact .refl s

/-! ### The ramp unit and the seconds (R2, R116, R119, R127) -/

theorem sameBindings_rampStep {s t : State} (run : exec .rampStep s = .next t) : SameBindings s t := by
  cases run
  refine sameBindings_updateUnits (fun _ b => ?_) s
  unfold BoundUnit.rampStep
  split <;> exact ⟨rfl, rfl⟩

theorem sameBindings_purgeExpiry {u : Nat} {s t : State} (run : exec (.purgeExpiry u) s = .next t) : SameBindings s t := by
  cases run
  refine sameBindings_onUnit u (fun b => ?_) s
  split <;> exact ⟨rfl, rfl⟩

theorem sameBindings_holdOffExpiry {u : Nat} {s t : State} (run : exec (.holdOffExpiry u) s = .next t) :
    SameBindings s t := by
  cases run
  refine sameBindings_onUnit u (fun b => ?_) s
  split <;> exact ⟨rfl, rfl⟩

theorem sameBindings_secondPasses (s : State) : SameBindings s (secondPasses s) :=
  ((sameBindings_updateUnits (f := fun _ b => b.tick) (fun _ _ => ⟨rfl, rfl⟩) s).trans
    (sameBindings_updateZones (f := fun _ r => r.tick) (fun _ _ => rfl) _)).trans (sameBindings_of_tables rfl rfl rfl)

/-! ### The roof bus (R135, R158 to R165) -/

theorem sameBindings_takeFallback (u : Nat) (s : State) : SameBindings s (s.takeFallback u) := by
  unfold State.takeFallback
  split
  · exact .refl s
  split
  · exact (sameBindings_stopAll ..).trans (sameBindings_onUnit u (f := BoundUnit.fallBack) (fun _ => ⟨rfl, rfl⟩) _)
  · exact .refl s

theorem sameBindings_takeProof (u : Nat) (st : StageName) (s : State) : SameBindings s (s.takeProof u st) := by
  unfold State.takeProof
  split
  · exact .refl s
  split
  · exact sameBindings_putUnit ‹_› (onStage_moved ..).sameBinding
  split
  · exact sameBindings_takeStop ..
  · exact .refl s

theorem sameBindings_softLimitAction (u : Nat) (heat : Bool) (s : State) : SameBindings s (s.softLimitAction u heat) := by
  unfold State.softLimitAction
  split
  · exact .refl s
  rename_i b hb
  split
  · have armed : SameBindings s (s.putUnit u b.startHoldOff) := sameBindings_putUnit hb ⟨rfl, rfl⟩
    dsimp only
    split
    · exact armed.trans (sameBindings_onUnit u (f := BoundUnit.backOffGas) (fun _ => ⟨rfl, rfl⟩) _)
    split
    · exact armed.trans (sameBindings_takeStop ..)
    · exact armed
  · exact .refl s

theorem sameBindings_takeEvent (u : Nat) (e : ReplyEvent) (s : State) : SameBindings s (s.takeEvent u e) := by
  cases e with
  | proof st => exact sameBindings_takeProof u st s
  | trip st => exact sameBindings_takeStop ..
  | flame st => exact sameBindings_takeStop ..
  | fan st => exact sameBindings_takeStop ..
  | soft heat => exact sameBindings_softLimitAction u heat s

theorem sameBindings_rebuildUnexpected (u : Nat) (s : State) : SameBindings s (s.rebuildUnexpected u) := by
  unfold State.rebuildUnexpected
  split
  · exact .refl s
  · rename_i b hb
    have rebuilt : SameBindings s (s.putUnit u b.rebuilt) := sameBindings_putUnit hb ⟨rfl, rfl⟩
    exact (rebuilt.trans (sameBindings_foldl (fun s st => sameBindings_raise ..) _ _)).trans (sameBindings_useFree ..)

theorem sameBindings_hear {u : Nat} {b : BoundUnit} {s : State} (hb : s.unit u = some b) (r : BoardReply) :
    SameBindings s (s.hear u r b) := by
  unfold State.hear
  split
  · exact (sameBindings_raise ..).trans (sameBindings_putUnit (b := b) hb ⟨rfl, rfl⟩)
  · exact sameBindings_putUnit hb ⟨rfl, rfl⟩

theorem sameBindings_goodReply (u : Nat) (r : BoardReply) (s : State) : SameBindings s (s.goodReply u r) := by
  cases hb : s.unit u with
  | none =>
    simp only [State.goodReply, hb]
    exact .refl s
  | some b =>
    have failStop (c : BoundUnit) : c.SameBinding c.fanFailStop := by
      unfold BoundUnit.fanFailStop
      split <;> exact ⟨rfl, rfl⟩
    rw [goodReply_eq hb]
    exact ((((sameBindings_hear hb r).trans (sameBindings_foldl (fun s e => sameBindings_takeEvent u e s) _ _)).trans
      (sameBindings_useFree ..)).trans (sameBindings_onUnit u failStop _)).trans (sameBindings_rebuildUnexpected u _)

theorem sameBindings_declareLost {u : Nat} {b c : BoundUnit} {s : State} (hc : s.unit u = some c) (same : c.SameBinding b) :
    SameBindings s (s.declareLost u b) :=
  (((sameBindings_putUnit (c := { b.setLink .lost with lostOn := b.onSet }) hc same).trans (sameBindings_raise ..)).trans
    (sameBindings_withdrawAll ..)).trans (sameBindings_takeFallback ..)

theorem sameBindings_miss (u : Nat) (s : State) : SameBindings s (s.miss u) := by
  unfold State.miss
  split
  · exact .refl s
  rename_i b hb
  dsimp only
  split
  · exact sameBindings_putUnit hb ⟨rfl, rfl⟩
  · exact sameBindings_putUnit hb ⟨rfl, rfl⟩
  · exact sameBindings_putUnit hb ⟨rfl, rfl⟩
  split
  · exact sameBindings_putUnit hb ⟨rfl, rfl⟩
  · exact sameBindings_declareLost hb ⟨rfl, rfl⟩

theorem sameBindings_nextVisit (s : State) : SameBindings s s.nextVisit := by
  rw [nextVisit_frame]
  exact sameBindings_setRoof ..

theorem sameBindings_visitEnd {received : List Byte} {s t : State} (run : exec (.visitEnd received) s = .next t) :
    SameBindings s t := by
  cases run
  split
  · exact .refl s
  · dsimp only
    refine .trans ?_ (sameBindings_nextVisit _)
    split
    · split
      · exact sameBindings_goodReply ..
      · exact sameBindings_miss ..
    · exact .refl s

theorem sameBindings_pollCycleStart {ms : Nat} {s t : State} (run : exec (.pollCycleStart ms) s = .next t) :
    SameBindings s t := by
  cases run
  split
  · exact (sameBindings_setRoof ..).trans (sameBindings_nextVisit _)
  · exact .refl s

end Sys2Proof.Machine
end

section
/-! PROOF. The checks of R144 and R145 in the words of their rules, and what binding, freeing and refreshing a unit leave of the
units and of the zones. -/

namespace Sys2Proof.Machine

/-! ### The checks (R144, R145) -/

theorem profileMissing_iff {profiles : Table (List Segment)} {k : Nat} :
    profileMissing profiles k = true ↔ k ≠ 0 ∧ Table.find k profiles = none := by simp [profileMissing]

/-- R144: the heat count fits the kind. -/
theorem kindMisfit_iff {d : Descriptor} :
    ((d.kind == .coolOnly) != (d.heatCount == 0)) = true ↔ ¬(d.kind = .coolOnly ↔ d.heatCount = 0) := by
  by_cases hk : d.kind = .coolOnly <;> by_cases hn : d.heatCount = 0 <;> simp [hk, hn]

/-- R144: the first field that fails, in the order 4, 16, 17, 18. -/
theorem misfit_iff {profiles : Table (List Segment)} {d : Descriptor} {id : Nat} :
    Rule.Misfit profiles d id ↔ d.misfit profiles = some id := by
  have present (k : Nat) : k = 0 ∨ Table.find k profiles ≠ none ↔ ¬profileMissing profiles k = true := by
    rw [profileMissing_iff]
    tauto
  simp only [Rule.Misfit, Descriptor.misfit, kindMisfit_iff, present, ← profileMissing_iff]
  by_cases kind : d.kind = .coolOnly ↔ d.heatCount = 0
  · cases profileMissing profiles d.fanProfile <;> cases profileMissing profiles d.damperProfile <;>
      simp [kind, and_comm, @eq_comm _ id]
  · simp [kind, @eq_comm _ id]

/-- R144: a descriptor may become an active copy when no field fails. -/
theorem fitsBinding_iff {profiles : Table (List Segment)} {d : Descriptor} :
    FitsBinding profiles d ↔ d.misfit profiles = none := by
  have missing (k : Nat) : profileMissing profiles k = true ↔ ¬(k ≠ 0 → (Table.find k profiles).isSome = true) := by
    rw [profileMissing_iff, Option.isSome_iff_ne_none]
    tauto
  unfold Descriptor.misfit
  simp only [kindMisfit_iff, missing]
  refine ⟨fun ⟨kind, named⟩ => ?_, fun fits => ?_⟩
  · rw [if_neg (not_not.mpr kind), if_neg (not_not.mpr (named _ (.inl rfl))),
      if_neg (not_not.mpr (named _ (.inr (.inl rfl)))), if_neg (not_not.mpr (named _ (.inr (.inr rfl))))]
  · split at fits
    · cases fits
    split at fits
    · cases fits
    split at fits
    · cases fits
    split at fits
    · cases fits
    rename_i kind fan damper gas
    refine ⟨not_not.mp kind, ?_⟩
    rintro k (rfl | rfl | rfl)
    · exact not_not.mp fan
    · exact not_not.mp damper
    · exact not_not.mp gas

/-- R145, R149: no other bound unit has the bus address. -/
theorem addressFree_iff {s : State} {u address : Nat} : AddressFree s u address ↔ s.addressTaken u address = false := by
  simp [AddressFree, State.addressTaken]

/-- R145: a wrong index comes first. -/
theorem bindFailure_index {s : State} {u z : Nat} (bad : ¬(1 ≤ u ∧ u ≤ 24 ∧ z ≤ 12)) :
    s.bindFailure u z = some (.index, none) := by
  have fails : unitNumber u = false ∨ 12 < z := by
    rw [Bool.eq_false_iff, ne_eq, unitNumber_iff]
    omega
  rw [State.bindFailure, if_pos fails]

section
variable {s : State} {u z : Nat} (low : 1 ≤ u) (high : u ≤ 24) (zone : z ≤ 12)
include low high zone

theorem bindFailure_inRange :
    ¬(unitNumber u = false ∨ 12 < z) := by
  rw [unitNumber_iff.mpr ⟨low, high⟩]
  simpa using zone

theorem bindFailure_absent (absent : s.descriptor u = none ∨ (z ≠ 0 ∧ s.zone z = none)) :
    s.bindFailure u z = some (.absent, none) := by
  rw [State.bindFailure, if_neg (bindFailure_inRange low high zone)]
  cases hd : s.descriptor u with
  | none => rfl
  | some d =>
    have undefined := absent.resolve_left (by rw [hd]; exact nofun)
    exact if_pos ⟨undefined.1, by rw [undefined.2]; rfl⟩

/-- R145: the checks from TAKEN onward, for a stored descriptor and a zone that is defined, or none. -/
theorem bindFailure_stored {d : Descriptor} (hd : s.descriptor u = some d) (defined : z ≠ 0 → s.zone z ≠ none) :
    s.bindFailure u z =
      if s.unit u ≠ none then some (.taken, none)
      else if z ≠ 0 ∧ 4 ≤ (s.unitList z).length then some (.full, none)
      else
        (d.misfit s.profiles).elim (if s.addressTaken u d.busAddress then some (.conflict, none) else none)
          fun id => some (.range, some id) := by
  have undefined : ¬(z ≠ 0 ∧ (s.zone z).isNone = true) := fun ⟨parked, no⟩ => defined parked (Option.isNone_iff_eq_none.mp no)
  have length : ((s.zone z).map fun r => r.units.length).getD 0 = (s.unitList z).length := by
    rw [State.unitList]
    cases s.zone z <;> rfl
  simp only [State.bindFailure, if_neg (bindFailure_inRange low high zone), hd, if_neg undefined, length,
    Option.isSome_iff_ne_none, Config.zoneUnits]
  cases d.misfit s.profiles <;> rfl

end

/-- R145: a unit passes every check exactly when no check fails. -/
theorem bindable_iff {s : State} {u z : Nat} {d : Descriptor} :
    Rule.Bindable s u z d ↔ s.bindFailure u z = none ∧ s.descriptor u = some d := by
  have room : (z ≠ 0 → ∃ r, s.zone z = some r ∧ r.units.length < 4) ↔
      (z ≠ 0 → s.zone z ≠ none) ∧ ¬(z ≠ 0 ∧ 4 ≤ (s.unitList z).length) := by
    cases hr : s.zone z with
    | none => simp [unitList_undefined hr]
    | some r => simp [unitList_defined hr]
  unfold Rule.Bindable
  rw [room, fitsBinding_iff, addressFree_iff]
  constructor
  · rintro ⟨low, high, zone, hd, unbound, ⟨defined, space⟩, fits, free⟩
    refine ⟨?_, hd⟩
    rw [bindFailure_stored low high zone hd defined, if_neg (not_not.mpr unbound), if_neg space, fits, free]
    rfl
  · rintro ⟨passes, hd⟩
    have range : 1 ≤ u ∧ u ≤ 24 ∧ z ≤ 12 := by
      by_contra bad
      rw [bindFailure_index bad] at passes
      cases passes
    obtain ⟨low, high, zone⟩ := range
    have defined : z ≠ 0 → s.zone z ≠ none := fun parked undefined => by
      rw [bindFailure_absent low high zone (.inr ⟨parked, undefined⟩)] at passes
      cases passes
    rw [bindFailure_stored low high zone hd defined] at passes
    split at passes
    · cases passes
    rename_i unbound
    split at passes
    · cases passes
    rename_i space
    cases fits : d.misfit s.profiles with
    | some id => simp [fits] at passes
    | none =>
      have free : s.addressTaken u d.busAddress = false := by simpa [fits] using passes
      exact ⟨low, high, zone, hd, not_not.mp unbound, ⟨defined, space⟩, rfl, free⟩

/-! ### Binding (R146) -/

theorem bindUnit_zone (u z y : Nat) (d : Descriptor) (counters : StageName → Nat × Nat) (s : State) :
    (s.bindUnit u z d counters).zone y =
      (s.zone y).map fun r => if y = z then { r with units := r.units ++ [u] } else r := by
  rw [State.bindUnit, zone_onZone, putUnit_zone, putUnit_zone]
  split
  · subst y
    rfl
  · exact Option.map_id'.symm ▸ rfl

/-! ### Freeing (R148) -/

theorem freeUnit_unit (u v : Nat) (s : State) : (s.freeUnit u).unit v = if v = u then none else s.unit v := by
  unfold State.freeUnit
  cases hb : s.unit u with
  | none =>
    dsimp only
    split
    · subst v
      exact hb
    · rfl
  | some b =>
    dsimp only
    rw [onZone_unit, setRoof_unit, setUnits_unit, find_erase]
    rfl

/-- R148: the unit leaves the list of the zone to which it is bound. -/
theorem freeUnit_zone {u : Nat} {b : BoundUnit} {s : State} (hb : s.unit u = some b) (y : Nat) :
    (s.freeUnit u).zone y =
      (s.zone y).map fun r => if y = b.zone then { r with units := r.units.filter fun v => v ≠ u } else r := by
  simp only [State.freeUnit, hb]
  rw [zone_onZone, setRoof_zone, setRoof_zone, setUnits_zone, setUnits_zone]
  split
  · subst y
    rfl
  · simp

end Sys2Proof.Machine
end

section
/-! PROOF. O60: the operations that bind, free or list units, and what every command keeps of the law of bindings. -/

namespace Sys2Proof.Machine

/-! ### Binding (R145, R146) -/

/-- R67: a zone's list after a binding; no list is that of zone 0. -/
theorem unitList_bindUnit {u z : Nat} {d : Descriptor} {s : State} (form : Table.wf s.zones = true)
    (defined : z ≠ 0 → s.zone z ≠ none) (counters : StageName → Nat × Nat) (y : Nat) :
    (s.bindUnit u z d counters).unitList y = if y = z ∧ z ≠ 0 then s.unitList y ++ [u] else s.unitList y := by
  rw [State.unitList, bindUnit_zone]
  cases hr : s.zone y with
  | none =>
    rw [unitList_undefined hr, if_neg fun ⟨here, parked⟩ => defined parked (here ▸ hr)]
    rfl
  | some r =>
    have positive := zone_pos hr form
    rw [unitList_defined hr]
    by_cases here : y = z
    · have parked : z ≠ 0 := by omega
      simp [here, parked]
    · simp [here]

theorem zoneOf_bindUnit (u z v : Nat) (d : Descriptor) (counters : StageName → Nat × Nat) (s : State) :
    (s.bindUnit u z d counters).zoneOf v = if v = u then some z else s.zoneOf v := by
  rw [State.zoneOf, bindUnit_unit]
  split <;> rfl

theorem addressOf_bindUnit (u z v : Nat) (d : Descriptor) (counters : StageName → Nat × Nat) (s : State) :
    (s.bindUnit u z d counters).addressOf v = if v = u then some d.busAddress else s.addressOf v := by
  rw [State.addressOf, bindUnit_unit]
  split <;> rfl

/-- R145: an address that is free is that of no other unit. -/
theorem AddressFree.ne {s : State} {u v a : Nat} (free : AddressFree s u a) (other : v ≠ u) : s.addressOf v ≠ some a := by
  intro taken
  obtain ⟨b, hb, same⟩ := addressOf_eq_some.mp taken
  exact free (v, b) (mem_of_find hb) other same

/-- A unit that has the address `a` alone, with the others as they were, shares it with none. -/
theorem addresses_of_free {s : State} {u a : Nat} {address : Nat → Option Nat} (agree : BindingsAgree s)
    (free : AddressFree s u a) (here : address u = some a) (others : ∀ v, v ≠ u → address v = s.addressOf v) (v w c : Nat)
    (hv : address v = some c) (hw : address w = some c) : v = w := by
  by_cases first : v = u <;> by_cases second : w = u
  · rw [first, second]
  · subst first
    obtain rfl : a = c := Option.some.inj (here.symm.trans hv)
    exact absurd ((others w second).symm.trans hw) (free.ne second)
  · subst second
    obtain rfl : a = c := Option.some.inj (here.symm.trans hw)
    exact absurd ((others v first).symm.trans hv) (free.ne first)
  · exact agree.addresses v w c ((others v first).symm.trans hv) ((others w second).symm.trans hw)

/-- R145, R146: a unit that passes the checks joins a list that has room and did not hold it. -/
theorem bindingsAgree_bindUnit {u z : Nat} {d : Descriptor} {s : State} (agree : BindingsAgree s)
    (bindable : Rule.Bindable s u z d) (counters : StageName → Nat × Nat) :
    BindingsAgree (s.bindUnit u z d counters) := by
  obtain ⟨low, high, zone, _, unbound, room, _, free⟩ := bindable
  have defined : z ≠ 0 → s.zone z ≠ none := fun parked => by
    obtain ⟨r, hr, _⟩ := room parked
    rw [hr]
    exact nofun
  have unlisted (y : Nat) : u ∉ s.unitList y := fun member => by
    have bound := ((agree.listed u y).mp member).2
    rw [State.zoneOf, unbound] at bound
    cases bound
  refine ⟨?_, ?_, fun v y bound => ?_, fun v y => ?_, fun y => ?_, fun v w a => ?_⟩
  · rw [State.bindUnit, onZone_units]
    exact wf_put low _ agree.units
  · exact wf_onZone z _ (s := s.putUnit u _) agree.zones
  · rw [zoneOf_bindUnit] at bound
    split at bound
    · cases bound
      subst v
      exact ⟨high, zone⟩
    · exact agree.numbers v y bound
  · rw [unitList_bindUnit agree.zones defined, zoneOf_bindUnit]
    by_cases hv : v = u
    · subst hv
      by_cases hy : y = z ∧ z ≠ 0
      · simp [hy]
      · have elsewhere : ¬(y ≠ 0 ∧ z = y) := by omega
        simpa [hy, unlisted y] using elsewhere
    · have member : v ∈ (if y = z ∧ z ≠ 0 then s.unitList y ++ [u] else s.unitList y) ↔ v ∈ s.unitList y := by
        split <;> simp [hv]
      rw [member, if_neg hv, agree.listed]
  · rw [unitList_bindUnit agree.zones defined]
    obtain ⟨most, once⟩ := agree.lists y
    split
    · rename_i here
      obtain ⟨rfl, parked⟩ := here
      obtain ⟨r, hr, space⟩ := room parked
      have length : (s.unitList y).length < 4 := by rwa [unitList_defined hr]
      refine ⟨by simpa using length, List.nodup_append.mpr ⟨once, List.nodup_singleton u, fun v member w only => ?_⟩⟩
      rintro rfl
      exact unlisted y (List.mem_singleton.mp only ▸ member)
    · exact ⟨most, once⟩
  · refine addresses_of_free agree free ?_ (fun x other => ?_) v w a
    · rw [addressOf_bindUnit, if_pos rfl]
    · rw [addressOf_bindUnit, if_neg other]

/-! ### Freeing and refreshing (R148, R149) -/

theorem zoneOf_freeUnit (u v : Nat) (s : State) : (s.freeUnit u).zoneOf v = if v = u then none else s.zoneOf v := by
  rw [State.zoneOf, freeUnit_unit]
  split <;> rfl

theorem addressOf_freeUnit (u v : Nat) (s : State) : (s.freeUnit u).addressOf v = if v = u then none else s.addressOf v := by
  rw [State.addressOf, freeUnit_unit]
  split <;> rfl

/-- R148: no list holds the unit after it has been freed, and every other unit keeps its place. -/
theorem unitList_freeUnit {u : Nat} {s : State} (agree : BindingsAgree s) (y : Nat) :
    (s.freeUnit u).unitList y = (s.unitList y).filter fun v => v ≠ u := by
  have unlisted (elsewhere : s.zoneOf u ≠ some y) : (s.unitList y).filter (fun v => v ≠ u) = s.unitList y :=
    List.filter_eq_self.mpr fun v member => by
      refine decide_eq_true fun same => ?_
      subst v
      exact elsewhere ((agree.listed u y).mp member).2
  cases hb : s.unit u with
  | none =>
    rw [unlisted (by rw [State.zoneOf, hb]; exact nofun), State.freeUnit, hb]
  | some b =>
    rw [State.unitList, freeUnit_zone hb]
    by_cases here : y = b.zone
    · rw [State.unitList]
      cases s.zone y <;> simp [here]
    · rw [unlisted (by rw [State.zoneOf, hb]; exact fun same => here (Option.some.inj same).symm), State.unitList]
      cases s.zone y <;> simp [here]

theorem bindingsAgree_freeUnit (u : Nat) {s : State} (agree : BindingsAgree s) : BindingsAgree (s.freeUnit u) := by
  refine ⟨?_, ?_, fun v y bound => ?_, fun v y => ?_, fun y => ?_, fun v w a hv hw => ?_⟩
  · unfold State.freeUnit
    split
    · exact agree.units
    · rw [onZone_units]
      exact wf_erase u agree.units
  · unfold State.freeUnit
    split
    · exact agree.zones
    · exact wf_onZone _ _ (s := (s.setUnits _).setRoof _) agree.zones
  · rw [zoneOf_freeUnit] at bound
    split at bound
    · cases bound
    · exact agree.numbers v y bound
  · rw [unitList_freeUnit agree, zoneOf_freeUnit, List.mem_filter, agree.listed]
    by_cases hv : v = u <;> simp [hv]
  · obtain ⟨most, once⟩ := agree.lists y
    rw [unitList_freeUnit agree]
    exact ⟨(List.length_filter_le _ _).trans most, once.filter _⟩
  · rw [addressOf_freeUnit] at hv hw
    split at hv
    · cases hv
    split at hw
    · cases hw
    exact agree.addresses v w a hv hw

theorem bindingsAgree_foldl {α : Type} {f : State → α → State} (each : ∀ s a, BindingsAgree s → BindingsAgree (f s a))
    (l : List α) {s : State} (agree : BindingsAgree s) : BindingsAgree (l.foldl f s) := by
  induction l generalizing s with
  | nil => exact agree
  | cons a l ih => exact ih (each s a agree)

/-- R149: a bound unit may take a copy with a bus address that no other unit has. -/
theorem bindingsAgree_readdress {u : Nat} {b c : BoundUnit} {s : State} (agree : BindingsAgree s) (hb : s.unit u = some b)
    (zone : c.zone = b.zone) (free : AddressFree s u c.copy.busAddress) : BindingsAgree (s.putUnit u c) := by
  have bound (v : Nat) : (s.putUnit u c).zoneOf v = s.zoneOf v := by
    rw [State.zoneOf, unit_putUnit]
    split
    · subst v
      rw [State.zoneOf, hb, Option.map_some, Option.map_some, zone]
    · rfl
  refine ⟨wf_putUnit hb c agree.units, agree.zones, fun v y here => agree.numbers v y (bound v ▸ here), fun v y => ?_,
    agree.lists, fun v w a => addresses_of_free agree free ?_ (fun x other => ?_) v w a⟩
  · rw [bound, ← agree.listed]
    rfl
  · rw [State.addressOf, unit_putUnit_same]
    rfl
  · rw [State.addressOf, unit_putUnit, if_neg other, State.addressOf]

theorem bindingsAgree_serveUnitBind (unit zone : Byte) {s : State} (agree : BindingsAgree s) :
    BindingsAgree (serveUnitBind unit zone s).1 := by
  unfold serveUnitBind
  split
  · exact agree
  · exact agree
  split
  · exact agree
  · exact bindingsAgree_bindUnit agree (bindable_iff.mpr ⟨‹_›, ‹_›⟩) _

theorem bindingsAgree_serveUnitFree (unit : Byte) {s : State} (agree : BindingsAgree s) :
    BindingsAgree (serveUnitFree unit s).1 := by
  unfold serveUnitFree
  split
  · exact agree
  split
  · exact agree
  split
  · exact agree
  · exact bindingsAgree_freeUnit _ agree

theorem bindingsAgree_serveUnitRefresh (unit : Byte) {s : State} (agree : BindingsAgree s) :
    BindingsAgree (serveUnitRefresh unit s).1 := by
  unfold serveUnitRefresh
  dsimp only
  split
  · exact agree
  split
  · rename_i b d hb hd
    split
    · exact agree
    split
    · exact agree
    split
    · exact agree
    rename_i free
    have refreshed : BindingsAgree (s.putUnit unit.toNat (b.refresh d)) :=
      bindingsAgree_readdress agree hb rfl (addressFree_iff.mpr (Bool.eq_false_iff.mpr free))
    unfold accept
    dsimp only
    split
    · exact (sameBindings_takeFallback ..).agree refreshed
    · exact refreshed
  · exact agree

/-! ### Clearing and power-on (R179, R180) -/

/-- With no unit bound and no unit listed there is nothing to disagree. -/
theorem bindingsAgree_unbound {s : State} (units : s.units = []) (zones : Table.wf s.zones = true)
    (lists : ∀ z, s.unitList z = []) : BindingsAgree s := by
  have unbound (u : Nat) : s.unit u = none := by rw [State.unit, units]; rfl
  refine ⟨by rw [units]; rfl, zones, ?_, ?_, fun z => by simp [lists], ?_⟩ <;>
    simp [State.zoneOf, State.addressOf, unbound, lists]

theorem eq_nil_of_find {α : Type} {t : Table α} (absent : ∀ k, Table.find k t = none) : t = [] := by
  cases t with
  | nil => rfl
  | cons p t => simpa [Table.find] using absent p.1

theorem freeAll_unit (units : Table BoundUnit) (s : State) (u : Nat) :
    (units.foldl (fun s p => s.freeUnit p.1) s).unit u = if u ∈ units.map Prod.fst then none else s.unit u := by
  induction units generalizing s with
  | nil => simp
  | cons p rest ih =>
    rw [List.foldl_cons, ih, freeUnit_unit]
    by_cases first : u = p.1 <;> by_cases later : u ∈ rest.map Prod.fst <;> simp [first, later]

/-- R179: a clear frees every unit. -/
theorem freeAll_units (s : State) : (s.units.foldl (fun s p => s.freeUnit p.1) s).units = [] := by
  refine eq_nil_of_find fun u => (freeAll_unit s.units s u).trans (ite_eq_left_iff.mpr fun unlisted => ?_)
  cases hb : s.unit u with
  | none => rfl
  | some b => exact absurd (List.mem_map_of_mem (f := Prod.fst) (mem_of_find hb)) unlisted

theorem bindingLaw_clear (s : State) : BindingLaw s.clear := by
  have zones : s.clear.zones = [] := rfl
  refine bindingLaw_iff.mpr ⟨bindingsAgree_unbound ((clear_units s).trans (freeAll_units s)) (by rw [zones]; rfl)
    fun z => ?_, rfl, nofun, rfl⟩
  rw [State.unitList, State.zone, zones]
  rfl

/-- R180: the tables that an image in form gives are in form. -/
theorem load_inForm {i : Image} (image : i.contents.BindingsInForm) : i.load.BindingsInForm := by
  unfold Image.load
  split
  · exact image
  · exact ⟨rfl, nofun, rfl⟩

/-- R180: the load defines the zones of the image, with no unit in any list. -/
theorem bindingLaw_loaded (smoke service protect : Bool) {s : State} (law : BindingLaw s) :
    BindingLaw (s.loaded smoke service protect) := by
  have base {m : State} (units : m.units = [])
      (zones : m.zones = s.store.image.load.zones.map fun p => (p.1, Zone.make p.2 0#32 p.2.fallbackCell []))
      (image : m.store.image = s.store.image) : BindingLaw m := by
    refine bindingLaw_iff.mpr ⟨bindingsAgree_unbound units ?_ fun z => ?_, image ▸ law.image⟩
    · rw [zones]
      exact above_map (fun p => Zone.make p.2 0#32 p.2.fallbackCell []) (load_inForm law.image).zones
    · cases hr : m.zone z with
      | none => exact unitList_undefined hr
      | some r =>
        rw [State.zone, zones] at hr
        obtain ⟨p, _, made⟩ := List.mem_map.mp (mem_of_find hr)
        rw [unitList_defined (show m.zone z = some r by rw [State.zone, zones]; exact hr)]
        cases made
        rfl
  unfold State.loaded
  dsimp only
  split <;> exact base rfl rfl rfl

theorem smokeAction_sameBinding (b : BoundUnit) : b.SameBinding b.smokeAction := by
  unfold BoundUnit.smokeAction
  split <;> exact ⟨rfl, rfl⟩

/-- R180: a stored binding is re-made through the checks of UNIT.BIND, or dropped. -/
theorem bindingsAgree_remake (s : State) (p : Nat × SavedBinding) (agree : BindingsAgree s) :
    BindingsAgree (s.remake p) := by
  unfold State.remake
  split
  · have bound := bindingsAgree_bindUnit agree (bindable_iff.mpr ⟨‹_›, ‹_›⟩) p.2.counter
    unfold State.smokeAtBinding
    split
    · exact (sameBindings_onUnit p.1 smokeAction_sameBinding _).agree bound
    · exact bound
  · exact (sameBindings_raise ..).agree agree
  · exact agree

theorem bindingLaw_powerOn {smoke service protect : Bool} {s t : State} (law : BindingLaw s)
    (run : exec (.powerOn smoke service protect) s = .next t) : BindingLaw t := by
  cases run
  have loaded := bindingLaw_loaded smoke service protect law
  have image := (sameMetering_foldl sameMetering_remake s.store.image.load.bindings (s.loaded smoke service protect)).image
  refine (sameBindings_setRoof ..).law (bindingLaw_iff.mpr ⟨bindingsAgree_foldl bindingsAgree_remake _ loaded.agree, ?_⟩)
  rw [image]
  exact loaded.image

/-! ### Saving (R176, R177) -/

/-- R176: the image takes the bindings and the zones as they stand. -/
theorem contents_inForm {s : State} (agree : BindingsAgree s) : s.contents.BindingsInForm where
  zones := above_map (fun p : Nat × Zone => p.2.config) agree.zones
  rising := above_map (fun p : Nat × BoundUnit => p.2.saved) agree.units
  numbers p member := by
    obtain ⟨⟨u, b⟩, listed, rfl⟩ := List.mem_map.mp member
    have hb := ((mem_iff_find agree.units u b).mp listed).2
    exact agree.numbers u b.zone (zoneOf_eq_some.mpr ⟨b, hb, rfl⟩)

theorem bindingLaw_serveStoreSave {s : State} (law : BindingLaw s) : BindingLaw (serveStoreSave s).1 := by
  unfold serveStoreSave
  split
  · exact law
  · obtain ⟨units, zones, numbers, listed, lists, addresses⟩ := law.agree
    exact bindingLaw_iff.mpr ⟨⟨units, zones, numbers, listed, lists, addresses⟩, contents_inForm law.agree⟩

theorem sameBindings_saveCompletion {equal : Bool} {s t : State} (run : exec (.saveCompletion equal) s = .next t) :
    SameBindings s t := by
  cases run
  split
  · unfold State.completeSave
    dsimp only
    split <;> exact sameBindings_of_tables rfl rfl rfl
  · exact .refl s

/-! ### Smoke and restart (R121, R136, R138, R171) -/

theorem sameBindings_enterShutdown (s : State) : SameBindings s s.enterShutdown := by
  unfold State.enterShutdown
  extract_lets _ m stopped acted zoned
  have noted : SameBindings s m := sameBindings_of_tables rfl rfl rfl
  have acts : SameBindings stopped acted := sameBindings_updateUnits (fun _ => smokeAction_sameBinding) _
  have zones : SameBindings acted zoned := sameBindings_updateZones (fun _ _ => by rfl) _
  exact (((noted.trans (sameBindings_stopEverything .shutdown m)).trans acts).trans zones).trans (sameBindings_setSchedule ..)

theorem sameBindings_smokeAsserted {s t : State} (run : exec .smokeAsserted s = .next t) : SameBindings s t := by
  cases run
  split
  · exact (sameBindings_setHost ..).trans (sameBindings_enterShutdown _)
  · exact sameBindings_setHost ..

theorem sameBindings_restart (s : State) : SameBindings s s.restart := by
  unfold State.restart
  extract_lets stopped armed zoned
  have arms : SameBindings stopped armed := sameBindings_of_tables rfl rfl rfl
  have zones : SameBindings armed zoned := sameBindings_updateZones (fun _ _ => by rfl) _
  exact (((sameBindings_stopEverything .restart s).trans arms).trans zones).trans (sameBindings_setSchedule ..)

theorem sameBindings_servePartRelease (s : State) : SameBindings s (servePartRelease s).1 := by
  have released (b : BoundUnit) : b.SameBinding b.releaseParked := by
    unfold BoundUnit.releaseParked
    split <;> exact ⟨rfl, rfl⟩
  unfold servePartRelease
  split
  · exact .refl s
  · unfold accept
    dsimp only
    split
    · unfold State.release
      extract_lets _ noted armed
      have arms : SameBindings s armed := sameBindings_of_tables rfl rfl rfl
      exact arms.trans (sameBindings_updateUnits (fun _ => released) _)
    · exact .refl s

/-! ### Requests (R169, R170) -/

/-- R69: a zone is defined with an empty list, keeps its list, or is removed with an empty one. -/
theorem sameBindings_serveZonePut (zone flag : Byte) (fields : ZoneFields) (s : State) :
    SameBindings s (serveZonePut zone flag fields s).1 := by
  unfold serveZonePut
  dsimp only
  split
  · exact .refl s
  rename_i number
  split
  · split
    · exact .refl s
    · unfold State.defineZone accept
      dsimp only
      split
      · exact sameBindings_rewriteZone ‹_› (by rfl)
      · rename_i undefined
        exact sameBindings_putZone (fun _ => (zoneNumber_iff.mp (by simpa using number)).1) (unitList_undefined undefined).symm
  split
  · split
    · rename_i empty
      refine sameBindings_of_zones (wf_erase _) (fun y => ?_) rfl rfl
      unfold accept
      dsimp only
      rw [State.unitList, zone_undefineZone]
      split
      · subst y
        cases hr : s.zone zone.toNat with
        | none => exact (unitList_undefined hr).symm
        | some r =>
          have none : r.units = [] := by simpa [hr] using empty
          rw [unitList_defined hr, none]
          rfl
      · rfl
    · exact .refl s
  · exact .refl s

theorem sameBindings_serveZoneOverride (zone : Byte) (duration cool heat : Half) (modeForce occForce : Option Byte)
    (s : State) : SameBindings s (serveZoneOverride zone duration cool heat modeForce occForce s).1 := by
  unfold serveZoneOverride
  dsimp only
  split
  · exact .refl s
  split
  · exact .refl s
  rename_i r hr
  split
  · exact .refl s
  split
  · exact sameBindings_rewriteZone hr (by rfl)
  · exact sameBindings_rewriteZone hr (by rfl)

theorem sameBindings_serveClockSet (day : Byte) (minute : Half) (second mark weekday : Byte) (s : State) :
    SameBindings s (serveClockSet day minute second mark weekday s).1 := by
  have metered (ceiling : Nat) (s : State) : SameBindings s (s.meterClockSet ceiling) := by
    unfold State.meterClockSet
    split
    · exact sameBindings_setMeter ..
    · exact sameBindings_closeInterval ..
  unfold serveClockSet
  split
  · exact .refl s
  · exact (((sameBindings_setSchedule ..).trans (sameBindings_deliver _)).trans (metered _ _)).trans
      (sameBindings_useFree ..)

theorem sameBindings_serveSchedFill (mask : Byte) (values : List FillValue) (s : State) :
    SameBindings s (serveSchedFill mask values s).1 := by
  have delivered (cells : List Nat) (s : State) : SameBindings s (s.deliverWritten cells) := by
    unfold State.deliverWritten
    split
    · exact .refl s
    · refine sameBindings_updateZones (fun _ r => ?_) s
      split <;> rfl
  unfold serveSchedFill
  split
  · exact .refl s
  split
  · exact .refl s
  split
  · exact .refl s
  · exact (sameBindings_setSchedule ..).trans (delivered _ _)

/-- The requests whose owners refuse, or write one item of a block other than the units, the zones and the store. -/
def requestLeavesBindings : Request → Bool
  | .partProtect .. | .noteTake | .unitPut .. | .schedWindow .. | .schedEnd | .profilePut .. | .demandLimits ..
  | .demandSite .. => true
  | _ => false

theorem sameBindings_serve {r : Request} (leaves : requestLeavesBindings r = true) (s : State) :
    SameBindings s (serve r s).1 := by
  cases r with
  | noteTake | demandSite => exact sameBindings_of_tables rfl rfl rfl
  | partProtect | unitPut | schedWindow | schedEnd | profilePut | demandLimits =>
    simp only [serve, servePartProtect, serveUnitPut, serveSchedWindow, serveSchedEnd, serveProfilePut, serveDemandLimits,
      State.applyLimits]
    repeat' split
    all_goals exact sameBindings_of_tables rfl rfl rfl
  | _ => cases leaves

theorem sameBindings_serveStageUnlock (unit stage : Byte) (s : State) :
    SameBindings s (serveStageUnlock unit stage s).1 := by
  unfold serveStageUnlock
  split
  · split
    · exact .refl s
    rename_i b hb
    split
    · exact .refl s
    split
    · exact sameBindings_putUnit hb ⟨rfl, rfl⟩
    · exact .refl s
  · exact .refl s

theorem BindingLaw.of_agree {s t : State} (law : BindingLaw s) (agree : BindingsAgree t)
    (image : t.store.image.contents = s.store.image.contents) : BindingLaw t :=
  bindingLaw_iff.mpr ⟨agree, image ▸ law.image⟩

theorem bindingLaw_serve (r : Request) {s : State} (law : BindingLaw s) : BindingLaw (serve r s).1 := by
  cases r with
  | partRestart =>
    simp only [serve, servePartRestart]
    split
    · exact law
    · exact (sameBindings_restart s).law law
  | partRelease => exact (sameBindings_servePartRelease s).law law
  | unitBind unit zone =>
    exact law.of_agree (bindingsAgree_serveUnitBind unit zone law.agree) (sameMetering_serveUnitBind unit zone s).image
  | unitFree unit =>
    exact law.of_agree (bindingsAgree_serveUnitFree unit law.agree) (sameMetering_serveUnitFree unit s).image
  | unitRefresh unit =>
    exact law.of_agree (bindingsAgree_serveUnitRefresh unit law.agree) (sameMetering_serveUnitRefresh unit s).image
  | stageUnlock unit stage => exact (sameBindings_serveStageUnlock unit stage s).law law
  | zonePut zone flag fields => exact (sameBindings_serveZonePut zone flag fields s).law law
  | zoneOverride zone duration cool heat modeForce occForce =>
    exact (sameBindings_serveZoneOverride zone duration cool heat modeForce occForce s).law law
  | clockSet day minute second mark weekday => exact (sameBindings_serveClockSet day minute second mark weekday s).law law
  | schedFill mask values => exact (sameBindings_serveSchedFill mask values s).law law
  | storeSave => exact bindingLaw_serveStoreSave law
  | storeClear =>
    simp only [serve, serveStoreClear]
    split
    · exact law
    split
    · exact law
    · exact bindingLaw_clear s
  | partProtect | noteTake | unitPut | schedWindow | schedEnd | profilePut | demandLimits | demandSite =>
    exact (sameBindings_serve rfl s).law law
  | partStatus | clockGet | unitGet | unitReadings | stageGet | queueGet | zoneGet | schedGet | profileGet | demandGet
  | demandHistory =>
    rw [serve_read rfl]
    exact law

theorem bindingLaw_takeRequest (tag : Byte) (r : Request) {s : State} (law : BindingLaw s) :
    BindingLaw (s.takeRequest tag r) := by
  refine (sameBindings_setHost _ (s.answerTo r).1).law ?_
  unfold State.answerTo
  split
  · exact law
  · exact bindingLaw_serve r law

theorem bindingLaw_takeFrame (f : Frame) {s : State} (law : BindingLaw s) : BindingLaw (s.takeFrame f) := by
  unfold State.takeFrame
  split
  · exact (sameBindings_setHost ..).law law
  · exact (sameBindings_setHost ..).law law
  · exact bindingLaw_takeRequest _ _ law

theorem bindingLaw_holdFrame (f : Frame) {s : State} (law : BindingLaw s) : BindingLaw (s.holdFrame f) := by
  rw [holdFrame_frame]
  exact (sameBindings_setHost ..).law law

theorem bindingLaw_offerFrame (f : Frame) {s : State} (law : BindingLaw s) : BindingLaw (s.offerFrame f) := by
  unfold State.offerFrame
  split
  · exact bindingLaw_takeFrame f law
  · exact bindingLaw_holdFrame f law

theorem bindingLaw_offerRequest (tag : Byte) (r : Request) {s : State} (law : BindingLaw s) :
    BindingLaw (s.offerRequest tag r) := by
  unfold State.offerRequest
  split
  · exact bindingLaw_takeRequest tag r law
  · exact bindingLaw_holdFrame _ law

/-! ### The line (R167, R168) -/

theorem bindingLaw_hostByteReceived {byte : Byte} {s t : State} (law : BindingLaw s)
    (run : exec (.hostByteReceived byte) s = .next t) : BindingLaw t := by
  have received (r : Receiver) : BindingLaw (s.setReceiver r) := (sameBindings_setHost ..).law law
  cases run
  split
  · split
    · exact received _
    · exact law
  unfold State.collect
  split
  · exact received _
  dsimp only
  split
  · exact received _
  split
  · exact received _
  · exact bindingLaw_offerFrame _ (received _)

theorem bindingLaw_replySent {s t : State} (law : BindingLaw s) (run : exec .replySent s = .next t) : BindingLaw t := by
  cases run
  split
  · exact law
  split
  · exact (sameBindings_setHost ..).law law
  · exact bindingLaw_takeFrame _ ((sameBindings_setHost ..).law law)

/-! ### Every command and every second -/

theorem bindingLaw_exec {c : Instr} {s t : State} (law : BindingLaw s) (run : exec c s = .next t) : BindingLaw t := by
  cases c with
  | powerOn => exact bindingLaw_powerOn law run
  | smokeAsserted => exact (sameBindings_smokeAsserted run).law law
  | smokeNegated | serviceLineChange | protectLineChange | receiveGapTimeout =>
    cases run
    exact (sameBindings_setHost ..).law law
  | hostByteReceived => exact bindingLaw_hostByteReceived law run
  | replySent => exact bindingLaw_replySent law run
  | saveCompletion => exact (sameBindings_saveCompletion run).law law
  | minOnExpiry => exact (sameBindings_minOnExpiry run).law law
  | minOffExpiry | tripCountClear =>
    cases run
    exact (sameBindings_onStage ..).law law
  | provingExpiry => exact (sameBindings_provingExpiry run).law law
  | staggerExpiry => exact (sameBindings_staggerExpiry run).law law
  | accumulationEvent => exact (sameBindings_accumulationEvent run).law law
  | siteStale => exact (sameBindings_siteStale run).law law
  | zoneEvaluation => exact (sameBindings_zoneEvaluation run).law law
  | changeoverExpiry => exact (sameBindings_changeoverExpiry run).law law
  | overrideEnd => exact (sameBindings_overrideEnd run).law law
  | clockTick => exact (sameBindings_clockTick run).law law
  | rampStep => exact (sameBindings_rampStep run).law law
  | purgeExpiry => exact (sameBindings_purgeExpiry run).law law
  | holdOffExpiry => exact (sameBindings_holdOffExpiry run).law law
  | pollCycleStart => exact (sameBindings_pollCycleStart run).law law
  | visitEnd => exact (sameBindings_visitEnd run).law law
  | fallbackExpiry =>
    cases run
    exact (sameBindings_takeFallback ..).law law
  | _ =>
    cases run
    exact bindingLaw_offerRequest _ _ law

/-- Settles O60: only UNIT.BIND, UNIT.FREE, UNIT.REFRESH, STORE.CLEAR and power-on write a binding, a list or a bus address, each
in agreement, and a save takes them as they stand. -/
theorem everyStepKeepsBindingsAndUnitListsInAgreement : Obligations.EveryStepKeepsBindingsAndUnitListsInAgreement := by
  unfold Obligations.EveryStepKeepsBindingsAndUnitListsInAgreement
  intro s t law run
  obtain ⟨_, rfl⟩ | ⟨c, rest, _, run⟩ := step_cases run
  · exact (sameBindings_secondPasses s).law law
  · have popped : SameBindings s { s with pending := rest } := sameBindings_of_tables rfl rfl rfl
    exact bindingLaw_exec (popped.law law) run

end Sys2Proof.Machine
end

section
/-! PROOF. O27, O16, O17 and O32: PART.PROTECT, UNIT.GET, UNIT.READINGS and UNIT.FREE. -/

namespace Sys2Proof.Machine

/-! ### The common checks (R152, R154, R170) -/

/-- R170: in NORMAL with no save in progress a well-formed request that needs no keyswitch and no lower level is served. -/
theorem commonCheck_free {s : State} (normal : s.host.run = .normal) (saving : s.store.saving = false) {r : Request}
    (formed : requestMalformed r = false) (service : requestServiceOnly r = false)
    (level : requestLocked s.table.level r = false) : s.commonCheck r = none := by
  simp [State.commonCheck, normal, saving, formed, service, level]

theorem commonCheck_partProtect {s : State} (service : s.host.service = true) (normal : s.host.run = .normal)
    (saving : s.store.saving = false) (level hold : Byte) : s.commonCheck (.partProtect level hold) = none := by
  simp [State.commonCheck, requestMalformed, requestLocked, normal, service, saving]

theorem commonCheck_unitGet (unit selector : Byte) (s : State) : s.commonCheck (.unitGet unit selector) = none := by
  simp [State.commonCheck, requestMalformed, requestServiceOnly, requestHalted, requestTableChanging, requestLocked]

theorem commonCheck_unitReadings (unit : Byte) (s : State) : s.commonCheck (.unitReadings unit) = none := by
  simp [State.commonCheck, requestMalformed, requestServiceOnly, requestHalted, requestTableChanging, requestLocked]

/-! ### PART.PROTECT (R153) -/

theorem servePartProtect_locked {s : State} (locked : (s.table.hold && s.host.protect) = true) (level hold : Byte) :
    servePartProtect level hold s = refuse s .locked := if_pos locked

/-- R153: with the hold free the first field out of its range is refused, and fields in range are taken. -/
theorem servePartProtect_open {s : State} (free : (s.table.hold && s.host.protect) = false) (level hold : Byte) :
    servePartProtect level hold s =
      if 3 < level.toNat then refuseRange s 1
      else if 1 < hold.toNat then refuseRange s 2
      else accept (s.setTable { s.table with level := level.toNat, hold := hold = 1#8 }) [level, hold] :=
  if_neg (Bool.eq_false_iff.mp free)

/-- Settles O27, check by check. -/
theorem partProtectSetsTheLevel : Obligations.PartProtectSetsTheLevel := by
  unfold Obligations.PartProtectSetsTheLevel
  intro tag level hold s idle service normal saving
  have answered {t : State} {a : Answer} (served : servePartProtect level hold s = (t, a)) :
      exec (.partProtect tag level hold) s = .next (t.answering 0x03#8 tag a.result a.payload) :=
    exec_request_served (r := .partProtect level hold) idle (commonCheck_partProtect service normal saving level hold) served
      tag
  refine ⟨fun held asserted => ?_, fun free => ?_⟩
  · exact answered (servePartProtect_locked (by rw [held, asserted]; rfl) level hold)
  have checked := servePartProtect_open free level hold
  refine ⟨fun high => ?_, fun fits high => ?_, fun fits flag => ?_⟩
  · rw [if_pos high] at checked
    exact answered checked
  · rw [if_neg (Nat.not_lt.mpr fits), if_pos high] at checked
    exact answered checked
  · have one : decide (hold = 1#8) = decide (hold.toNat = 1) := decide_eq_decide.mpr (BitVec.toNat_inj (y := 1#8)).symm
    rw [if_neg (Nat.not_lt.mpr fits), if_neg (Nat.not_lt.mpr flag), one] at checked
    exact answered checked

/-! ### UNIT.GET (R143) -/

/-- R143, 12.2: the fields whose range fits one byte. -/
theorem encDescriptor_eq (d : Descriptor) :
    encDescriptor d = (List.range 28).flatMap fun i =>
      if i + 1 ∈ [1, 2, 3, 4, 16, 17, 18, 20, 23, 25, 27] then enc8 (fieldOf d (i + 1)) else enc16 (fieldOf d (i + 1)) := by
  have flag : encFlag d.econPresent = enc8 (if d.econPresent then 1 else 0) := by cases d.econPresent <;> rfl
  delta encDescriptor
  simp [flag, fieldOf, allStages, Six.get, List.range, List.range.loop]

theorem serveUnitGet_index {unit : Byte} (bad : ¬(1 ≤ unit.toNat ∧ unit.toNat ≤ 24)) (selector : Byte) (s : State) :
    serveUnitGet unit selector s = refuse s .index := if_pos (Bool.eq_false_iff.mpr (mt unitNumber_iff.mp bad))

/-- R143: the stored descriptor or the active copy, as the selector says. -/
def State.record (s : State) (u : Nat) (selector : Byte) : Option Descriptor :=
  if selector = 0#8 then Table.find u s.table.descriptors else (s.unit u).map BoundUnit.copy

section
variable {unit selector : Byte} {s : State} (number : unitNumber unit.toNat = true)
include number

theorem serveUnitGet_selector (wrong : 1 < selector.toNat) : serveUnitGet unit selector s = refuseRange s 2 := by
  simp only [serveUnitGet, number, wrong, if_true]
  rfl

theorem serveUnitGet_absent (right : selector.toNat ≤ 1) (absent : s.record unit.toNat selector = none) :
    serveUnitGet unit selector s = refuse s .absent := by
  unfold State.record at absent
  simp only [serveUnitGet, number, State.descriptor, if_neg (Nat.not_lt.mpr right), absent]
  rfl

theorem serveUnitGet_record (right : selector.toNat ≤ 1) {d : Descriptor} (hd : s.record unit.toNat selector = some d) :
    serveUnitGet unit selector s = accept s
      (encDescriptor d ++ encOption enc8 ((s.unit unit.toNat).map BoundUnit.zone) ++
        encFlag ((s.differs unit.toNat).getD false)) := by
  unfold State.record at hd
  simp only [serveUnitGet, number, State.descriptor, if_neg (Nat.not_lt.mpr right), hd]
  rfl

end

/-- R142: the stored descriptor differs from an active copy. -/
theorem differs_bound {s : State} {u : Nat} {b : BoundUnit} (hb : s.unit u = some b) :
    s.differs u = some (decide (Table.find u s.table.descriptors ≠ some b.copy)) := by
  rw [State.differs, hb, Option.map_some, State.descriptor]
  by_cases same : Table.find u s.table.descriptors = some b.copy <;> simp [same]

/-- R143: the binding and the differs flag, both 0 for an unbound unit. -/
theorem bindingBytes_eq (s : State) (u : Nat) :
    encOption enc8 ((s.unit u).map BoundUnit.zone) ++ encFlag ((s.differs u).getD false) =
      match s.unit u with
      | none => [0#8, 0#8]
      | some b => 1#8 :: enc8 b.zone ++ encFlag (decide (Table.find u s.table.descriptors ≠ some b.copy)) := by
  cases hb : s.unit u with
  | none => simp [State.differs, hb, encOption, encFlag]
  | some b => rw [differs_bound hb]; rfl

/-- Settles O16: the refusals in their order, and the reply field by field. -/
theorem unitGetReturnsADescriptor : Obligations.UnitGetReturnsADescriptor := by
  unfold Obligations.UnitGetReturnsADescriptor
  intro tag unit selector s idle
  have answered {t : State} {a : Answer} (served : serveUnitGet unit selector s = (t, a)) :
      exec (.unitGet tag unit selector) s = .next (t.answering 0x11#8 tag a.result a.payload) :=
    exec_request_served (r := .unitGet unit selector) idle (commonCheck_unitGet unit selector s) served tag
  refine ⟨fun bad => answered (serveUnitGet_index bad selector s), fun low high wrong => ?_, fun low high right => ?_⟩
  · exact answered (serveUnitGet_selector (unitNumber_iff.mpr ⟨low, high⟩) wrong)
  rintro _ rfl
  refine ⟨fun absent => answered (serveUnitGet_absent (unitNumber_iff.mpr ⟨low, high⟩) right absent), fun d hd => ?_⟩
  have served := serveUnitGet_record (unitNumber_iff.mpr ⟨low, high⟩) right hd
  rw [List.append_assoc, encDescriptor_eq, bindingBytes_eq] at served
  exact answered served

/-! ### UNIT.READINGS (R151) -/

/-- R113: STILL, RISING and FALLING by their codes. -/
theorem encChannel_eq (c : Channel) (effective : Nat) :
    encChannel c effective = enc16 c.position ++ enc16 c.target ++ enc16 effective ++
      [if c.position = effective then 0#8 else if c.position < effective then 1#8 else 2#8] ++ enc8 c.profile := by
  unfold encChannel channelState
  by_cases still : c.position = effective
  · simp [still, enc8]
  · by_cases rising : c.position < effective <;> simp [still, rising, enc8]

/-- R151: the three channels, one after another. -/
theorem encChannels_eq (front : List Byte) (fan damper gas : Channel × Nat) :
    front ++ encChannel fan.1 fan.2 ++ encChannel damper.1 damper.2 ++ encChannel gas.1 gas.2 =
      front ++ [fan, damper, gas].flatMap fun p =>
        enc16 p.1.position ++ enc16 p.1.target ++ enc16 p.2 ++
          [if p.1.position = p.2 then 0#8 else if p.1.position < p.2 then 1#8 else 2#8] ++ enc8 p.1.profile := by
  simp [encChannel_eq]

/-- R151: the last good reply and its age. -/
theorem lastGoodBytes_eq (front : List Byte) (now : Word) (good : Option Word) :
    front ++ encOption encWord good ++ encOption (fun t => enc32 (since now t)) good =
      front ++ match good with
      | none => [0#8, 0#8]
      | some t => (1#8 :: wordBytes t) ++ (1#8 :: wordBytes (now - t)) := by
  rw [List.append_assoc]
  cases good with
  | none => rfl
  | some t => rw [encOption, encOption, encWord, enc32_since]

theorem serveUnitReadings_index {unit : Byte} (bad : ¬(1 ≤ unit.toNat ∧ unit.toNat ≤ 24)) (s : State) :
    serveUnitReadings unit s = refuse s .index := if_pos (Bool.eq_false_iff.mpr (mt unitNumber_iff.mp bad))

theorem serveUnitReadings_absent {unit : Byte} {s : State} (number : unitNumber unit.toNat = true)
    (absent : s.unit unit.toNat = none) : serveUnitReadings unit s = refuse s .absent := by
  simp [serveUnitReadings, number, absent]

/-- Settles O17: the refusals in their order, and the reply field by field. -/
theorem unitReadingsReportsABoundUnit : Obligations.UnitReadingsReportsABoundUnit := by
  unfold Obligations.UnitReadingsReportsABoundUnit
  intro tag unit s idle
  have answered {t : State} {a : Answer} (served : serveUnitReadings unit s = (t, a)) :
      exec (.unitReadings tag unit) s = .next (t.answering 0x15#8 tag a.result a.payload) :=
    exec_request_served (r := .unitReadings unit) idle (commonCheck_unitReadings unit s) served tag
  refine ⟨fun bad => answered (serveUnitReadings_index bad s), fun low high absent => ?_, fun b low high hb => ?_⟩
  · exact answered (serveUnitReadings_absent (unitNumber_iff.mpr ⟨low, high⟩) absent)
  · refine answered (t := s) (a := { result := .accepted, payload := _ }) ?_
    rw [← encChannels_eq]
    simp only [serveUnitReadings, unitNumber_iff.mpr ⟨low, high⟩, hb, lastGoodBytes_eq]
    rfl

/-! ### UNIT.FREE (R148) -/

theorem serveUnitFree_index {unit : Byte} (bad : ¬(1 ≤ unit.toNat ∧ unit.toNat ≤ 24)) (s : State) :
    serveUnitFree unit s = refuse s .index := if_pos (Bool.eq_false_iff.mpr (mt unitNumber_iff.mp bad))

theorem serveUnitFree_absent {unit : Byte} {s : State} (number : unitNumber unit.toNat = true)
    (absent : s.unit unit.toNat = none) : serveUnitFree unit s = refuse s .absent := by
  simp [serveUnitFree, number, absent]

theorem serveUnitFree_bound {unit : Byte} {b : BoundUnit} {s : State} (number : unitNumber unit.toNat = true)
    (hb : s.unit unit.toNat = some b) :
    serveUnitFree unit s = if b.anyEngaged then refuse s .state else accept (s.freeUnit unit.toNat) (enc8 b.zone) := by
  simp [serveUnitFree, number, hb]

/-- R148, R157: what freeing a bound unit leaves of the part, less the zones. -/
theorem freeUnit_eq {u : Nat} {b : BoundUnit} {s : State} (hb : s.unit u = some b) :
    s.freeUnit u = { s with
      units := Table.erase u s.units
      zones := (s.freeUnit u).zones
      roof := s.roof.dropUnit u } := by
  simp only [State.freeUnit, hb]
  rw [onZone_frame]
  rfl

/-- Settles O32: the refusals in their order, and the unit discarded from the units, its zone's list and the cycle record. -/
theorem unitFreeDiscardsTheUnit : Obligations.UnitFreeDiscardsTheUnit := by
  unfold Obligations.UnitFreeDiscardsTheUnit
  intro tag unit s idle normal saving level
  have answered {t : State} {a : Answer} (served : serveUnitFree unit s = (t, a)) :
      exec (.unitFree tag unit) s = .next (t.answering 0x13#8 tag a.result a.payload) :=
    exec_request_served (r := .unitFree unit) idle
      (commonCheck_free normal saving rfl rfl (decide_eq_false (Nat.not_le.mpr level))) served tag
  refine ⟨fun bad => answered (serveUnitFree_index bad s), fun low high absent => ?_, fun b low high hb => ?_⟩
  · exact answered (serveUnitFree_absent (unitNumber_iff.mpr ⟨low, high⟩) absent)
  have served := serveUnitFree_bound (unitNumber_iff.mpr ⟨low, high⟩) hb
  refine ⟨fun engaged => answered (served.trans (if_pos engaged)), fun idle => ?_⟩
  refine ⟨_, answered (served.trans (if_neg (Bool.eq_false_iff.mp idle))), ?_, ?_, fun u other => ?_, freeUnit_zone hb⟩
  · dsimp only
    conv_lhs => rw [freeUnit_eq hb]
    rfl
  · exact (freeUnit_unit ..).trans (if_pos rfl)
  · exact (freeUnit_unit ..).trans (if_neg other)

end Sys2Proof.Machine
end

section
/-! PROOF. O31: UNIT.BIND. -/

namespace Sys2Proof.Machine

/-! ### The first check that fails (R145) -/

/-- R145: the check that fails is the first of the rule's table. -/
theorem bindRefused_of_failure {s : State} {u z : Nat} {why : Result} {field : Option Nat}
    (fails : s.bindFailure u z = some (why, field)) : Rule.BindRefused s u z why field := by
  have is {r : Result} {f : Option Nat} (found : s.bindFailure u z = some (r, f)) : why = r ∧ field = f :=
    Prod.mk.inj (Option.some.inj (fails.symm.trans found))
  refine ⟨fun bad => is (bindFailure_index bad), fun low high zone =>
    ⟨fun absent => is (bindFailure_absent low high zone absent), fun d hd defined => ?_⟩⟩
  have checked := bindFailure_stored low high zone hd defined
  refine ⟨fun bound => is (checked.trans (if_pos bound)), fun unbound => ?_⟩
  rw [if_neg (not_not.mpr unbound)] at checked
  refine ⟨fun ⟨r, parked, hr, most⟩ => ?_, fun space => ?_⟩
  · exact is (checked.trans (if_pos ⟨parked, by rwa [unitList_defined hr]⟩))
  have room : ¬(z ≠ 0 ∧ 4 ≤ (s.unitList z).length) := fun ⟨parked, most⟩ => by
    obtain ⟨r, hr⟩ := Option.ne_none_iff_exists'.mp (defined parked)
    rw [unitList_defined hr] at most
    exact absurd (space r parked hr) (Nat.not_lt.mpr most)
  rw [if_neg room] at checked
  refine ⟨fun id misfit => is ?_, fun fits taken => is ?_⟩
  · rw [checked, misfit_iff.mp misfit]
    rfl
  · rw [checked, fitsBinding_iff.mp fits, Bool.eq_true_of_not_eq_false (mt addressFree_iff.mpr taken)]
    rfl

theorem bindFailure_ne_none {s : State} {u z : Nat} (absent : s.descriptor u = none) : s.bindFailure u z ≠ none := by
  unfold State.bindFailure
  rw [absent]
  split <;> exact nofun

/-! ### The unit made (R146) -/

theorem make_freshUnit (z : Nat) (d : Descriptor) (counters : StageName → Nat × Nat) :
    FreshUnit 0 z d counters (BoundUnit.make z d counters) := by
  refine ⟨rfl, fun st => ?_⟩
  rw [BoundUnit.make, Six_get_ofFn]
  split
  · exact ⟨_, rfl, rfl⟩
  · rfl

theorem bindUnit_bound (u z : Nat) (d : Descriptor) (counters : StageName → Nat × Nat) (s : State) :
    Rule.Bound 0 u z d counters s (s.bindUnit u z d counters) :=
  ⟨bindUnit_frame u z d counters s, ⟨_, (bindUnit_unit ..).trans (if_pos rfl), make_freshUnit z d counters⟩,
    fun _ other => (bindUnit_unit ..).trans (if_neg other), fun y => bindUnit_zone u z y d counters s⟩

/-! ### UNIT.BIND (R145, R146) -/

/-- R145: only a RANGE names a field. -/
theorem bindFailure_range {s : State} {u z : Nat} {why : Result} {field : Option Nat}
    (fails : s.bindFailure u z = some (why, field)) : why = .range ∨ field = none := by
  unfold State.bindFailure at fails
  repeat' split at fails
  all_goals cases fails <;> simp

theorem serveUnitBind_refused {unit zone : Byte} {why : Result} {field : Option Nat} {s : State}
    (fails : s.bindFailure unit.toNat zone.toNat = some (why, field)) :
    serveUnitBind unit zone s = (s, { result := why, payload := field.elim [] enc8 }) := by
  unfold serveUnitBind
  rw [fails]
  cases field with
  | none => rfl
  | some id =>
    obtain rfl := (bindFailure_range fails).resolve_right nofun
    rfl

theorem serveUnitBind_bindable {unit zone : Byte} {d : Descriptor} {s : State}
    (bindable : Rule.Bindable s unit.toNat zone.toNat d) :
    serveUnitBind unit zone s = accept (s.bindUnit unit.toNat zone.toNat d fun _ => (0, 0))
      ([unit, zone] ++ enc8 (allStages.countP d.names)) := by
  obtain ⟨passes, hd⟩ := bindable_iff.mp bindable
  unfold serveUnitBind
  rw [passes, hd]

/-- Settles O31: the unit made where every check passes, and the first check that fails otherwise. -/
theorem unitBindMakesABoundUnit : Obligations.UnitBindMakesABoundUnit := by
  unfold Obligations.UnitBindMakesABoundUnit
  intro tag unit zone s idle normal saving level
  have answered {t : State} {a : Answer} (served : serveUnitBind unit zone s = (t, a)) :
      exec (.unitBind tag unit zone) s = .next (t.answering 0x12#8 tag a.result a.payload) :=
    exec_request_served (r := .unitBind unit zone) idle
      (commonCheck_free normal saving rfl rfl (decide_eq_false (Nat.not_le.mpr level))) served tag
  refine ⟨fun d bindable => ⟨_, _, answered (serveUnitBind_bindable bindable), bindUnit_bound .., rfl⟩, fun refused => ?_⟩
  cases checked : s.bindFailure unit.toNat zone.toNat with
  | none =>
    cases hd : s.descriptor unit.toNat with
    | none => exact absurd checked (bindFailure_ne_none hd)
    | some d => exact absurd (bindable_iff.mpr ⟨checked, hd⟩) (refused d)
  | some failure =>
    obtain ⟨why, field⟩ := failure
    refine ⟨why, field, bindRefused_of_failure checked, ?_⟩
    rw [show exec (.unitBind tag unit zone) s = _ from answered (serveUnitBind_refused checked)]
    cases field <;> rfl

end Sys2Proof.Machine
end

section
/-! PROOF. O33: UNIT.REFRESH. -/

namespace Sys2Proof.Machine

/-! ### A unit that takes a new copy (R25, R149) -/

/-- R25: a stage that the new copy names. -/
theorem refreshStage_named {d : Descriptor} {st : StageName} (names : d.names st = true) (old : Option StageRec) :
    match old with
    | none => ∃ r, refreshStage d old st = some r ∧ FreshStage d (0, 0) r
    | some r => refreshStage d old st = some
        (match r.state, r.minOff with
          | .rest, .running left => { r with minOff := .running (min left d.minOff) }
          | _, _ => r) := by
  cases old with
  | none => exact ⟨_, if_pos names, rfl⟩
  | some r =>
    have named : refreshStage d (some r) st =
        if r.state = .rest then some { r with minOff := r.minOff.shorten d.minOff } else some r := if_pos names
    dsimp only
    rw [named]
    obtain ⟨state, _, minOff, _⟩ := r
    cases state <;> cases minOff <;> rfl

theorem refreshStage_unnamed {d : Descriptor} {st : StageName} (unnamed : d.names st = false) (old : Option StageRec) :
    refreshStage d old st = none := if_neg (Bool.eq_false_iff.mp unnamed)

/-- R149, R162: the unit after a refresh, with its fallback taken when it has lapsed. -/
def BoundUnit.refreshed (d : Descriptor) (lapsed : Bool) (b : BoundUnit) : BoundUnit :=
  if lapsed then (b.refresh d).fallBack else b.refresh d

theorem refreshed_stages (d : Descriptor) (lapsed : Bool) (b : BoundUnit) (st : StageName) :
    (b.refreshed d lapsed).stages.get st = refreshStage d (b.stages.get st) st := by
  cases lapsed <;> exact Six_get_ofFn ..

/-- R149, R147, R124, R162: all of the refreshed unit but its stages. -/
theorem refreshed_eq (d : Descriptor) (lapsed : Bool) (b : BoundUnit) :
    b.refreshed d lapsed = { b with
      copy := d
      stages := (b.refreshed d lapsed).stages
      live := { b.live with
        running := Six.ofFn fun st => b.live.running.get st && d.names st
        unexpected := Six.ofFn fun st => b.live.unexpected.get st && d.names st }
      limit := { b.limit with trips := Six.ofFn fun st => b.limit.trips.get st && d.names st }
      lostOn := Six.ofFn fun st => b.lostOn.get st && d.names st && !lapsed
      fan := { b.fan with profile := d.fanProfile, position := if lapsed then 0 else b.fan.position }
      damper := { b.damper with profile := d.damperProfile, position := if lapsed then 0 else b.damper.position }
      gas := {
        profile := d.gasProfile
        target := if d.kind = .modulatingGas then b.gas.target else 0
        position := if lapsed = false ∧ d.kind = .modulatingGas then b.gas.position else 0 }
      gasReduction := if lapsed = false ∧ d.kind = .modulatingGas then b.gasReduction else 0
      fallbackTaken := b.fallbackTaken || lapsed
      purge := if d.purgeTime = 0 then .stopped else match b.purge with
        | .stopped => .stopped
        | .running left => .running (min left d.purgeTime) } := by
  have purge : b.purge.shorten d.purgeTime = match b.purge with
      | .stopped => .stopped
      | .running left => .running (min left d.purgeTime) := by cases b.purge <;> rfl
  have gas : (if d.kind = .modulatingGas then { b.gas with profile := d.gasProfile }
      else ({ position := 0, target := 0, profile := d.gasProfile } : Channel)) =
      { profile := d.gasProfile
        target := if d.kind = .modulatingGas then b.gas.target else 0
        position := if d.kind = .modulatingGas then b.gas.position else 0 } := by split <;> rfl
  cases lapsed
  · simp [BoundUnit.refreshed, BoundUnit.refresh, StageSet.keep, purge, gas]
  · simp [BoundUnit.refreshed, BoundUnit.refresh, BoundUnit.fallBack, StageSet.keep, noStages, purge, gas]

/-! ### The state a refresh leaves (R149, R162) -/

/-- R149: a unit that takes a new copy has no stage on, for none was engaged. -/
theorem refresh_onStages {b : BoundUnit} (idle : b.anyEngaged = false) (d : Descriptor) : (b.refresh d).onStages = [] := by
  have off : (b.refresh d).anyOn = false := anyOn_of_idle fun st => by
    rw [BoundUnit.stateOf, BoundUnit.refresh, Six_get_ofFn]
    refine refreshStage_idle d st ?_
    have none := List.any_eq_false.mp idle st (mem_allStages st)
    rwa [stageIs_eq, Bool.not_eq_true] at none
  exact List.filter_eq_nil_iff.mpr (List.any_eq_false.mp off)

/-- R162: the fallback of a unit with no stage on. -/
theorem takeFallback_off {u : Nat} {b : BoundUnit} {s : State} (hb : s.unit u = some b) (off : b.onStages = []) :
    s.takeFallback u = if b.fallbackDue s.uptime then s.onUnit u BoundUnit.fallBack else s := by
  unfold State.takeFallback
  rw [hb]
  dsimp only
  rw [off]
  rfl

/-- R162: the fallback is due at a LOST unit that has not taken it, once its last good reply is old enough. -/
theorem fallbackDue_iff {now : Word} {b : BoundUnit} :
    b.fallbackDue now = true ↔ b.live.link = .lost ∧ b.fallbackTaken = false ∧
      ∃ good, b.live.lastGood = some good ∧ b.copy.fallbackTime ≤ (now - good).toNat := by
  unfold BoundUnit.fallbackDue
  cases b.live.lastGood with
  | none => simp
  | some good =>
    simp only [Bool.and_eq_true, decide_eq_true_eq, Bool.not_eq_true', Option.some.injEq, exists_eq_left', and_assoc]
    rfl

/-- R149, R162: the state after an accepted UNIT.REFRESH. -/
def State.refreshUnit (u : Nat) (d : Descriptor) (lapsed : Bool) (b : BoundUnit) (s : State) : State :=
  if lapsed then (s.putUnit u (b.refresh d)).onUnit u BoundUnit.fallBack else s.putUnit u (b.refresh d)

theorem refreshUnit_frame (u : Nat) (d : Descriptor) (lapsed : Bool) (b : BoundUnit) (s : State) :
    s.refreshUnit u d lapsed b = { s with units := (s.refreshUnit u d lapsed b).units } := by
  cases lapsed with
  | false => rfl
  | true => exact (onUnit_frame u BoundUnit.fallBack (s.putUnit u (b.refresh d))).trans rfl

theorem refreshUnit_unit (u v : Nat) (d : Descriptor) (lapsed : Bool) (b : BoundUnit) (s : State) :
    (s.refreshUnit u d lapsed b).unit v = if v = u then some (b.refreshed d lapsed) else s.unit v := by
  cases lapsed with
  | false => exact unit_putUnit ..
  | true =>
    refine (unit_onUnit ..).trans ?_
    rw [unit_putUnit_same, unit_putUnit]
    split <;> rfl

/-- R149, log 26: a lapsed fallback is taken where the new copy has another fallback time. -/
theorem refreshUnit_eq {u : Nat} {d : Descriptor} {lapsed : Bool} {b : BoundUnit} {s : State} (idle : b.anyEngaged = false)
    (lapse : lapsed = true ↔ b.live.link = .lost ∧ b.fallbackTaken = false ∧ d.fallbackTime ≠ b.copy.fallbackTime ∧
      ∃ good, b.live.lastGood = some good ∧ d.fallbackTime ≤ (s.uptime - good).toNat) :
    (if d.fallbackTime ≠ b.copy.fallbackTime then (s.putUnit u (b.refresh d)).takeFallback u else s.putUnit u (b.refresh d)) =
      s.refreshUnit u d lapsed b := by
  have due : (b.refresh d).fallbackDue s.uptime = true ↔ b.live.link = .lost ∧ b.fallbackTaken = false ∧
      ∃ good, b.live.lastGood = some good ∧ d.fallbackTime ≤ (s.uptime - good).toNat := fallbackDue_iff
  have taken : lapsed = (decide (d.fallbackTime ≠ b.copy.fallbackTime) && (b.refresh d).fallbackDue s.uptime) := by
    rw [Bool.eq_iff_iff, Bool.and_eq_true, decide_eq_true_iff, lapse, due]
    tauto
  rw [taken, takeFallback_off (unit_putUnit_same ..) (refresh_onStages idle d)]
  by_cases other : d.fallbackTime ≠ b.copy.fallbackTime
  · rw [if_pos other, decide_eq_true other, Bool.true_and]
    rfl
  · rw [if_neg other, decide_eq_false other]
    rfl

/-! ### UNIT.REFRESH (R149) -/

theorem serveUnitRefresh_index {unit : Byte} (bad : ¬(1 ≤ unit.toNat ∧ unit.toNat ≤ 24)) (s : State) :
    serveUnitRefresh unit s = refuse s .index := if_pos (Bool.eq_false_iff.mpr (mt unitNumber_iff.mp bad))

theorem serveUnitRefresh_absent {unit : Byte} {s : State} (number : unitNumber unit.toNat = true)
    (absent : s.unit unit.toNat = none) : serveUnitRefresh unit s = refuse s .absent := by
  simp [serveUnitRefresh, number, absent]

/-- R149: the checks of a bound unit with a stored descriptor. -/
theorem serveUnitRefresh_bound {unit : Byte} {b : BoundUnit} {d : Descriptor} {s : State}
    (number : unitNumber unit.toNat = true) (hb : s.unit unit.toNat = some b) (hd : s.descriptor unit.toNat = some d) :
    serveUnitRefresh unit s =
      if b.anyEngaged then refuse s .state
      else (d.misfit s.profiles).elim
        (if s.addressTaken unit.toNat d.busAddress then refuse s .conflict
          else accept (if d.fallbackTime ≠ b.copy.fallbackTime
              then (s.putUnit unit.toNat (b.refresh d)).takeFallback unit.toNat
              else s.putUnit unit.toNat (b.refresh d)) (enc8 unit.toNat ++ encFlag false))
        (refuseRange s) := by
  unfold serveUnitRefresh
  simp only [number, hb, hd]
  cases d.misfit s.profiles <;> rfl

/-- Settles O33: the refusals in their order, and the unit with its new copy. -/
theorem unitRefreshTakesTheStoredDescriptor : Obligations.UnitRefreshTakesTheStoredDescriptor := by
  unfold Obligations.UnitRefreshTakesTheStoredDescriptor
  intro tag unit s idle normal saving level
  have answered {t : State} {a : Answer} (served : serveUnitRefresh unit s = (t, a)) :
      exec (.unitRefresh tag unit) s = .next (t.answering 0x14#8 tag a.result a.payload) :=
    exec_request_served (r := .unitRefresh unit) idle
      (commonCheck_free normal saving rfl rfl (decide_eq_false (Nat.not_le.mpr level))) served tag
  refine ⟨fun bad => answered (serveUnitRefresh_index bad s), fun low high absent => ?_, fun b d low high hb hd => ?_⟩
  · exact answered (serveUnitRefresh_absent (unitNumber_iff.mpr ⟨low, high⟩) absent)
  have served := serveUnitRefresh_bound (unitNumber_iff.mpr ⟨low, high⟩) hb hd
  refine ⟨fun engaged => answered (served.trans (if_pos engaged)), fun disengaged => ?_⟩
  rw [if_neg (Bool.eq_false_iff.mp disengaged)] at served
  refine ⟨fun id misfit => ?_, fun fits conflict => ?_, fun fits free lapsed lapse => ?_⟩
  · rw [misfit_iff.mp misfit] at served
    exact answered served
  · rw [fitsBinding_iff.mp fits, Option.elim_none, if_pos (Bool.eq_true_of_not_eq_false (mt addressFree_iff.mpr conflict))]
      at served
    exact answered served
  · rw [fitsBinding_iff.mp fits, Option.elim_none, if_neg (Bool.eq_false_iff.mp (addressFree_iff.mp free)),
      refreshUnit_eq disengaged lapse, enc8_toNat] at served
    refine ⟨_, b.refreshed d lapsed, answered served, ?_, (refreshUnit_unit ..).trans (if_pos rfl),
      fun u other => (refreshUnit_unit ..).trans (if_neg other), refreshed_eq d lapsed b, fun st => ?_⟩
    · dsimp only
      conv_lhs => rw [refreshUnit_frame]
      rfl
    · rw [refreshed_stages]
      split
      · exact refreshStage_named ‹_› _
      · exact refreshStage_unnamed (Bool.eq_false_iff.mpr ‹_›) _

end Sys2Proof.Machine
end

section
/-! PROOF. O30: UNIT.PUT. -/

namespace Sys2Proof.Machine

/-! ### Fields and their ranges (R140) -/

theorem fieldRange_iff {id lo hi : Nat} : fieldRange id = some (lo, hi) ↔ (id, lo, hi) ∈ Rule.fieldBounds := by
  refine ⟨fun range => ?_, fun listed => (by decide : ∀ p ∈ Rule.fieldBounds, fieldRange p.1 = some p.2) (id, lo, hi) listed⟩
  unfold fieldRange at range
  split at range <;> cases range <;> decide

/-- R140, R141: the model's check of a pair is the rule's. -/
theorem fieldFits_iff {p : Byte × Half} : fieldFits p.1.toNat p.2.toNat = true ↔ Rule.PairFits p := by
  have bounds : Rule.PairFits p ↔ ∃ lo hi, fieldRange p.1.toNat = some (lo, hi) ∧ lo ≤ p.2.toNat ∧ p.2.toNat ≤ hi := by
    simp only [Rule.PairFits, fieldRange_iff]
  rw [bounds, fieldFits]
  cases fieldRange p.1.toNat with
  | none => simp
  | some range =>
    obtain ⟨lo, hi⟩ := range
    simp [within_iff]

theorem fits_id_le {p : Byte × Half} (fits : Rule.PairFits p) : p.1.toNat ≤ 28 := by
  obtain ⟨lo, hi, listed, _⟩ := fits
  exact (by decide : ∀ b ∈ Rule.fieldBounds, b.1 ≤ 28) _ listed

/-! ### One field written (R140) -/

theorem kindOf_toCode {v : Nat} (fits : v ≤ 2) : (kindOf v).toCode = v := by
  interval_cases v <;> rfl

/-- R140: a field written with a value in its range reads as that value. -/
theorem fieldOf_write_same {id v : Nat} (named : 1 ≤ id) (low : id ≤ 28) (fits : fieldFits id v = true) (d : Descriptor) :
    fieldOf (d.write id v) id = v := by
  have range {hi : Nat} (bound : within 0 hi v = true) : v ≤ hi := (within_iff.mp bound).2
  unfold Descriptor.write
  split
  case h_2 => exact kindOf_toCode (range fits)
  case h_20 =>
    have := range fits
    interval_cases v <;> rfl
  case h_25 =>
    have := range fits
    interval_cases v <;> rfl
  case h_29 => interval_cases id <;> contradiction
  all_goals rfl

/-- R140: fields 0 to 28, in identifier order. -/
def Descriptor.fields (d : Descriptor) : List Nat := (List.range 29).map (fieldOf d)

theorem fields_eq (d : Descriptor) : d.fields =
    [0, d.busAddress, d.kind.toCode, d.coolCount, d.heatCount, d.loads.c1, d.loads.c2, d.loads.c3, d.loads.c4, d.loads.h1,
      d.loads.h2, d.fanLoad, d.minOn, d.minOff, d.provingTime, d.proofLevel, d.fanProfile, d.damperProfile, d.gasProfile,
      d.gasLowFire, if d.econPresent then 1 else 0, d.econPosition, d.minVent, d.softCount, d.gasBackoff,
      d.smokeAction.toCode, d.fallbackTime, d.lockoutCount, d.purgeTime] := rfl

theorem fields_write {id : Nat} (low : id ≤ 28) (v : Nat) (d : Descriptor) :
    (d.write id v).fields = d.fields.set id (fieldOf (d.write id v) id) := by
  rw [fields_eq, fields_eq]
  interval_cases id <;> rfl

/-- R140, R142: a pair written changes the field it names and no other. -/
theorem fieldOf_write {p : Byte × Half} (fits : Rule.PairFits p) {id : Nat} (named : 1 ≤ id) (low : id ≤ 28) (d : Descriptor) :
    fieldOf (d.write p.1.toNat p.2.toNat) id = if p.1.toNat = id then p.2.toNat else fieldOf d id := by
  split
  · subst id
    exact fieldOf_write_same named low (fieldFits_iff.mpr fits) d
  · have read (e : Descriptor) : e.fields[id]? = some (fieldOf e id) := by
      rw [Descriptor.fields, List.getElem?_map, List.getElem?_range (Nat.lt_succ_of_le low)]
      rfl
    have same := congrArg (fun l => l[id]?) (fields_write (fits_id_le fits) p.2.toNat d)
    rw [List.getElem?_set_ne ‹_›, read, read] at same
    exact Option.some.inj same

theorem fieldOf_default (u : Nat) {id : Nat} (named : 1 ≤ id) (low : id ≤ 28) :
    fieldOf (Descriptor.default u) id = Rule.fieldDefault u id := by
  interval_cases id <;> rfl

/-! ### A list of pairs (R141, R142) -/

theorem find_pair_none {pairs : List (Byte × Half)} {p : Byte × Half} (fresh : p.1 ∉ pairs.map Prod.fst) :
    (pairs.find? fun q => q.1.toNat == p.1.toNat) = none := by
  refine List.find?_eq_none.mpr fun q hq same => fresh ?_
  rw [← BitVec.eq_of_toNat_eq (beq_iff_eq.mp same)]
  exact List.mem_map_of_mem hq

/-- R142: each field named takes its value, and every other keeps its own. -/
theorem fieldOf_writeAll {pairs : List (Byte × Half)} (fit : ∀ p ∈ pairs, Rule.PairFits p)
    (once : (pairs.map Prod.fst).Nodup) {id : Nat} (named : 1 ≤ id) (low : id ≤ 28) (d : Descriptor) :
    fieldOf (d.writeAll pairs) id =
      match pairs.find? fun p => p.1.toNat == id with
      | some p => p.2.toNat
      | none => fieldOf d id := by
  induction pairs generalizing d with
  | nil => rfl
  | cons p rest ih =>
    obtain ⟨first, others⟩ := List.forall_mem_cons.mp fit
    obtain ⟨fresh, apart⟩ := List.nodup_cons.mp once
    have written := (ih others apart (d.write p.1.toNat p.2.toNat))
    rw [fieldOf_write first named low] at written
    refine (show fieldOf (d.writeAll (p :: rest)) id = _ from written).trans ?_
    by_cases names : p.1.toNat = id
    · subst id
      rw [find_pair_none fresh, List.find?_cons_of_pos (by simp), if_pos rfl]
    · rw [List.find?_cons_of_neg (by simpa using names), if_neg names]

/-- R141: the pairs that pass are left behind as seen. -/
theorem pairFailure_append {before : List (Byte × Half)} (fit : ∀ q ∈ before, Rule.PairFits q)
    (once : (before.map Prod.fst).Nodup) {seen : List Nat} (fresh : ∀ q ∈ before, q.1.toNat ∉ seen)
    (rest : List (Byte × Half)) :
    pairFailure seen (before ++ rest) = pairFailure ((before.map fun q => q.1.toNat).reverse ++ seen) rest := by
  induction before generalizing seen with
  | nil => rfl
  | cons p before ih =>
    obtain ⟨first, others⟩ := List.forall_mem_cons.mp fit
    obtain ⟨unique, apart⟩ := List.nodup_cons.mp once
    obtain ⟨unseen, later⟩ := List.forall_mem_cons.mp fresh
    have passes : (fieldFits p.1.toNat p.2.toNat && !seen.contains p.1.toNat) = true := by
      simp [fieldFits_iff.mpr first, unseen]
    have fresh' : ∀ q ∈ before, q.1.toNat ∉ p.1.toNat :: seen := fun q hq =>
      List.not_mem_cons_of_ne_of_not_mem (fun same => unique (BitVec.eq_of_toNat_eq same ▸ List.mem_map_of_mem hq)) (later q hq)
    calc pairFailure seen (p :: before ++ rest)
      _ = pairFailure (p.1.toNat :: seen) (before ++ rest) := if_pos passes
      _ = _ := ih others apart fresh'
      _ = _ := by simp

/-- R141: a list of pairs that fit, none named again, passes. -/
theorem pairFailure_fit {pairs : List (Byte × Half)} (fit : ∀ p ∈ pairs, Rule.PairFits p)
    (once : (pairs.map Prod.fst).Nodup) : pairFailure [] pairs = none := by
  have passes := pairFailure_append fit once (seen := []) (fun _ _ => List.not_mem_nil) []
  rwa [List.append_nil] at passes

/-- R141: the first pair that does not fit, or names a field again, is the one named. -/
theorem pairFailure_first {before after : List (Byte × Half)} {p : Byte × Half} (fit : ∀ q ∈ before, Rule.PairFits q)
    (once : (before.map Prod.fst).Nodup) (wrong : ¬Rule.PairFits p ∨ p.1 ∈ before.map Prod.fst) :
    pairFailure [] (before ++ p :: after) = some p.1.toNat := by
  rw [pairFailure_append fit once (fun _ _ => List.not_mem_nil)]
  refine if_neg fun passes => ?_
  obtain ⟨fits, unseen⟩ := Bool.and_eq_true_iff.mp passes
  rcases wrong with misfit | again
  · exact misfit (fieldFits_iff.mp fits)
  · obtain ⟨q, hq, same⟩ := List.mem_map.mp again
    have seen : p.1.toNat ∈ (before.map fun q => q.1.toNat).reverse :=
      List.mem_reverse.mpr (List.mem_map.mpr ⟨q, hq, congrArg BitVec.toNat same⟩)
    rw [List.append_nil, List.contains_iff_mem.mpr seen] at unseen
    cases unseen

theorem clearsPresent_iff {pairs : List (Byte × Half)} : clearsPresent pairs = true ↔ (0#8, 0#16) ∈ pairs := by
  simp only [clearsPresent, List.any_eq_true, Bool.and_eq_true, beq_iff_eq]
  exact ⟨fun ⟨(_, _), hp, rfl, rfl⟩ => hp, fun hp => ⟨_, hp, rfl, rfl⟩⟩

/-! ### UNIT.PUT (R141, R142) -/

theorem commonCheck_unitPut {s : State} (normal : s.host.run = .normal) (saving : s.store.saving = false)
    (level : s.table.level ≤ 1) {pairs : List (Byte × Half)} (some' : 1 ≤ pairs.length) (most : pairs.length ≤ 40)
    (safety : (∃ p ∈ pairs, Rule.NamesSafety p) → s.host.service = true ∧ s.table.level = 0) (unit : Byte) :
    s.commonCheck (.unitPut unit pairs) = none := by
  have formed : within 1 40 pairs.length = true := within_iff.mpr ⟨some', most⟩
  have unlocked : ¬2 ≤ s.table.level := Nat.not_le.mpr (Nat.lt_succ_of_le level)
  cases names : namesSafety pairs with
  | false => simp [State.commonCheck, requestMalformed, requestServiceOnly, requestLocked, formed, names, normal, saving, unlocked]
  | true =>
    obtain ⟨service, bottom⟩ := safety ((namesSafety_iff pairs).mp names)
    simp [State.commonCheck, requestMalformed, requestServiceOnly, requestLocked, formed, names, normal, saving, service, bottom]

theorem serveUnitPut_index {unit : Byte} (bad : ¬(1 ≤ unit.toNat ∧ unit.toNat ≤ 24)) (pairs : List (Byte × Half))
    (s : State) : serveUnitPut unit pairs s = refuse s .index :=
  if_pos (Bool.eq_false_iff.mpr (mt unitNumber_iff.mp bad))

theorem serveUnitPut_range {unit : Byte} (number : unitNumber unit.toNat = true) {pairs : List (Byte × Half)} {id : Nat}
    (fails : pairFailure [] pairs = some id) (s : State) : serveUnitPut unit pairs s = refuseRange s id := by
  simp only [serveUnitPut, number, fails]
  rfl

/-- R142: the checks of present = 0, of a list whose pairs fit. -/
theorem serveUnitPut_fit {unit : Byte} (number : unitNumber unit.toNat = true) {pairs : List (Byte × Half)}
    (fit : pairFailure [] pairs = none) (s : State) :
    serveUnitPut unit pairs s =
      if (0#8, 0#16) ∈ pairs ∧ pairs.length ≠ 1 then refuseRange s 0
      else if (0#8, 0#16) ∈ pairs ∧ s.unit unit.toNat ≠ none then refuse s .taken
      else accept (s.setTable (s.table.putPairs unit.toNat pairs))
        (enc8 unit.toNat ++ encFlag ((s.setTable (s.table.putPairs unit.toNat pairs)).descriptor unit.toNat).isSome ++
          encOption encFlag ((s.setTable (s.table.putPairs unit.toNat pairs)).differs unit.toNat)) := by
  simp only [serveUnitPut, number, fit, Bool.and_eq_true, clearsPresent_iff, decide_eq_true_eq, Option.isSome_iff_ne_none]
  rfl

theorem putPairs_clear {pairs : List (Byte × Half)} (clear : (0#8, 0#16) ∈ pairs) (u : Nat) (t : UnitTable) :
    t.putPairs u pairs = { t with descriptors := Table.erase u t.descriptors } := if_pos (clearsPresent_iff.mpr clear)

theorem putPairs_keep {pairs : List (Byte × Half)} (keep : (0#8, 0#16) ∉ pairs) (u : Nat) (t : UnitTable) :
    t.putPairs u pairs = { t with
      descriptors := Table.put u (((Table.find u t.descriptors).getD (Descriptor.default u)).writeAll pairs) t.descriptors } :=
  if_neg (mt clearsPresent_iff.mp keep)

/-- R142, log 21: the reply once the descriptor of an unbound unit is removed. -/
theorem removedBytes_eq {u : Byte} {s : State} (unbound : s.unit u.toNat = none) :
    let t := s.setTable { s.table with descriptors := Table.erase u.toNat s.table.descriptors }
    enc8 u.toNat ++ encFlag (t.descriptor u.toNat).isSome ++ encOption encFlag (t.differs u.toNat) = [u, 0#8, 0#8] := by
  intro t
  have gone : t.descriptor u.toNat = none := (find_erase ..).trans (if_pos rfl)
  have apart : t.differs u.toNat = none := by rw [State.differs, setTable_unit, unbound]; rfl
  rw [gone, apart, enc8_toNat]
  rfl

/-- R142, log 21: the reply once a descriptor is stored. -/
theorem storedBytes_eq (u : Byte) (d : Descriptor) (s : State) :
    let t := s.setTable { s.table with descriptors := Table.put u.toNat d s.table.descriptors }
    enc8 u.toNat ++ encFlag (t.descriptor u.toNat).isSome ++ encOption encFlag (t.differs u.toNat) =
      [u, 1#8] ++ match s.unit u.toNat with
        | none => [0#8]
        | some b => [1#8] ++ encFlag (decide (d ≠ b.copy)) := by
  intro t
  have stored : Table.find u.toNat t.table.descriptors = some d := find_put_same ..
  have found : t.descriptor u.toNat = some d := stored
  rw [found, enc8_toNat]
  cases hb : s.unit u.toNat with
  | none =>
    have apart : t.differs u.toNat = none := by rw [State.differs, setTable_unit, hb]; rfl
    rw [apart]
    rfl
  | some b =>
    have differs := differs_bound (s := t) hb
    simp only [stored, ne_eq, Option.some.injEq] at differs
    rw [differs]
    rfl

/-- R142, R140: a descriptor written over the stored one, or over the default. -/
theorem fieldOf_written {pairs : List (Byte × Half)} (fit : ∀ p ∈ pairs, Rule.PairFits p)
    (once : (pairs.map Prod.fst).Nodup) (u : Nat) (old : Option Descriptor) {id : Nat} (named : 1 ≤ id) (low : id ≤ 28) :
    fieldOf ((old.getD (Descriptor.default u)).writeAll pairs) id =
      match pairs.find? fun p => p.1.toNat == id with
      | some p => p.2.toNat
      | none =>
        match old with
        | some stored => fieldOf stored id
        | none => Rule.fieldDefault u id := by
  rw [fieldOf_writeAll fit once named low]
  cases old with
  | none => rw [Option.getD_none, fieldOf_default u named low]
  | some stored => rfl

/-- Settles O30: the refusals in their order, and the descriptor removed or written. -/
theorem unitPutWritesTheFieldsItNames : Obligations.UnitPutWritesTheFieldsItNames := by
  unfold Obligations.UnitPutWritesTheFieldsItNames
  intro tag unit pairs s idle normal saving level least most safety
  have answered {t : State} {a : Answer} (served : serveUnitPut unit pairs s = (t, a)) :
      exec (.unitPut tag unit pairs) s = .next (t.answering 0x10#8 tag a.result a.payload) :=
    exec_request_served (r := .unitPut unit pairs) idle (commonCheck_unitPut normal saving level least most safety unit)
      served tag
  refine ⟨fun bad => answered (serveUnitPut_index bad pairs s), fun low high => ?_⟩
  have number := unitNumber_iff.mpr ⟨low, high⟩
  refine ⟨fun before p after split fit once wrong => ?_, fun fit once => ?_⟩
  · have served := serveUnitPut_range number (split ▸ pairFailure_first fit once wrong) s
    rw [refuseRange, enc8_toNat] at served
    exact answered served
  have served := serveUnitPut_fit number (pairFailure_fit fit once) s
  refine ⟨fun clear others => ?_, fun alone bound => ?_, fun alone unbound => ?_, fun keep => ?_⟩
  · rw [if_pos ⟨clear, others⟩] at served
    exact answered served
  · have clear : (0#8, 0#16) ∈ pairs := alone ▸ List.mem_singleton_self _
    rw [if_neg (fun h => h.2 (alone ▸ rfl)), if_pos ⟨clear, bound⟩] at served
    exact answered served
  · have clear : (0#8, 0#16) ∈ pairs := alone ▸ List.mem_singleton_self _
    rw [if_neg (fun h => h.2 (alone ▸ rfl)), if_neg (fun h => h.2 unbound), putPairs_clear clear, removedBytes_eq unbound]
      at served
    exact answered served
  · rw [if_neg (fun h => keep h.1), if_neg (fun h => keep h.1), putPairs_keep keep, storedBytes_eq] at served
    exact ⟨_, answered served, fun id named low => fieldOf_written fit once unit.toNat _ named low⟩

end Sys2Proof.Machine
end

section
/-! PROOF. O52: the cycle list, the visits one after another, and the command frame (R155 to R158). -/

namespace Sys2Proof.Machine

/-! ### The next visit (R157, R158) -/

/-- R158, 12.4: the command frame has the bytes of the rule. -/
theorem commandFrame_bytes (run : RunState) (b : BoundUnit) : Rule.CommandBytes run b (commandFrame run b) := ⟨_, rfl, rfl⟩

/-- R157: places whose link record has been discarded are counted and passed over. -/
theorem takeUp_skipped (s : State) {skipped : List Place} (gone : ∀ q ∈ skipped, q.live = false) (rest : List Place) :
    takeUp s (skipped ++ rest) = (takeUp s rest).map fun p => (p.1 + skipped.length, p.2) := by
  induction skipped with
  | nil => simp
  | cons q skipped ih =>
    obtain ⟨first, others⟩ := List.forall_mem_cons.mp gone
    have passed : takeUp s (q :: skipped ++ rest) = (takeUp s (skipped ++ rest)).map fun p => (p.1 + 1, p.2) := by
      simp only [List.cons_append, takeUp, first]
    rw [passed, ih others, Option.map_map]
    rfl

theorem takeUp_live {s : State} {p : Place} {b : BoundUnit} (live : p.live = true) (hb : s.unit p.unit = some b)
    (rest : List Place) : takeUp s (p :: rest) = some (1, p.unit, b) := by simp only [takeUp, live, hb]

/-- R158: the visit of a live place of a bound unit begins with the unit's command frame. -/
theorem nextVisit_begins {s : State} {skipped rest : List Place} {p : Place} {b : BoundUnit}
    (split : s.roof.places.drop s.roof.next = skipped ++ p :: rest) (gone : ∀ q ∈ skipped, q.live = false)
    (live : p.live = true) (hb : s.unit p.unit = some b) :
    s.nextVisit.roof = { s.roof with
      next := s.roof.next + skipped.length + 1
      visit := some { unit := p.unit, address := b.copy.busAddress, live := true }
      lastCommand := commandFrame s.host.run b } := by
  have place : takeUp s (s.roof.places.drop s.roof.next) = some (1 + skipped.length, p.unit, b) := by
    rw [split, takeUp_skipped s gone, takeUp_live live hb]
    rfl
  simp only [State.nextVisit, place, setRoof_roof, Nat.add_assoc, Nat.add_comm 1]

/-- R158: with no live place left the cycle ends. -/
theorem nextVisit_ends {s : State} (gone : ∀ q ∈ s.roof.places.drop s.roof.next, q.live = false) :
    s.nextVisit.roof = { s.roof with next := s.roof.places.length, visit := none } := by
  have none : takeUp s (s.roof.places.drop s.roof.next) = none := by
    have passed := takeUp_skipped s gone []
    rwa [List.append_nil] at passed
  simp only [State.nextVisit, none, setRoof_roof]

/-- R156 to R158: the next visit follows the rule where the visit's end has left the cycle record alone. -/
theorem nextVisit_rule {s m : State} (roof : m.roof = s.roof) : Rule.NextVisit s m.nextVisit := by
  refine ⟨fun skipped rest p b split gone live hb => ?_, fun gone => ?_⟩
  · rw [nextVisit_unit] at hb
    have begun := nextVisit_begins (roof ▸ split) gone live hb
    have run : m.nextVisit.host = m.host := by rw [nextVisit_frame]
    rw [begun, run, roof]
    exact ⟨rfl, commandFrame_bytes ..⟩
  · rw [nextVisit_ends (roof ▸ gone), roof]

/-! ### What the end of a visit leaves of the cycle record -/

theorem foldl_roof {α : Type} {f : State → α → State} (each : ∀ s a, (f s a).roof = s.roof) (l : List α) (s : State) :
    (l.foldl f s).roof = s.roof :=
  List.foldlRecOn (motive := fun m => m.roof = s.roof) l f rfl fun _ kept a _ => (each _ a).trans kept

theorem takeFallback_roof (u : Nat) (s : State) : (s.takeFallback u).roof = s.roof := by
  unfold State.takeFallback
  split
  · rfl
  · split
    · rw [onUnit_frame, stopAll_frame]
    · rfl

theorem declareLost_roof (u : Nat) (b : BoundUnit) (s : State) : (s.declareLost u b).roof = s.roof := by
  have withdrawn (s : State) : (s.withdrawUnit u).roof = s.roof := by rw [State.withdrawUnit, withdrawAll_frame]
  exact (takeFallback_roof u _).trans (withdrawn _)

theorem miss_roof (u : Nat) (s : State) : (s.miss u).roof = s.roof := by
  unfold State.miss
  split
  · rfl
  · dsimp only
    split
    · rfl
    · rfl
    · rfl
    · split
      · rfl
      · exact declareLost_roof ..

theorem rebuildUnexpected_roof (u : Nat) (s : State) : (s.rebuildUnexpected u).roof = s.roof := by
  unfold State.rebuildUnexpected
  split
  · rfl
  · exact foldl_roof (fun _ _ => raise_roof ..) _ _

theorem hear_roof (u : Nat) (r : BoardReply) (b : BoundUnit) (s : State) : (s.hear u r b).roof = s.roof := by
  unfold State.hear
  split <;> rfl

theorem goodReply_roof (u : Nat) (r : BoardReply) (s : State) : (s.goodReply u r).roof = s.roof := by
  cases hb : s.unit u with
  | none => simp only [State.goodReply, hb]
  | some b =>
    have events (l : List ReplyEvent) (s : State) : (s.takeEvents u l).roof = s.roof :=
      foldl_roof (fun s e => by rw [takeEvent_frame]) l s
    rw [goodReply_eq hb, rebuildUnexpected_roof, onUnit_frame]
    exact (events ..).trans (hear_roof ..)

/-- R159: the visit in progress judged, before the next one begins; nothing is judged for a freed unit (R157). -/
def State.judgeVisit (received : List Byte) (v : Visit) (s : State) : State :=
  if v.live then
    match judgeReply v.address received with
    | some r => s.goodReply v.unit r
    | none => s.miss v.unit
  else s

theorem judgeVisit_roof (received : List Byte) (v : Visit) (s : State) : (s.judgeVisit received v).roof = s.roof := by
  unfold State.judgeVisit
  split
  · split
    · exact goodReply_roof ..
    · exact miss_roof ..
  · rfl

theorem exec_visitEnd {v : Visit} {s : State} (visit : s.roof.visit = some v) (received : List Byte) :
    exec (.visitEnd received) s = .next (s.judgeVisit received v).nextVisit := by
  simp only [exec, execVisitEnd, visit]
  rfl

theorem exec_visitEnd_none {s : State} (none : s.roof.visit = none) (received : List Byte) :
    exec (.visitEnd received) s = .next s := by simp only [exec, execVisitEnd, none]

/-! ### The cycle list (R156) -/

theorem placeByAddress_perm (u a : Nat) (l : List (Nat × Nat)) : (placeByAddress u a l).Perm ((u, a) :: l) := by
  induction l with
  | nil => exact .refl _
  | cons p l ih =>
    unfold placeByAddress
    split
    · exact .refl _
    · exact (ih.cons p).trans (.swap ..)

theorem placeByAddress_ascending (u a : Nat) {l : List (Nat × Nat)} (ascending : l.Pairwise fun p q => p.2 ≤ q.2) :
    (placeByAddress u a l).Pairwise fun p q => p.2 ≤ q.2 := by
  induction l with
  | nil => exact List.pairwise_singleton ..
  | cons p l ih =>
    obtain ⟨least, rest⟩ := List.pairwise_cons.mp ascending
    unfold placeByAddress
    split
    · rename_i before
      refine List.pairwise_cons.mpr ⟨fun q member => ?_, ascending⟩
      obtain rfl | member := List.mem_cons.mp member
      · exact before.le
      · exact before.le.trans (least q member)
    · rename_i behind
      refine List.pairwise_cons.mpr ⟨fun q member => ?_, ih rest⟩
      obtain rfl | member := List.mem_cons.mp ((placeByAddress_perm u a l).mem_iff.mp member)
      · exact Nat.not_lt.mp behind
      · exact least q member

/-- R156: the bound units with their bus addresses, in the order of the cycle list. -/
def State.unitsByAddress (s : State) : List (Nat × Nat) :=
  s.units.foldl (fun l p => placeByAddress p.1 p.2.copy.busAddress l) []

theorem cyclePlaces_eq (s : State) :
    s.cyclePlaces = s.unitsByAddress.map fun p => { unit := p.1, live := true } := rfl

theorem unitsByAddress_perm (s : State) :
    s.unitsByAddress.Perm (s.units.map fun p => (p.1, p.2.copy.busAddress)) := by
  have placed (units : Table BoundUnit) (l : List (Nat × Nat)) :
      (units.foldl (fun l p => placeByAddress p.1 p.2.copy.busAddress l) l).Perm
        (units.map (fun p => (p.1, p.2.copy.busAddress)) ++ l) := by
    induction units generalizing l with
    | nil => exact .refl _
    | cons p units ih => exact (ih _).trans (((placeByAddress_perm ..).append_left _).trans List.perm_middle)
  exact (placed s.units []).trans (.of_eq (List.append_nil _))

theorem unitsByAddress_ascending (s : State) : s.unitsByAddress.Pairwise fun p q => p.2 ≤ q.2 :=
  List.foldlRecOn s.units _ List.Pairwise.nil fun _ ascending _ _ => placeByAddress_ascending _ _ ascending

/-- R156: a listed unit is bound, and stands with its bus address. -/
theorem mem_unitsByAddress {s : State} (form : Table.wf s.units = true) {p : Nat × Nat} (listed : p ∈ s.unitsByAddress) :
    ∃ b, s.unit p.1 = some b ∧ b.copy.busAddress = p.2 := by
  obtain ⟨q, member, rfl⟩ := List.mem_map.mp ((unitsByAddress_perm s).mem_iff.mp listed)
  exact ⟨q.2, ((mem_iff_find form q.1 q.2).mp member).2, rfl⟩

theorem cyclePlaces_perm (s : State) : (s.cyclePlaces.map Place.unit).Perm (s.units.map Prod.fst) := by
  have named := (unitsByAddress_perm s).map Prod.fst
  rw [List.map_map] at named
  rw [cyclePlaces_eq, List.map_map]
  exact named

theorem cyclePlaces_live {s : State} {p : Place} (listed : p ∈ s.cyclePlaces) : p.live = true := by
  obtain ⟨_, _, rfl⟩ := List.mem_map.mp listed
  rfl

theorem cyclePlaces_bound {s : State} (form : Table.wf s.units = true) {p : Place} (listed : p ∈ s.cyclePlaces) :
    ∃ b, s.unit p.unit = some b := by
  obtain ⟨q, member, rfl⟩ := List.mem_map.mp listed
  obtain ⟨b, hb, _⟩ := mem_unitsByAddress form member
  exact ⟨b, hb⟩

theorem cyclePlaces_ascending {s : State} (form : Table.wf s.units = true) :
    s.cyclePlaces.Pairwise fun p q => ∀ b c, s.unit p.unit = some b → s.unit q.unit = some c →
      b.copy.busAddress ≤ c.copy.busAddress := by
  rw [cyclePlaces_eq, List.pairwise_map]
  refine (unitsByAddress_ascending s).imp_of_mem fun {p q} hp hq ascending b c hb hc => ?_
  obtain ⟨b', hb', first⟩ := mem_unitsByAddress form hp
  obtain ⟨c', hc', second⟩ := mem_unitsByAddress form hq
  obtain rfl : b = b' := Option.some.inj (hb.symm.trans hb')
  obtain rfl : c = c' := Option.some.inj (hc.symm.trans hc')
  rwa [first, second]

/-! ### The start of a cycle (R155, R156) -/

theorem moment_eq {ms : Nat} (fits : ms < 1000) (s : State) : s.moment ms = s.uptime.toNat * 1000 + ms := by
  rw [State.moment, Nat.mod_eq_of_lt fits]

theorem moment_lt {ms : Nat} (fits : ms < 1000) (s : State) : s.moment ms < 4294967296000 := by
  have := s.uptime.isLt
  rw [moment_eq fits]
  omega

/-- R156: no cycle starts during a visit, nor, once the one before it has ended, within 1,000 ms of its start. -/
theorem cycleDue_early {at' : Nat} {s : State} (early : s.roof.visit ≠ none ∨
    (s.roof.places.length ≤ s.roof.next ∧ s.roof.start ≤ at' ∧ at' < s.roof.start + 1000)) :
    s.cycleDue at' = false := by
  rcases early with visited | ⟨ended, begun, young⟩
  · simp [State.cycleDue, visited]
  · have age : ¬1000 ≤ (at' + 4294967296000 - s.roof.start) % 4294967296000 := by omega
    simp [State.cycleDue, Config.cycleTime, age, ended]

theorem cycleDue_late {at' : Nat} {s : State} (rests : s.roof.visit = none)
    (late : s.roof.next < s.roof.places.length ∨ s.roof.start + 1000 ≤ at') (fits : at' < 4294967296000) :
    s.cycleDue at' = true := by
  rcases late with unbegun | old
  · simp [State.cycleDue, rests, unbegun]
  · have age : 1000 ≤ (at' + 4294967296000 - s.roof.start) % 4294967296000 := by omega
    simp [State.cycleDue, Config.cycleTime, age, rests]

/-- R156: the state in which the first visit of a cycle is about to begin. -/
def State.startCycle (at' : Nat) (s : State) : State :=
  s.setRoof { s.roof with places := s.cyclePlaces, next := 0, start := at', visit := none }

theorem exec_pollCycleStart (ms : Nat) (s : State) : exec (.pollCycleStart ms) s = .next
    (if s.cycleDue (s.moment ms) then (s.startCycle (s.moment ms)).nextVisit else s) := rfl

theorem startCycle_empty {at' : Nat} {s : State} (empty : s.cyclePlaces = []) :
    (s.startCycle at').nextVisit.roof = { s.roof with places := [], next := 0, start := at', visit := none } := by
  have places : (s.startCycle at').roof.places = [] := empty
  rw [nextVisit_ends (by rw [places]; exact nofun), places]
  exact congrArg (fun places => { s.roof with places := places, next := 0, start := at', visit := none }) empty

theorem startCycle_first {at' : Nat} {s : State} {p : Place} {rest : List Place} {b : BoundUnit}
    (list : s.cyclePlaces = p :: rest) (hb : s.unit p.unit = some b) :
    (s.startCycle at').nextVisit.roof = { s.roof with
      places := p :: rest, next := 1, start := at'
      visit := some { unit := p.unit, address := b.copy.busAddress, live := true }
      lastCommand := commandFrame s.host.run b } := by
  have live : p.live = true := cyclePlaces_live (list ▸ List.mem_cons_self)
  rw [nextVisit_begins (s := s.startCycle at') (skipped := []) list nofun live hb, ← list]
  rfl

theorem nextVisit_places_start (s : State) :
    s.nextVisit.roof.places = s.roof.places ∧ s.nextVisit.roof.start = s.roof.start := by
  unfold State.nextVisit
  split <;> exact ⟨rfl, rfl⟩

/-- R155, R156: a cycle that may start. -/
theorem pollCycleStart_due {ms : Nat} {s : State} (due : s.cycleDue (s.moment ms) = true) :
    exec (.pollCycleStart ms) s = .next (s.startCycle (s.moment ms)).nextVisit := by
  rw [exec_pollCycleStart, if_pos due]

theorem pollCycleStart_early {ms : Nat} {s : State} (early : s.cycleDue (s.moment ms) = false) :
    exec (.pollCycleStart ms) s = .next s := by
  rw [exec_pollCycleStart, if_neg (Bool.eq_false_iff.mp early)]

/-- Settles O52: a cycle's list is the units inserted by address, and every visit's end leaves the cycle record to the search
for the next place. -/
theorem pollCyclesVisitEveryBoundUnit : Obligations.PollCyclesVisitEveryBoundUnit := by
  unfold Obligations.PollCyclesVisitEveryBoundUnit
  refine ⟨fun ms s form fits => ⟨fun early => ?_, fun rests late => ?_⟩,
    fun received s => ⟨fun v visit => ?_, fun none => ?_⟩⟩
  · rw [← moment_eq fits s] at early
    exact pollCycleStart_early (cycleDue_early early)
  · rw [← moment_eq fits s] at late ⊢
    obtain ⟨places, start⟩ := nextVisit_places_start (s.startCycle (s.moment ms))
    have places : (s.startCycle (s.moment ms)).nextVisit.roof.places = s.cyclePlaces := places
    refine ⟨_, pollCycleStart_due (cycleDue_late rests late (moment_lt fits s)), nextVisit_frame _, start, ?_, ?_, ?_, ?_⟩
    · rw [places]
      exact cyclePlaces_perm s
    · rw [places]
      exact fun p => cyclePlaces_live
    · rw [places]
      exact cyclePlaces_ascending form
    · cases list : s.cyclePlaces with
      | nil =>
        rw [startCycle_empty list]
        exact ⟨rfl, rfl, rfl⟩
      | cons p rest =>
        obtain ⟨b, hb⟩ := cyclePlaces_bound form (p := p) (list ▸ List.mem_cons_self)
        rw [startCycle_first list hb]
        exact ⟨rfl, b, hb, rfl, commandFrame_bytes ..⟩
  · refine ⟨_, exec_visitEnd visit received, nextVisit_rule (judgeVisit_roof ..), fun freed => ?_⟩
    have unjudged : s.judgeVisit received v = s := if_neg (by rw [freed]; exact Bool.false_ne_true)
    rw [unjudged]
    exact nextVisit_frame s
  · exact exec_visitEnd_none none received

end Sys2Proof.Machine
end

section
/-! PROOF. O53: the bytes that are no good reply, the misses of a unit, and the fallback of a LOST one (R159 to R162). -/

namespace Sys2Proof.Machine

/-! ### Bytes that are no good reply (R159, 12.4) -/

/-- R159: the bytes before the first start byte are not looked at. -/
theorem fromStart_append {before : List Byte} (none : 0xA5#8 ∉ before) (after : List Byte) :
    fromStart (before ++ after) = fromStart after := by
  induction before with
  | nil => rfl
  | cons x before ih =>
    obtain ⟨other, rest⟩ := not_or.mp (mt List.mem_cons.mpr none)
    rw [List.cons_append, fromStart, if_neg (Ne.symm other), ih rest]

theorem fromStart_found {before : List Byte} (none : 0xA5#8 ∉ before) (after : List Byte) :
    fromStart (before ++ 0xA5#8 :: after) = 0xA5#8 :: after := by
  rw [fromStart_append none, fromStart, if_pos rfl]

/-- R159: fewer than 14 bytes are no good reply. -/
theorem judgeReply_short {received : List Byte} (short : (fromStart received).length < 14) (address : Nat) :
    judgeReply address received = none := by
  unfold judgeReply
  split
  · rename_i whole
    have length := congrArg List.length whole
    rw [List.length_take, Nat.min_eq_right short.le] at length
    exact absurd length short.ne
  · rfl

/-- R159: of 14 bytes the address, the kind and the CRC are those of a reply of the unit, or there is no good reply. -/
theorem judgeReply_mismatch {address : Nat} {received contents rest : List Byte} {start a k c1 c0 : Byte}
    (found : fromStart received = start :: a :: k :: contents ++ c1 :: c0 :: rest) (nine : contents.length = 9)
    (wrong : a.toNat ≠ address ∨ k ≠ 0x52#8 ∨ crc16 (a :: k :: contents) ≠ half c1 c0) :
    judgeReply address received = none := by
  match contents, nine with
  | [running, trips, flags, s1, s0, d1, d0, o1, o0], _ =>
    have taken : (fromStart received).take 14 =
        [start, a, k, running, trips, flags, s1, s0, d1, d0, o1, o0, c1, c0] := by rw [found]; rfl
    have bad : ¬(a.toNat = address ∧ k = 0x52#8 ∧
        crc16 [a, k, running, trips, flags, s1, s0, d1, d0, o1, o0] = half c1 c0) := by tauto
    simp only [judgeReply, taken, if_neg bad]

/-! ### Stops of every stage that is on, and the fallback (R162, R52, R125) -/

/-- R12: immediate stops of several stages of one unit. -/
theorem halted_stopAll {cause : StopCause} (immediate : cause.stopClass = .immediate) (noTrip : cause.isTrip = false)
    (u : Nat) (stages : List StageName) (s : State) : Halted cause s (s.stopAll u cause stages) :=
  List.foldlRecOn stages _ (.refl cause s) fun _ h st _ => h.takeStop immediate noTrip u st

/-- R12: stops that are no trips change only the units. -/
theorem stopAll_units {cause : StopCause} (noTrip : cause.isTrip = false) (u : Nat) (stages : List StageName) (s : State) :
    s.stopAll u cause stages = { s with units := (s.stopAll u cause stages).units } := by
  have host : (s.stopAll u cause stages).host = s.host :=
    List.foldlRecOn (motive := fun m : State => m.host = s.host) stages _ rfl fun _ kept st _ =>
      (takeStop_host noTrip u st _).trans kept
  conv_lhs => rw [stopAll_frame, host]

/-- R162: a unit whose stages that were on have been stopped at once with UNIT_LOST, and no others. -/
structure StoppedLost (run : RunState) (now : Word) (b c : BoundUnit) : Prop where
  follows : StopFollows run .unitLost b c
  off : ∀ st, c.isOn st = false
  stages : ∀ st, match b.stages.get st with
    | none => c.stages.get st = none
    | some r => ∃ q, c.stages.get st = some q ∧
        if r.state.isOn = true then StoppedAtOnce b.copy now .unitLost r q else q = r

/-- R162: all stages that are on stop. -/
theorem stopAll_stoppedLost {u : Nat} {b : BoundUnit} {s : State} (hb : s.unit u = some b) :
    ∃ c, (s.stopAll u .unitLost b.onStages).unit u = some c ∧ StoppedLost s.host.run s.uptime b c := by
  have halted := (halted_stopAll (cause := .unitLost) rfl rfl u b.onStages s).units u
  rw [hb] at halted
  obtain ⟨c, hc, halted⟩ := optionRel_some halted
  have off (st : StageName) : c.isOn st = false := by
    refine Bool.eq_false_iff.mpr fun on => ?_
    rw [← stageOn_of_unit hc] at on
    obtain ⟨before, apart⟩ := stopAll_on rfl on
    exact apart ⟨rfl, List.mem_filter.mpr ⟨mem_allStages st, (stageOn_of_unit hb st).symm.trans before⟩⟩
  refine ⟨c, hc, halted.follows, off, fun st => ?_⟩
  have waits := ((restful_stopAll u .unitLost b.onStages s).move u st).queued
  rw [stageState_of_unit hb, stageState_of_unit hc, BoundUnit.stateOf, BoundUnit.stateOf] at waits
  have moved := halted.records st
  cases hr : b.stages.get st with
  | none =>
    rw [hr] at moved
    exact Option.not_isSome_iff_eq_none.mp (by rw [optionRel_isSome moved]; exact nofun)
  | some r =>
    rw [hr] at moved
    obtain ⟨q, hq, moved⟩ := optionRel_some moved
    have rests := off st
    rw [BoundUnit.isOn, BoundUnit.stageIs, hq] at rests
    rw [hr, hq] at waits
    refine ⟨q, hq, ?_⟩
    obtain rfl | ⟨queued, rfl⟩ | ⟨on, rfl⟩ := moved
    · rw [if_neg (Bool.eq_false_iff.mp rests)]
    · exact absurd (waits.mpr (congrArg some queued)) nofun
    · rw [if_pos on]
      exact immediateStop_stoppedAtOnce b.copy s.uptime rfl on

/-- R87, R122: the gas channel of a unit whose stages have all stopped: a derived target is 0. -/
theorem gasFollows_off {b c : BoundUnit} (follows : GasFollows (HeatMoved b c) b.gasReduction b c)
    (off : ∀ st, c.isOn st = false) :
    { c.gas with position := 0 } = { b.gas with
      position := 0
      target := if (b.isOn .h1 = true ∨ b.isOn .h2 = true) ∧ b.copy.kind = .modulatingGas ∧ b.zone ≠ 0 then 0
        else b.gas.target } := by
  have heat : HeatMoved b c ↔ b.isOn .h1 = true ∨ b.isOn .h2 = true := by
    rw [HeatMoved, off, off]
    cases b.isOn .h1 <;> cases b.isOn .h2 <;> decide
  obtain ⟨profile, derived, kept⟩ := follows
  rw [heat, off, off] at derived
  rw [heat] at kept
  dsimp only
  rw [profile]
  split
  · rw [(derived ‹_›).1]
    rfl
  · rw [(kept ‹_›).1]

/-- R162, R52, R125: the unit once its stages have stopped and its channels have closed. -/
theorem StoppedLost.fellBack {run : RunState} {now : Word} {b c : BoundUnit} (stopped : StoppedLost run now b c) :
    Rule.FellBack run now b c.fallBack := by
  obtain ⟨⟨frame, purge, gas⟩, off, stages⟩ := stopped
  refine ⟨?_, purge, stages⟩
  rw [BoundUnit.fallBack, gasFollows_off gas off]
  conv_lhs => rw [frame]

/-- R162: a fallback changes only the units. -/
theorem takeFallback_frame (u : Nat) (s : State) : s.takeFallback u = { s with units := (s.takeFallback u).units } := by
  unfold State.takeFallback
  split
  · rfl
  · rename_i b _
    split
    · have closed := onUnit_frame u BoundUnit.fallBack (s.stopAll u .unitLost b.onStages)
      have stops := stopAll_units (cause := .unitLost) rfl u b.onStages s
      generalize (s.stopAll u .unitLost b.onStages).onUnit u BoundUnit.fallBack = t at closed ⊢
      rw [stops] at closed
      exact closed
    · rfl

theorem takeFallback_other {u v : Nat} (other : v ≠ u) (s : State) : (s.takeFallback u).unit v = s.unit v := by
  unfold State.takeFallback
  split
  · rfl
  · split
    · rw [unit_onUnit, if_neg other, stopAll_other other]
    · rfl

/-- R162: a due fallback. -/
theorem takeFallback_due {u : Nat} {b : BoundUnit} {s : State} (hb : s.unit u = some b)
    (due : b.fallbackDue s.uptime = true) :
    ∃ b', (s.takeFallback u).unit u = some b' ∧ Rule.FellBack s.host.run s.uptime b b' := by
  obtain ⟨c, hc, stopped⟩ := stopAll_stoppedLost hb
  refine ⟨c.fallBack, ?_, stopped.fellBack⟩
  simp only [State.takeFallback, hb, if_pos due]
  rw [unit_onUnit, if_pos rfl, hc]
  rfl

theorem takeFallback_early {u : Nat} {b : BoundUnit} {s : State} (hb : s.unit u = some b)
    (early : ¬b.fallbackDue s.uptime = true) : s.takeFallback u = s := by
  simp only [State.takeFallback, hb, if_neg early]

/-! ### Withdrawals of a unit's entries (R33) -/

/-- R33: the withdrawal of a unit's entries, one after another, keeps what each of them keeps. -/
theorem withdrawUnit_induction {motive : State → Prop} {u : Nat} {s : State} (start : motive s)
    (each : ∀ m st, motive m → motive (m.withdraw u st)) : motive (s.withdrawUnit u) :=
  List.foldlRecOn _ _ start fun m kept e member => by
    have unit : e.unit = u := eq_of_beq (List.mem_filter.mp member).2
    rw [unit]
    exact each m e.stage kept

/-- R30: what a withdrawal does, with an entry and without one. -/
theorem withdraw_cases (u : Nat) (st : StageName) (s : State) :
    s.withdraw u st = (s.removeEntry u st).onUnit u (BoundUnit.onStage st StageRec.withdraw) ∨ s.withdraw u st = s := by
  unfold State.withdraw
  split
  · exact .inl rfl
  · exact .inr rfl

theorem withdrawUnit_stagesOnly (u : Nat) (s : State) : StagesOnly s (s.withdrawUnit u) :=
  withdrawUnit_induction (.refl s) fun m st kept => kept.trans <| by
    obtain withdrawn | same := withdraw_cases u st m
    · rw [withdrawn]
      exact stagesOnly_onStage u st StageRec.withdraw (m.removeEntry u st)
    · rw [same]
      exact .refl m

theorem withdrawUnit_other {u v : Nat} (other : v ≠ u) (s : State) : (s.withdrawUnit u).unit v = s.unit v :=
  withdrawUnit_induction (motive := fun m => m.unit v = s.unit v) rfl fun m st kept => by
    obtain withdrawn | same := withdraw_cases u st m
    · rw [withdrawn, unit_onUnit, if_neg other]
      exact kept
    · rw [same, kept]

theorem withdraw_again (r : StageRec) : r.withdraw.withdraw = r.withdraw := by
  unfold StageRec.withdraw
  split <;> rfl

/-- R30, R4: each record is as it was or withdrawn. -/
theorem withdrawUnit_record (u v : Nat) (x : StageName) (s : State) :
    (s.withdrawUnit u).stageRec v x = s.stageRec v x ∨
      (s.withdrawUnit u).stageRec v x = (s.stageRec v x).map StageRec.withdraw := by
  refine withdrawUnit_induction (motive := fun m => m.stageRec v x = s.stageRec v x ∨
    m.stageRec v x = (s.stageRec v x).map StageRec.withdraw) (.inl rfl) fun m st kept => ?_
  have removed : (m.removeEntry u st).stageRec v x = m.stageRec v x := rfl
  obtain withdrawn | same := withdraw_cases u st m
  · rw [withdrawn, stageRec_onStage]
    split
    · rename_i same
      obtain ⟨rfl, rfl⟩ := same
      rw [removed]
      refine .inr ?_
      obtain before | before := kept
      · rw [before]
      · rw [before, Option.map_map]
        exact congrArg (Option.map · _) (funext withdraw_again)
    · exact kept
  · rw [same]
    exact kept

/-- R33: the queue keeps the entries of the other units. -/
theorem withdrawUnit_queue (u : Nat) (s : State) :
    (s.withdrawUnit u).arbiter.queue = s.arbiter.queue.filter fun e => !(e.unit == u) := by
  rw [State.withdrawUnit, withdrawAll_queue]
  refine List.filter_congr fun e member => ?_
  rw [Bool.eq_iff_iff, List.all_eq_true]
  refine ⟨fun apart => ?_, fun apart f listed => ?_⟩
  · cases unit : e.unit == u with
    | false => rfl
    | true =>
      have own := apart e (List.mem_filter.mpr ⟨member, unit⟩)
      simp [Entry.isFor] at own
  · have unit : f.unit = u := eq_of_beq (List.mem_filter.mp listed).2
    rw [unit, Entry.isFor]
    revert apart
    cases e.unit == u <;> simp

theorem withdrawUnit_frame (u : Nat) (s : State) :
    s.withdrawUnit u = { s with
      units := (s.withdrawUnit u).units
      arbiter := { s.arbiter with queue := s.arbiter.queue.filter fun e => !(e.unit == u) } } := by
  have frame : SameBesidesQueue s (s.withdrawUnit u) :=
    withdrawUnit_induction rfl fun m st kept => kept.trans (sameBesidesQueue_withdraw u st m)
  rw [← withdrawUnit_queue]
  exact frame

/-- R4, R33: where the queue and the stages agree, a withdrawn unit's waiting stages have all gone to OFF. -/
theorem withdrawUnit_withdrawn {s : State} (agrees : QueueAgrees s) (u : Nat) (x : StageName) :
    (s.withdrawUnit u).stageRec u x = (s.stageRec u x).map StageRec.withdraw := by
  have state (t : State) : t.stageState u x = (t.stageRec u x).map StageRec.state := by
    unfold State.stageState State.stageRec
    cases t.unit u <;> rfl
  obtain same | withdrawn := withdrawUnit_record u u x s
  · have gone : (s.withdrawUnit u).stageState u x ≠ some .queued := fun waits => by
      obtain ⟨e, member, unit, _⟩ := (((keeping_withdrawUnit u s).agrees agrees).waiting u x).mp waits
      rw [withdrawUnit_queue] at member
      simp [unit] at member
    rw [state, same] at gone
    rw [same]
    cases hr : s.stageRec u x with
    | none => rfl
    | some r =>
      rw [hr] at gone
      exact congrArg some (if_neg fun waits => gone (congrArg some waits)).symm
  · exact withdrawn

/-! ### The misses (R160, R161) -/

/-- R161: the unit as it is declared LOST, before its entries are withdrawn. -/
def BoundUnit.declared (b : BoundUnit) : BoundUnit :=
  { b with misses := min 255 (b.misses + 1), live := { b.live with link := .lost }, lostOn := Six.ofFn b.isOn }

/-- R161: the state once a unit is declared LOST, its notice raised and its entries withdrawn. -/
def State.lose (u : Nat) (b : BoundUnit) (s : State) : State :=
  ((s.putUnit u b.declared).raise .unitLost (some u) none (noticeZone b.zone) (b.sinceGood s.uptime)).withdrawUnit u

theorem lose_frame (u : Nat) (b : BoundUnit) (s : State) :
    s.lose u b = { s with
      units := (s.lose u b).units
      host := noting s .unitLost (some u) none (if b.zone = 0 then none else some b.zone)
        (b.live.lastGood.map fun good => ((s.uptime - good).toNat : Int))
      arbiter := { s.arbiter with queue := s.arbiter.queue.filter fun e => !(e.unit == u) } } := by
  rw [State.lose, raise_eq]
  exact withdrawUnit_frame ..

theorem lose_other {u v : Nat} (other : v ≠ u) (b : BoundUnit) (s : State) : (s.lose u b).unit v = s.unit v := by
  rw [State.lose, withdrawUnit_other other, raise_unit, unit_putUnit, if_neg other]

/-- R161, R33: the unit that has been declared LOST. -/
theorem lose_unit {u : Nat} {b : BoundUnit} {s : State} (hb : s.unit u = some b) :
    ∃ lost, (s.lose u b).unit u = some lost ∧ lost = { b.declared with stages := lost.stages } ∧
      (QueueLaw s → ∀ st, lost.stages.get st = (b.stages.get st).map StageRec.withdraw) := by
  have declared : ((s.putUnit u b.declared).raise .unitLost (some u) none (noticeZone b.zone) (b.sinceGood s.uptime)).unit u =
      some b.declared := by rw [raise_unit, unit_putUnit_same]
  obtain ⟨stages, hc⟩ := withdrawUnit_stagesOnly u
    ((s.putUnit u b.declared).raise .unitLost (some u) none (noticeZone b.zone) (b.sinceGood s.uptime)) u
  rw [declared] at hc
  refine ⟨_, hc, rfl, fun law st => ?_⟩
  have agrees := ((restful_putUnit_stages hb (c := b.declared) (by rfl)).trans (sameStarts_raise .unitLost (some u) none
    (noticeZone b.zone) (b.sinceGood s.uptime) _).restful).keeping.agrees law.agrees
  rw [← stageRec_of_unit hc, withdrawUnit_withdrawn agrees, stageRec_of_unit declared]
  rfl

/-- R160, R161: what a miss does in each link state. -/
theorem miss_counted {u : Nat} {b : BoundUnit} {s : State} (hb : s.unit u = some b)
    (link : b.live.link = .unknown ∨ b.live.link = .lost) :
    s.miss u = s.putUnit u { b with misses := min 255 (b.misses + 1) } := by
  rcases link with link | link <;> simp only [State.miss, hb, BoundUnit.countMiss, link]

theorem miss_online {u : Nat} {b : BoundUnit} {s : State} (hb : s.unit u = some b) (link : b.live.link = .online) :
    s.miss u = s.putUnit u { b with misses := 1, live := { b.live with link := .missing } } := by
  simp only [State.miss, hb, BoundUnit.countMiss, link]
  rfl

theorem miss_missing {u : Nat} {b : BoundUnit} {s : State} (hb : s.unit u = some b) (link : b.live.link = .missing)
    (few : b.misses < 3) : s.miss u = s.putUnit u { b with misses := b.misses + 1 } := by
  have count : min 255 (b.misses + 1) = b.misses + 1 := by omega
  simp only [State.miss, hb, BoundUnit.countMiss, link, count]
  exact if_pos (by omega)

theorem miss_lost {u : Nat} {b : BoundUnit} {s : State} (hb : s.unit u = some b) (link : b.live.link = .missing)
    (many : 3 ≤ b.misses) : s.miss u = (s.lose u b).takeFallback u := by
  simp only [State.miss, hb, BoundUnit.countMiss, link]
  exact if_neg (by omega)

/-- R159: the end of a visit that is a miss. -/
theorem exec_visitEnd_miss {v : Visit} {received : List Byte} {s : State} (visit : s.roof.visit = some v)
    (live : v.live = true) (judged : judgeReply v.address received = none) :
    exec (.visitEnd received) s = .next (s.miss v.unit).nextVisit := by
  simp only [exec_visitEnd visit, State.judgeVisit, live, judged, if_true]

/-- R158: the next visit after a change of one unit. -/
theorem onlyUnit_nextVisit {u : Nat} {b : BoundUnit} {s m : State} (changed : m = s.putUnit u b) :
    OnlyUnit u b { s with roof := m.nextVisit.roof } m.nextVisit := by
  subst changed
  refine ⟨?_, fun v => (nextVisit_unit ..).trans (unit_putUnit u v b s)⟩
  have units : (s.putUnit u b).nextVisit.units = (s.putUnit u b).units := by rw [nextVisit_frame]
  rw [units]
  exact nextVisit_frame _

/-- R161, R33: the fourth miss raises its notice, withdraws the unit's entries and changes no other unit. -/
theorem miss_lost_frame {u : Nat} {b : BoundUnit} {s : State} (hb : s.unit u = some b) (link : b.live.link = .missing)
    (many : 3 ≤ b.misses) :
    s.miss u = { s with
      units := (s.miss u).units
      host := noting s .unitLost (some u) none (if b.zone = 0 then none else some b.zone)
        (b.live.lastGood.map fun good => ((s.uptime - good).toNat : Int))
      arbiter := { s.arbiter with queue := s.arbiter.queue.filter fun e => !(e.unit == u) } } := by
  rw [miss_lost hb link many]
  have taken := takeFallback_frame u (s.lose u b)
  generalize (s.lose u b).takeFallback u = t at taken ⊢
  rw [lose_frame] at taken
  exact taken

/-- R161, R162: the unit after its fourth miss, with a fallback that is due at once and without one. -/
theorem miss_lost_unit {u : Nat} {b : BoundUnit} {s : State} {lapsed : Bool} (hb : s.unit u = some b)
    (link : b.live.link = .missing) (many : 3 ≤ b.misses)
    (lapse : lapsed = true ↔ b.fallbackTaken = false ∧
      ∃ good, b.live.lastGood = some good ∧ b.copy.fallbackTime ≤ (s.uptime - good).toNat) :
    ∃ lost b', (s.miss u).unit u = some b' ∧ lost = { b.declared with stages := lost.stages } ∧
      (QueueLaw s → ∀ st, lost.stages.get st = (b.stages.get st).map StageRec.withdraw) ∧
      (lapsed = false → b' = lost) ∧ (lapsed = true → Rule.FellBack s.host.run s.uptime lost b') := by
  obtain ⟨lost, hlost, kept, withdrawn⟩ := lose_unit hb
  have now : (s.lose u b).uptime = s.uptime := by rw [lose_frame]
  have run : (s.lose u b).host.run = s.host.run := by rw [lose_frame]; rfl
  have due : lost.fallbackDue s.uptime = true ↔ lapsed = true := by
    rw [fallbackDue_iff, lapse, kept]
    exact and_iff_right rfl
  rw [miss_lost hb link many]
  cases lapsed with
  | false =>
    rw [takeFallback_early hlost (by rw [now, due]; exact Bool.false_ne_true)]
    exact ⟨lost, lost, hlost, kept, withdrawn, fun _ => rfl, nofun⟩
  | true =>
    obtain ⟨b', hb', fell⟩ := takeFallback_due hlost (by rw [now, due])
    rw [now, run] at fell
    exact ⟨lost, b', hb', kept, withdrawn, nofun, fun _ => fell⟩

/-- R158: the next visit after a change of the units, the host link and the arbiter. -/
theorem nextVisit_after {s m : State} {host : HostLink} {arbiter : Arbiter}
    (changed : m = { s with units := m.units, host := host, arbiter := arbiter }) :
    m.nextVisit.host = host ∧ m.nextVisit.arbiter = arbiter ∧ m.nextVisit = { s with
      host := m.nextVisit.host, arbiter := m.nextVisit.arbiter, units := m.nextVisit.units, roof := m.nextVisit.roof } := by
  have begun := nextVisit_frame m
  generalize m.nextVisit = t at begun ⊢
  rw [changed] at begun
  have host' : t.host = host := by rw [begun]
  have arbiter' : t.arbiter = arbiter := by rw [begun]
  have units : t.units = m.units := by rw [begun]
  rw [host', arbiter', units]
  exact ⟨rfl, rfl, begun⟩

theorem miss_lost_other {u v : Nat} {b : BoundUnit} {s : State} (hb : s.unit u = some b) (link : b.live.link = .missing)
    (many : 3 ≤ b.misses) (other : v ≠ u) : (s.miss u).unit v = s.unit v := by
  rw [miss_lost hb link many, takeFallback_other other, lose_other other]

/-- Settles O53: what is no good reply, the miss in each link state, and the fallback that stops the stages that are on. -/
theorem missesLoseAUnitAndFallBack : Obligations.MissesLoseAUnitAndFallBack := by
  unfold Obligations.MissesLoseAUnitAndFallBack
  refine ⟨fun address received before after split first => ⟨fun short => ?_, ?_⟩, fun address received silent => ?_,
    fun received v b s hb => ⟨fun visit live judged => ?_, fun link fresh due => ?_, fun early => ?_⟩⟩
  · refine judgeReply_short ?_ address
    rw [split, fromStart_found first, List.length_cons]
    omega
  · rintro a k c1 c0 contents rest rfl nine wrong
    exact judgeReply_mismatch (split ▸ fromStart_found first _) nine wrong
  · refine judgeReply_short ?_ address
    rw [← List.append_nil received, fromStart_append silent]
    decide
  · refine ⟨_, exec_visitEnd_miss visit live judged, nextVisit_rule (miss_roof ..),
      fun link => onlyUnit_nextVisit (miss_counted hb link), fun link => onlyUnit_nextVisit (miss_online hb link),
      fun link few => onlyUnit_nextVisit (miss_missing hb link few), fun link many lapsed lapse => ?_⟩
    obtain ⟨lost, b', hb', kept, withdrawn, early, late⟩ := miss_lost_unit hb link many lapse
    obtain ⟨host, arbiter, frame⟩ := nextVisit_after (miss_lost_frame hb link many)
    exact ⟨host, arbiter, frame, fun u other => (nextVisit_unit ..).trans (miss_lost_other hb link many other), lost, b',
      (nextVisit_unit ..).trans hb', kept, withdrawn, early, late⟩
  · obtain ⟨b', hb', fell⟩ := takeFallback_due hb (fallbackDue_iff.mpr ⟨link, fresh, due⟩)
    refine ⟨_, b', rfl, ⟨takeFallback_frame .., fun u => ?_⟩, fell⟩
    split
    · subst u
      exact hb'
    · exact takeFallback_other ‹_› s
  · refine congrArg Host.Outcome.next (takeFallback_early hb fun due => ?_)
    obtain ⟨link, fresh, good, last, old⟩ := fallbackDue_iff.mp due
    rcases early with present | taken | young
    · exact present link
    · exact Bool.false_ne_true (fresh.symm.trans taken)
    · exact Nat.not_lt.mpr old (young good last)

end Sys2Proof.Machine
end

section
/-! PROOF. What the notice queue, the line and the stored tables see of the stage controller, the zones, the demand meter and the
roof bus (R140, R93, R110, R168, R173 to R175): notices, and nothing more. -/

namespace Sys2Proof.Machine

/-! ### The law of the notice queue (R173 to R175) -/

/-- The law reads the notices, NOTE and the dropped flag alone. -/
theorem NoticeLaw.congr {s t : State} (law : NoticeLaw s) (notices : t.host.notices = s.host.notices)
    (note : t.host.note = s.host.note) (dropped : t.host.dropped = s.host.dropped) : NoticeLaw t :=
  ⟨notices ▸ law.held, by rw [note, notices]; exact law.line, by rw [dropped, notices]; exact law.dropped⟩

/-- R173, R174: a raised notice keeps the law. -/
theorem NoticeLaw.raise {s : State} (law : NoticeLaw s) (kind : NoticeKind) (unit : Option Nat) (stage : Option StageName)
    (zone : Option Nat) (value : Option Int) : NoticeLaw (s.raise kind unit stage zone value) := by
  obtain ⟨held, line, dropped⟩ := noticeLaw_append
    { kind, uptime := s.uptime, time := s.timeOfDay, unit, stage, zone, value } ⟨law.held, law.line, law.dropped⟩
  exact ⟨held, line, dropped⟩

/-- R175: the host link after a NOTE.TAKE: an emptied queue clears the dropped flag and negates NOTE. -/
theorem takeNotices_eq (h : HostLink) :
    h.takeNotices = { h with
      notices := h.notices.drop 8
      dropped := h.dropped && decide (8 < h.notices.length)
      note := h.note && decide (8 < h.notices.length) } := by
  unfold HostLink.takeNotices Config.takeSize
  by_cases left : 8 < h.notices.length
  · rw [if_neg (by simpa using left)]
    simp [left]
  · have rest : h.notices.drop 8 = [] := List.drop_eq_nil_of_le (Nat.not_lt.mp left)
    simp [rest, left]

theorem NoticeLaw.takeNotices {s : State} (law : NoticeLaw s) : NoticeLaw (s.setHost s.host.takeNotices) := by
  rw [takeNotices_eq]
  have line : ∀ l : List Notice, (!(l.drop 8).isEmpty) = (!l.isEmpty && decide (8 < l.length)) := fun l => by
    by_cases left : 8 < l.length
    · have rest : l.drop 8 ≠ [] := fun none => absurd (List.drop_eq_nil_iff.mp none) (Nat.not_le.mpr left)
      have held : l ≠ [] := fun none => rest (by rw [none]; rfl)
      rw [List.isEmpty_eq_false_iff.mpr rest, List.isEmpty_eq_false_iff.mpr held, decide_eq_true left]
      rfl
    · simp [left, List.drop_eq_nil_of_le (Nat.not_lt.mp left)]
  refine ⟨?_, ?_, fun dropped => ?_⟩
  · simp only [setHost_host, List.length_drop]
    exact (Nat.sub_le ..).trans law.held
  · simp only [setHost_host, line, law.line]
  · simp only [setHost_host, Bool.and_eq_true, decide_eq_true_eq] at dropped ⊢
    exact fun none => absurd (List.drop_eq_nil_iff.mp none) (Nat.not_le.mpr dropped.2)

/-! ### Changes that reach the notices alone -/

/-- R168: the commands that wait, the receiver and the holding buffer are as they were. -/
structure SameLine (s t : State) : Prop where
  pending : t.pending = s.pending
  receiver : t.host.receiver = s.host.receiver
  holding : t.host.holding = s.host.holding

theorem SameLine.refl (s : State) : SameLine s s := ⟨rfl, rfl, rfl⟩

theorem SameLine.trans {s m t : State} (h : SameLine s m) (k : SameLine m t) : SameLine s t :=
  ⟨k.pending.trans h.pending, k.receiver.trans h.receiver, k.holding.trans h.holding⟩

/-- A change that leaves the line and the stored descriptors, profiles and grid as they are, and keeps the law of the notice
queue. -/
structure Orderly (s t : State) : Prop where
  line : SameLine s t
  descriptors : t.table.descriptors = s.table.descriptors
  profiles : t.profiles = s.profiles
  grid : t.schedule.grid = s.schedule.grid
  notices : NoticeLaw s → NoticeLaw t

theorem Orderly.refl (s : State) : Orderly s s := ⟨.refl s, rfl, rfl, rfl, id⟩

theorem Orderly.trans {s m t : State} (h : Orderly s m) (k : Orderly m t) : Orderly s t :=
  ⟨h.line.trans k.line, k.descriptors.trans h.descriptors, k.profiles.trans h.profiles, k.grid.trans h.grid,
    k.notices ∘ h.notices⟩

/-- The operations that reach no host link, no stored table and no queue of commands, as their frames say. -/
theorem orderly_of_frame {s t : State} {units : Table BoundUnit} {arbiter : Arbiter} {meter : Meter} {zones : Table Zone}
    {roof : Roof} (frame : t = { s with units := units, arbiter := arbiter, meter := meter, zones := zones, roof := roof }) :
    Orderly s t := by
  subst frame
  exact ⟨⟨rfl, rfl, rfl⟩, rfl, rfl, rfl, fun law => law.congr rfl rfl rfl⟩

theorem orderly_putUnit (u : Nat) (b : BoundUnit) (s : State) : Orderly s (s.putUnit u b) := orderly_of_frame rfl

theorem orderly_onUnit (u : Nat) (f : BoundUnit → BoundUnit) (s : State) : Orderly s (s.onUnit u f) :=
  orderly_of_frame (onUnit_frame u f s)

theorem orderly_putZone (z : Nat) (r : Zone) (s : State) : Orderly s (s.putZone z r) := orderly_of_frame rfl

theorem orderly_setMeter (m : Meter) (s : State) : Orderly s (s.setMeter m) := orderly_of_frame rfl

theorem orderly_setRoof (r : Roof) (s : State) : Orderly s (s.setRoof r) := orderly_of_frame rfl

theorem orderly_useFree (n : Nat) (s : State) : Orderly s (s.useFree n) :=
  ⟨⟨rfl, rfl, rfl⟩, rfl, rfl, rfl, fun law => law.congr rfl rfl rfl⟩

theorem orderly_setStore (t : Store) (s : State) : Orderly s (s.setStore t) :=
  ⟨⟨rfl, rfl, rfl⟩, rfl, rfl, rfl, fun law => law.congr rfl rfl rfl⟩

theorem orderly_setSchedule {c : Schedule} {s : State} (grid : c.grid = s.schedule.grid) : Orderly s (s.setSchedule c) :=
  ⟨⟨rfl, rfl, rfl⟩, rfl, rfl, grid, fun law => law.congr rfl rfl rfl⟩

theorem orderly_setHost {h : HostLink} {s : State} (line : SameLine s (s.setHost h))
    (notices : NoticeLaw s → NoticeLaw (s.setHost h)) : Orderly s (s.setHost h) := ⟨line, rfl, rfl, rfl, notices⟩

theorem orderly_raise (kind : NoticeKind) (unit : Option Nat) (stage : Option StageName) (zone : Option Nat)
    (value : Option Int) (s : State) : Orderly s (s.raise kind unit stage zone value) :=
  ⟨⟨rfl, raise_host_receiver .., raise_host_holding ..⟩, rfl, rfl, rfl, fun law => law.raise ..⟩

theorem orderly_foldl {α : Type} {f : State → α → State} (each : ∀ s a, Orderly s (f s a)) (l : List α) (s : State) :
    Orderly s (l.foldl f s) := by
  induction l generalizing s with
  | nil => exact .refl s
  | cons a l ih => exact (each s a).trans (ih _)

/-! ### The stage controller (R7, R8, R11, R14) -/

theorem orderly_takeStop (u : Nat) (st : StageName) (cause : StopCause) (s : State) :
    Orderly s (s.takeStop u st cause) := by
  unfold State.takeStop
  split
  · exact .refl s
  split
  · exact .refl s
  dsimp only
  split
  · exact (orderly_putUnit ..).trans (orderly_raise ..)
  · exact orderly_putUnit ..

theorem orderly_stopAll (u : Nat) (cause : StopCause) (stages : List StageName) (s : State) :
    Orderly s (s.stopAll u cause stages) := orderly_foldl (fun s st => orderly_takeStop u st cause s) stages s

theorem orderly_stopEverything (cause : StopCause) (s : State) : Orderly s (s.stopEverything cause) :=
  (orderly_of_frame (withdrawAll_frame ..)).trans
    (orderly_foldl (fun s (p : Nat × BoundUnit) => orderly_stopAll p.1 cause p.2.onStages s) _ _)

theorem orderly_minOnExpiry {u : Nat} {st : StageName} {s t : State} (run : exec (.minOnExpiry u st) s = .next t) :
    Orderly s t := by
  cases run
  split
  · exact .refl s
  split
  · exact .refl s
  split
  · dsimp only
    split <;> exact orderly_putUnit ..
  · exact .refl s

theorem orderly_provingExpiry {u : Nat} {st : StageName} {s t : State} (run : exec (.provingExpiry u st) s = .next t) :
    Orderly s t := by
  cases run
  split
  · exact .refl s
  split
  · exact .refl s
  split
  · dsimp only
    split
    · split
      · exact (orderly_putUnit ..).trans (orderly_takeStop ..)
      · exact orderly_putUnit ..
    · exact orderly_putUnit ..
  · exact .refl s

/-! ### Zones (R71, R73, R89) -/

theorem orderly_temperatureStep (z : Nat) (s : State) : Orderly s (s.temperatureStep z) := by
  unfold State.temperatureStep
  split
  · exact .refl s
  split
  · exact orderly_putZone ..
  split
  · exact (orderly_putZone ..).trans (orderly_raise ..)
  · exact .refl s

theorem orderly_evaluate (z : Nat) (s : State) : Orderly s (s.evaluate z) := by
  have read : Orderly s (((s.refreshCell z).temperatureStep z).onZone z Zone.withSetpoints) :=
    ((orderly_of_frame (refreshCell_frame z s)).trans (orderly_temperatureStep z _)).trans
      (orderly_of_frame (onZone_frame ..))
  unfold State.evaluate
  dsimp only
  split
  · exact (((read.trans (orderly_of_frame (modeStep_frame z _))).trans (orderly_of_frame (levelStep_frame z _))).trans
      (orderly_of_frame (matchStep_frame z _))).trans (orderly_of_frame (channelStep_frame z _))
  · exact read

theorem orderly_zoneEvaluation {zone : Nat} {s t : State} (run : exec (.zoneEvaluation zone) s = .next t) :
    Orderly s t := by
  cases run
  split
  · exact .refl s
  split
  · exact (orderly_putZone ..).trans (orderly_evaluate ..)
  · exact .refl s

theorem orderly_overrideEnd {zone : Nat} {s t : State} (run : exec (.overrideEnd zone) s = .next t) : Orderly s t := by
  cases run
  split
  · exact .refl s
  split
  · exact .refl s
  split
  · exact (orderly_putZone ..).trans (orderly_raise ..)
  · exact .refl s

/-! ### The clock and the demand meter (R49, R57, R62, R95) -/

theorem orderly_deliver (s : State) : Orderly s s.deliver := orderly_of_frame (deliver_frame s)

theorem orderly_clockTick {s t : State} (run : exec .clockTick s = .next t) : Orderly s t := by
  cases run
  split
  · exact .refl s
  dsimp only
  split
  · exact (orderly_setSchedule (by rfl)).trans (orderly_deliver _)
  · exact orderly_setSchedule rfl

theorem orderly_closeInterval (ceiling : Nat) (atClockSet : Bool) (s : State) :
    Orderly s (s.closeInterval ceiling atClockSet) := by
  unfold State.closeInterval
  dsimp only
  refine .trans ?_ (orderly_of_frame (openInterval_frame ..))
  split
  · exact (orderly_setMeter ..).trans (orderly_raise ..)
  · exact orderly_setMeter ..

theorem orderly_meterClockSet (ceiling : Nat) (s : State) : Orderly s (s.meterClockSet ceiling) := by
  unfold State.meterClockSet
  split
  · exact orderly_of_frame (openInterval_frame ..)
  · exact orderly_closeInterval ..

theorem orderly_recordOverrun (load : Nat) (s : State) : Orderly s (s.recordOverrun load) := by
  unfold State.recordOverrun
  dsimp only
  split
  · exact orderly_setMeter ..
  · exact (orderly_setMeter ..).trans (orderly_raise ..)

theorem orderly_accumulationEvent {s t : State} (run : exec .accumulationEvent s = .next t) : Orderly s t := by
  have added : Orderly s s.metered := orderly_setMeter ..
  rw [execAccumulationEvent_eq] at run
  cases run
  refine added.trans ?_
  split
  · exact orderly_closeInterval ..
  split
  · split
    · exact orderly_of_frame (shed_frame ..)
    · exact (orderly_recordOverrun ..).trans (orderly_of_frame (attempt_frame ..))
  · exact orderly_of_frame (attempt_frame ..)

theorem orderly_staggerExpiry {s t : State} (run : exec .staggerExpiry s = .next t) : Orderly s t := by
  have stopped : Orderly s s.staggerStopped := orderly_of_frame rfl
  rw [execStaggerExpiry_eq] at run
  cases run
  split
  · exact stopped.trans (orderly_of_frame (attempt_frame ..))
  · exact .refl s

theorem orderly_siteStale {s t : State} (run : exec .siteStale s = .next t) : Orderly s t := by
  cases run
  split
  · exact (orderly_setMeter ..).trans (orderly_raise ..)
  · exact .refl s

/-! ### The roof bus (R158 to R165) -/

theorem orderly_takeFallback (u : Nat) (s : State) : Orderly s (s.takeFallback u) :=
  orderly_of_frame (takeFallback_frame u s)

theorem orderly_takeEvent (u : Nat) (e : ReplyEvent) (s : State) : Orderly s (s.takeEvent u e) := by
  cases e with
  | proof st =>
    simp only [State.takeEvent, State.takeProof]
    split
    · exact .refl s
    split
    · exact orderly_putUnit ..
    split
    · exact orderly_takeStop ..
    · exact .refl s
  | trip st => exact orderly_takeStop ..
  | flame st => exact orderly_takeStop ..
  | fan st => exact orderly_takeStop ..
  | soft heat => exact orderly_of_frame (softLimitAction_frame u heat s)

theorem orderly_rebuildUnexpected (u : Nat) (s : State) : Orderly s (s.rebuildUnexpected u) := by
  unfold State.rebuildUnexpected
  split
  · exact .refl s
  · exact ((orderly_putUnit ..).trans (orderly_foldl (fun s st => orderly_raise ..) _ _)).trans (orderly_useFree ..)

theorem orderly_hear (u : Nat) (r : BoardReply) (b : BoundUnit) (s : State) : Orderly s (s.hear u r b) := by
  unfold State.hear
  split
  · exact (orderly_raise ..).trans (orderly_putUnit ..)
  · exact orderly_putUnit ..

theorem orderly_goodReply (u : Nat) (r : BoardReply) (s : State) : Orderly s (s.goodReply u r) := by
  cases hb : s.unit u with
  | none =>
    simp only [State.goodReply, hb]
    exact .refl s
  | some b =>
    rw [goodReply_eq hb]
    exact ((((orderly_hear u r b s).trans (orderly_foldl (fun s e => orderly_takeEvent u e s) _ _)).trans
      (orderly_useFree ..)).trans (orderly_onUnit ..)).trans (orderly_rebuildUnexpected u _)

theorem orderly_declareLost (u : Nat) (b : BoundUnit) (s : State) : Orderly s (s.declareLost u b) :=
  (((orderly_putUnit u { b.setLink .lost with lostOn := b.onSet } s).trans (orderly_raise ..)).trans
    (orderly_of_frame (withdrawAll_frame ..))).trans (orderly_takeFallback ..)

theorem orderly_miss (u : Nat) (s : State) : Orderly s (s.miss u) := by
  unfold State.miss
  split
  · exact .refl s
  dsimp only
  split
  · exact orderly_putUnit ..
  · exact orderly_putUnit ..
  · exact orderly_putUnit ..
  split
  · exact orderly_putUnit ..
  · exact orderly_declareLost ..

theorem orderly_nextVisit (s : State) : Orderly s s.nextVisit := orderly_of_frame (nextVisit_frame s)

theorem orderly_visitEnd {received : List Byte} {s t : State} (run : exec (.visitEnd received) s = .next t) :
    Orderly s t := by
  cases run
  split
  · exact .refl s
  · dsimp only
    refine .trans ?_ (orderly_nextVisit _)
    split
    · split
      · exact orderly_goodReply ..
      · exact orderly_miss ..
    · exact .refl s

theorem orderly_pollCycleStart {ms : Nat} {s t : State} (run : exec (.pollCycleStart ms) s = .next t) : Orderly s t := by
  cases run
  split
  · exact (orderly_setRoof ..).trans (orderly_nextVisit _)
  · exact .refl s

end Sys2Proof.Machine
end

section
/-! PROOF. O56: the operations that write stored tables, notices or the image, and what every command keeps of both laws. -/

namespace Sys2Proof.Machine

/-! ### Smoke, restart and the store (R136, R138, R171, R176 to R180) -/

theorem orderly_closeWindow (s : State) : Orderly s s.closeWindow := orderly_setSchedule rfl

theorem orderly_enterShutdown (s : State) : Orderly s s.enterShutdown := by
  unfold State.enterShutdown
  extract_lets _ noted stopped acted zoned
  have halts : Orderly s (s.setHost { s.host with run := .shutdown }) :=
    orderly_setHost ⟨rfl, rfl, rfl⟩ fun law => law.congr rfl rfl rfl
  have acts : Orderly stopped acted := orderly_of_frame rfl
  have zones : Orderly acted zoned := orderly_of_frame rfl
  exact ((((halts.trans (orderly_raise ..)).trans (orderly_stopEverything .shutdown noted)).trans acts).trans zones).trans
    (orderly_closeWindow _)

theorem orderly_smokeAsserted {s t : State} (run : exec .smokeAsserted s = .next t) : Orderly s t := by
  have level : Orderly s (s.setHost { s.host with smoke := true }) :=
    orderly_setHost ⟨rfl, rfl, rfl⟩ fun law => law.congr rfl rfl rfl
  cases run
  split
  · exact level.trans (orderly_enterShutdown _)
  · exact level

theorem orderly_restart (s : State) : Orderly s s.restart := by
  unfold State.restart
  extract_lets stopped armed zoned
  have arms : Orderly stopped armed := orderly_of_frame rfl
  have zones : Orderly armed zoned := orderly_of_frame rfl
  exact (((orderly_stopEverything .restart s).trans arms).trans zones).trans (orderly_closeWindow _)

theorem orderly_servePartRelease (s : State) : Orderly s (servePartRelease s).1 := by
  unfold servePartRelease
  split
  · exact .refl s
  unfold accept
  dsimp only
  split
  · unfold State.release
    extract_lets _ noted armed
    have resumes : Orderly s (s.setHost { s.host with run := .normal }) :=
      orderly_setHost ⟨rfl, rfl, rfl⟩ fun law => law.congr rfl rfl rfl
    have arms : Orderly noted armed := orderly_of_frame rfl
    exact ((resumes.trans (orderly_raise ..)).trans arms).trans (orderly_of_frame (by rfl))
  · exact .refl s

theorem orderly_saveCompletion {equal : Bool} {s t : State} (run : exec (.saveCompletion equal) s = .next t) :
    Orderly s t := by
  cases run
  split
  · unfold State.completeSave
    dsimp only
    split <;> exact (orderly_setStore ..).trans (orderly_raise ..)
  · exact .refl s

theorem orderly_freeUnit (u : Nat) (s : State) : Orderly s (s.freeUnit u) := orderly_of_frame (freeUnit_frame u s)

/-- R180: one stored binding re-made, or dropped with its notice. -/
theorem orderly_remake (s : State) (p : Nat × SavedBinding) : Orderly s (s.remake p) := by
  unfold State.remake
  split
  · rename_i d _ _
    refine (orderly_of_frame (bindUnit_frame p.1 p.2.zone d p.2.counter s)).trans ?_
    unfold State.smokeAtBinding
    split
    · exact orderly_onUnit ..
    · exact .refl _
  · exact orderly_raise ..
  · exact .refl s

/-! ### Requests that write no stored table (R169, R170) -/

/-- R149: a refresh reaches the units alone. -/
theorem serveUnitRefresh_frame (unit : Byte) (s : State) :
    (serveUnitRefresh unit s).1 = { s with units := (serveUnitRefresh unit s).1.units } := by
  unfold serveUnitRefresh
  dsimp only
  split
  · rfl
  split
  · split
    · rfl
    split
    · rfl
    split
    · rfl
    unfold accept
    dsimp only
    split
    · rw [takeFallback_frame]
      rfl
    · rfl
  · rfl

theorem orderly_serveUnitBind (unit zone : Byte) (s : State) : Orderly s (serveUnitBind unit zone s).1 := by
  unfold serveUnitBind
  split
  · exact .refl s
  · exact .refl s
  split
  · exact .refl s
  · exact orderly_of_frame (bindUnit_frame ..)

theorem orderly_serveUnitFree (unit : Byte) (s : State) : Orderly s (serveUnitFree unit s).1 := by
  unfold serveUnitFree
  split
  · exact .refl s
  split
  · exact .refl s
  split
  · exact .refl s
  · exact orderly_freeUnit ..

theorem orderly_serveStageUnlock (unit stage : Byte) (s : State) : Orderly s (serveStageUnlock unit stage s).1 := by
  unfold serveStageUnlock
  split
  · split
    · exact .refl s
    split
    · exact .refl s
    split
    · exact orderly_putUnit ..
    · exact .refl s
  · exact .refl s

theorem orderly_serveZonePut (zone flag : Byte) (fields : ZoneFields) (s : State) :
    Orderly s (serveZonePut zone flag fields s).1 := by
  have defined (z : Nat) (c : ZoneConfig) : Orderly s (s.defineZone z c) := by
    unfold State.defineZone
    split <;> exact orderly_putZone ..
  unfold serveZonePut
  dsimp only
  split
  · exact .refl s
  split
  · split
    · exact .refl s
    · exact defined ..
  split
  · split
    · exact orderly_of_frame rfl
    · exact .refl s
  · exact .refl s

theorem orderly_serveZoneOverride (zone : Byte) (duration cool heat : Half) (modeForce occForce : Option Byte)
    (s : State) : Orderly s (serveZoneOverride zone duration cool heat modeForce occForce s).1 := by
  unfold serveZoneOverride
  dsimp only
  split
  · exact .refl s
  split
  · exact .refl s
  split
  · exact .refl s
  split <;> exact orderly_putZone ..

theorem orderly_applyLimits (l : Limits) (s : State) : Orderly s (s.applyLimits l) := by
  unfold State.applyLimits
  dsimp only
  split
  · exact (orderly_setMeter ..).trans (orderly_raise ..)
  · exact orderly_setMeter ..

theorem orderly_serveClockSet (day : Byte) (minute : Half) (second mark weekday : Byte) (s : State) :
    Orderly s (serveClockSet day minute second mark weekday s).1 := by
  unfold serveClockSet
  split
  · exact .refl s
  · exact (((orderly_setSchedule (by rfl)).trans (orderly_deliver _)).trans (orderly_meterClockSet ..)).trans
      (orderly_useFree ..)

/-- The requests whose owners write stored descriptors, profiles or the grid. -/
def requestWritesStored : Request → Bool
  | .unitPut .. | .schedFill .. | .profilePut .. | .storeClear => true
  | _ => false

theorem orderly_serve {r : Request} (leaves : requestWritesStored r = false) (s : State) : Orderly s (serve r s).1 := by
  cases r with
  | unitPut | schedFill | profilePut | storeClear => cases leaves
  | partStatus | clockGet | unitGet | unitReadings | stageGet | queueGet | zoneGet | schedGet | profileGet | demandGet
  | demandHistory =>
    rw [serve_read rfl]
    exact .refl s
  | partRestart =>
    simp only [serve, servePartRestart]
    split
    · exact .refl s
    · exact orderly_restart s
  | partProtect level hold =>
    simp only [serve, servePartProtect]
    split
    · exact .refl s
    split
    · exact .refl s
    split
    · exact .refl s
    · exact ⟨⟨rfl, rfl, rfl⟩, rfl, rfl, rfl, fun law => law.congr rfl rfl rfl⟩
  | partRelease => exact orderly_servePartRelease s
  | noteTake => exact orderly_setHost (by rw [takeNotices_eq]; exact ⟨rfl, rfl, rfl⟩) NoticeLaw.takeNotices
  | clockSet day minute second mark weekday => exact orderly_serveClockSet day minute second mark weekday s
  | unitBind unit zone => exact orderly_serveUnitBind unit zone s
  | unitFree unit => exact orderly_serveUnitFree unit s
  | unitRefresh unit => exact orderly_of_frame (serveUnitRefresh_frame unit s)
  | stageUnlock unit stage => exact orderly_serveStageUnlock unit stage s
  | zonePut zone flag fields => exact orderly_serveZonePut zone flag fields s
  | zoneOverride zone duration cool heat modeForce occForce =>
    exact orderly_serveZoneOverride zone duration cool heat modeForce occForce s
  | schedWindow day zLo zHi sLo sHi order direction mask compare occupancy =>
    simp only [serve, serveSchedWindow]
    split
    · exact .refl s
    split
    · exact .refl s
    · exact orderly_setSchedule rfl
  | schedEnd =>
    simp only [serve, serveSchedEnd]
    split
    · exact .refl s
    · exact orderly_closeWindow s
  | demandLimits ceiling recovery cap length fallback stale spacing =>
    simp only [serve, serveDemandLimits]
    split
    · exact .refl s
    · exact orderly_applyLimits _ s
  | demandSite load => exact orderly_setMeter ..
  | storeSave =>
    simp only [serve, serveStoreSave]
    split
    · exact .refl s
    · exact orderly_setStore ..

/-! ### The two laws together -/

/-- R176: what `TableLaw` says of the image. -/
structure Contents.TablesInForm (c : Contents) : Prop where
  zones : Table.wf c.zones = true
  descriptors : Table.wf c.descriptors = true
  profiles : Table.wf c.profiles = true
  grid : gridWf c.grid = true

theorem TableLaw.image {s : State} (law : TableLaw s) : s.store.image.contents.TablesInForm :=
  ⟨law.savedZones, law.savedDescriptors, law.savedProfiles, law.savedGrid⟩

/-- A change that keeps the form of the tables, and one that keeps the law of the notice queue. -/
structure KeepsForm (s t : State) : Prop where
  tables : TableLaw s → TableLaw t
  notices : NoticeLaw s → NoticeLaw t

theorem KeepsForm.refl (s : State) : KeepsForm s s := ⟨id, id⟩

theorem KeepsForm.trans {s m t : State} (h : KeepsForm s m) (k : KeepsForm m t) : KeepsForm s t :=
  ⟨k.tables ∘ h.tables, k.notices ∘ h.notices⟩

/-- What is left to say of an orderly change: the units, the zones and the image. -/
theorem Orderly.keepsForm {s t : State} (h : Orderly s t) (units : Table.wf s.units = true → Table.wf t.units = true)
    (zones : Table.wf s.zones = true → Table.wf t.zones = true)
    (image : t.store.image.contents = s.store.image.contents) : KeepsForm s t where
  notices := h.notices
  tables law :=
    ⟨units law.units, zones law.zones, h.descriptors ▸ law.descriptors, h.profiles ▸ law.profiles, h.grid ▸ law.grid,
      image ▸ law.savedZones, image ▸ law.savedDescriptors, image ▸ law.savedProfiles, image ▸ law.savedGrid⟩

/-- Most changes bind no unit, free none and list none. -/
theorem Orderly.keepsForm_of_same {s t : State} (h : Orderly s t) (same : SameBindings s t) : KeepsForm s t :=
  h.keepsForm same.unitForm same.zoneForm same.image

/-- A change of the host link that leaves the notices, NOTE and the dropped flag. -/
theorem keepsForm_setHost {h : HostLink} {s : State} (notices : h.notices = s.host.notices) (note : h.note = s.host.note)
    (dropped : h.dropped = s.host.dropped) : KeepsForm s (s.setHost h) :=
  ⟨fun ⟨units, zones, descriptors, profiles, grid, savedZones, savedDescriptors, savedProfiles, savedGrid⟩ =>
    ⟨units, zones, descriptors, profiles, grid, savedZones, savedDescriptors, savedProfiles, savedGrid⟩,
    fun law => law.congr notices note dropped⟩

/-! ### Requests (R140 to R149, R102, R111, R177, R179) -/

theorem keepsForm_serveUnitBind (unit zone : Byte) (s : State) : KeepsForm s (serveUnitBind unit zone s).1 := by
  refine (orderly_serveUnitBind unit zone s).keepsForm (restful_serveUnitBind unit zone s).form (fun form => ?_)
    (sameMetering_serveUnitBind unit zone s).image
  unfold serveUnitBind
  split
  · exact form
  · exact form
  split
  · exact form
  · exact wf_onZone _ _ (s := s.putUnit ..) form

theorem wf_freeUnit_zones (u : Nat) {s : State} (form : Table.wf s.zones = true) :
    Table.wf (s.freeUnit u).zones = true := by
  unfold State.freeUnit
  split
  · exact form
  · exact wf_onZone _ _ (s := (s.setUnits _).setRoof _) form

theorem keepsForm_serveUnitFree (unit : Byte) (s : State) : KeepsForm s (serveUnitFree unit s).1 := by
  refine (orderly_serveUnitFree unit s).keepsForm (restful_serveUnitFree unit s).form (fun form => ?_)
    (sameMetering_serveUnitFree unit s).image
  unfold serveUnitFree
  split
  · exact form
  split
  · exact form
  split
  · exact form
  · exact wf_freeUnit_zones _ form

theorem keepsForm_serveUnitRefresh (unit : Byte) (s : State) : KeepsForm s (serveUnitRefresh unit s).1 := by
  have frame := serveUnitRefresh_frame unit s
  exact (orderly_of_frame frame).keepsForm (restful_serveUnitRefresh unit s).form
    (fun form => by rw [frame]; exact form) (by rw [frame])

/-- R141, R142: a descriptor written or removed has the index of a unit. -/
theorem keepsForm_serveUnitPut (unit : Byte) (pairs : List (Byte × Half)) (s : State) :
    KeepsForm s (serveUnitPut unit pairs s).1 := by
  unfold serveUnitPut
  dsimp only
  split
  · exact .refl s
  rename_i number
  split
  · exact .refl s
  split
  · exact .refl s
  split
  · exact .refl s
  have positive := (unitNumber_iff.mp (Bool.of_not_eq_false number)).1
  refine ⟨fun law => ⟨law.units, law.zones, ?_, law.profiles, law.grid, law.savedZones, law.savedDescriptors,
    law.savedProfiles, law.savedGrid⟩, fun law => law.congr rfl rfl rfl⟩
  unfold accept UnitTable.putPairs
  dsimp only [setTable_table]
  split
  · exact wf_erase _ law.descriptors
  · exact wf_put positive _ law.descriptors

/-- R111: a profile written or removed has the number of a profile. -/
theorem keepsForm_serveProfilePut (profile : Byte) (segments : List (Half × Half)) (s : State) :
    KeepsForm s (serveProfilePut profile segments s).1 := by
  have written {t : Table (List Segment)} (form : Table.wf s.profiles = true → Table.wf t = true) :
      KeepsForm s (s.setProfiles t) :=
    ⟨fun law => ⟨law.units, law.zones, law.descriptors, form law.profiles, law.grid, law.savedZones, law.savedDescriptors,
      law.savedProfiles, law.savedGrid⟩, fun law => law.congr rfl rfl rfl⟩
  unfold serveProfilePut
  dsimp only
  split
  · exact .refl s
  rename_i number
  split
  · exact .refl s
  split
  · split
    · exact .refl s
    · exact written (wf_erase _)
  split
  · exact .refl s
  · exact written (wf_put (profileNumber_iff.mp (Bool.of_not_eq_false number)).1 _)

theorem gridWf_takeAll (values : List FillValue) {p : FillProgress} (form : gridWf p.grid = true) :
    gridWf (values.foldl FillProgress.take p).grid = true := by
  induction values generalizing p with
  | nil => exact form
  | cons v rest ih =>
    refine ih ?_
    rw [take_eq]
    dsimp only
    split
    · exact gridWf_gridWrite (cellIndex_pos ..) _ form
    · exact form

theorem orderly_deliverWritten (cells : List Nat) (s : State) : Orderly s (s.deliverWritten cells) := by
  unfold State.deliverWritten
  split
  · exact .refl s
  · exact orderly_of_frame rfl

/-- R102, R103: a fill writes cells of the grid, each at its index. -/
theorem keepsForm_serveSchedFill (mask : Byte) (values : List FillValue) (s : State) :
    KeepsForm s (serveSchedFill mask values s).1 := by
  have same := sameBindings_serveSchedFill mask values s
  refine ⟨fun law => ?_, ?_⟩
  · have stored : (serveSchedFill mask values s).1.table = s.table ∧
        (serveSchedFill mask values s).1.profiles = s.profiles ∧
        gridWf (serveSchedFill mask values s).1.schedule.grid = true := by
      unfold serveSchedFill
      split
      · exact ⟨rfl, rfl, law.grid⟩
      split
      · exact ⟨rfl, rfl, law.grid⟩
      split
      · exact ⟨rfl, rfl, law.grid⟩
      unfold accept State.deliverWritten
      dsimp only
      split <;> exact ⟨rfl, rfl, gridWf_takeAll values law.grid⟩
    obtain ⟨table, profiles, grid⟩ := stored
    exact ⟨same.unitForm law.units, same.zoneForm law.zones, table ▸ law.descriptors, profiles ▸ law.profiles, grid,
      same.image ▸ law.savedZones, same.image ▸ law.savedDescriptors, same.image ▸ law.savedProfiles,
      same.image ▸ law.savedGrid⟩
  · unfold serveSchedFill
    split
    · exact id
    split
    · exact id
    split
    · exact id
    · exact fun law => (orderly_deliverWritten _ (s.setSchedule _)).notices (law.congr rfl rfl rfl)

/-- R176: the image takes the tables as they stand. -/
theorem contents_tablesInForm {s : State} (law : TableLaw s) : s.contents.TablesInForm :=
  ⟨above_map (fun p : Nat × Zone => p.2.config) law.zones, law.descriptors, law.profiles, law.grid⟩

theorem keepsForm_serveStoreSave (s : State) : KeepsForm s (serveStoreSave s).1 := by
  refine ⟨fun law => ?_, (orderly_serve (r := .storeSave) rfl s).notices⟩
  unfold serveStoreSave
  split
  · exact law
  · obtain ⟨zones, descriptors, profiles, grid⟩ := contents_tablesInForm law
    exact ⟨law.units, law.zones, law.descriptors, law.profiles, law.grid, zones, descriptors, profiles, grid⟩

/-- R179: before a clear empties the tables it frees every unit. -/
theorem orderly_freeAll (s : State) : Orderly s (s.units.foldl (fun s p => s.freeUnit p.1) s) :=
  orderly_foldl (fun s (p : Nat × BoundUnit) => orderly_freeUnit p.1 s) s.units s

theorem keepsForm_clear (s : State) : KeepsForm s s.clear := by
  refine ⟨fun _ => ?_, fun law => ((orderly_freeAll s).notices law).congr rfl rfl rfl⟩
  have units : s.clear.units = [] := (clear_units s).trans (freeAll_units s)
  exact ⟨by rw [units]; rfl, rfl, rfl, rfl, rfl, rfl, rfl, rfl, rfl⟩

theorem keepsForm_serve (r : Request) (s : State) : KeepsForm s (serve r s).1 := by
  cases r with
  | unitBind unit zone => exact keepsForm_serveUnitBind unit zone s
  | unitFree unit => exact keepsForm_serveUnitFree unit s
  | unitRefresh unit => exact keepsForm_serveUnitRefresh unit s
  | unitPut unit pairs => exact keepsForm_serveUnitPut unit pairs s
  | profilePut profile segments => exact keepsForm_serveProfilePut profile segments s
  | schedFill mask values => exact keepsForm_serveSchedFill mask values s
  | storeSave => exact keepsForm_serveStoreSave s
  | storeClear =>
    simp only [serve, serveStoreClear]
    split
    · exact .refl s
    split
    · exact .refl s
    · exact keepsForm_clear s
  | partRestart =>
    simp only [serve, servePartRestart]
    split
    · exact .refl s
    · exact (orderly_restart s).keepsForm_of_same (sameBindings_restart s)
  | partRelease => exact (orderly_servePartRelease s).keepsForm_of_same (sameBindings_servePartRelease s)
  | stageUnlock unit stage =>
    exact (orderly_serveStageUnlock unit stage s).keepsForm_of_same (sameBindings_serveStageUnlock unit stage s)
  | zonePut zone flag fields =>
    exact (orderly_serveZonePut zone flag fields s).keepsForm_of_same (sameBindings_serveZonePut zone flag fields s)
  | zoneOverride zone duration cool heat modeForce occForce =>
    exact (orderly_serveZoneOverride zone duration cool heat modeForce occForce s).keepsForm_of_same
      (sameBindings_serveZoneOverride zone duration cool heat modeForce occForce s)
  | clockSet day minute second mark weekday =>
    exact (orderly_serveClockSet day minute second mark weekday s).keepsForm_of_same
      (sameBindings_serveClockSet day minute second mark weekday s)
  | partProtect | noteTake | schedWindow | schedEnd | demandLimits | demandSite =>
    exact (orderly_serve rfl s).keepsForm_of_same (sameBindings_serve rfl s)
  | partStatus | clockGet | unitGet | unitReadings | stageGet | queueGet | zoneGet | schedGet | profileGet | demandGet
  | demandHistory =>
    rw [serve_read rfl]
    exact .refl s

theorem keepsForm_takeRequest (tag : Byte) (r : Request) (s : State) : KeepsForm s (s.takeRequest tag r) := by
  refine .trans ?_ (keepsForm_setHost (s := (s.answerTo r).1) rfl rfl rfl)
  unfold State.answerTo
  split
  · exact .refl s
  · exact keepsForm_serve r s

theorem keepsForm_takeFrame (f : Frame) (s : State) : KeepsForm s (s.takeFrame f) := by
  unfold State.takeFrame
  split
  · exact keepsForm_setHost rfl rfl rfl
  · exact keepsForm_setHost rfl rfl rfl
  · exact keepsForm_takeRequest ..

theorem keepsForm_holdFrame (f : Frame) (s : State) : KeepsForm s (s.holdFrame f) := by
  rw [holdFrame_frame]
  exact keepsForm_setHost rfl rfl rfl

theorem keepsForm_offerFrame (f : Frame) (s : State) : KeepsForm s (s.offerFrame f) := by
  unfold State.offerFrame
  split
  · exact keepsForm_takeFrame f s
  · exact keepsForm_holdFrame f s

theorem keepsForm_offerRequest (tag : Byte) (r : Request) (s : State) : KeepsForm s (s.offerRequest tag r) := by
  unfold State.offerRequest
  split
  · exact keepsForm_takeRequest tag r s
  · exact keepsForm_holdFrame _ s

/-! ### The line (R167, R168) -/

theorem keepsForm_hostByteReceived {byte : Byte} {s t : State} (run : exec (.hostByteReceived byte) s = .next t) :
    KeepsForm s t := by
  have received (r : Receiver) : KeepsForm s (s.setReceiver r) := keepsForm_setHost rfl rfl rfl
  cases run
  split
  · split
    · exact received _
    · exact .refl s
  unfold State.collect
  split
  · exact received _
  dsimp only
  split
  · exact received _
  split
  · exact received _
  · exact (received _).trans (keepsForm_offerFrame ..)

theorem keepsForm_replySent {s t : State} (run : exec .replySent s = .next t) : KeepsForm s t := by
  cases run
  split
  · exact .refl s
  split
  · exact keepsForm_setHost rfl rfl rfl
  · exact (keepsForm_setHost (by rfl) (by rfl) (by rfl)).trans (keepsForm_takeFrame ..)

/-! ### Power-on (R180) -/

/-- R180: the tables that an image in form gives are in form. -/
theorem load_tablesInForm {i : Image} (image : i.contents.TablesInForm) : i.load.TablesInForm := by
  unfold Image.load
  split
  · exact image
  · exact ⟨rfl, rfl, rfl, rfl⟩

/-- R180, R139: the load takes its tables from the image, and holds one notice at most. -/
theorem keepsForm_loaded (smoke service protect : Bool) (s : State) : KeepsForm s (s.loaded smoke service protect) := by
  have tables {m : State} (image : s.store.image.contents.TablesInForm) (units : m.units = [])
      (zones : m.zones = s.store.image.load.zones.map fun p => (p.1, Zone.make p.2 0#32 p.2.fallbackCell []))
      (stored : m.table.descriptors = s.store.image.load.descriptors ∧ m.profiles = s.store.image.load.profiles ∧
        m.schedule.grid = s.store.image.load.grid) (kept : m.store.image = s.store.image) : TableLaw m := by
    obtain ⟨zoneForm, descriptorForm, profileForm, gridForm⟩ := load_tablesInForm image
    obtain ⟨descriptors, profiles, grid⟩ := stored
    refine ⟨by rw [units]; rfl, ?_, descriptors ▸ descriptorForm, profiles ▸ profileForm, grid ▸ gridForm,
      kept ▸ image.zones, kept ▸ image.descriptors, kept ▸ image.profiles, kept ▸ image.grid⟩
    rw [zones]
    exact above_map (fun p => Zone.make p.2 0#32 p.2.fallbackCell []) zoneForm
  have silent {m : State} (notices : m.host.notices = []) (note : m.host.note = false)
      (dropped : m.host.dropped = false) : NoticeLaw m :=
    noticeLaw_reset.congr notices note dropped
  unfold State.loaded
  dsimp only
  split
  · exact ⟨fun law => tables law.image rfl rfl ⟨rfl, rfl, rfl⟩ rfl, fun _ => (silent rfl rfl rfl).raise ..⟩
  · exact ⟨fun law => tables law.image rfl rfl ⟨rfl, rfl, rfl⟩ rfl, fun _ => silent rfl rfl rfl⟩

theorem keepsForm_remake (s : State) (p : Nat × SavedBinding) : KeepsForm s (s.remake p) := by
  refine (orderly_remake s p).keepsForm (restful_remake s p).form (fun form => ?_) (sameMetering_remake s p).image
  unfold State.remake
  split
  · have bound (d : Descriptor) : Table.wf (s.bindUnit p.1 p.2.zone d p.2.counter).zones = true :=
      wf_onZone _ _ (s := s.putUnit ..) form
    unfold State.smokeAtBinding
    split
    · rw [onUnit_zones]
      exact bound _
    · exact bound _
  · exact form
  · exact form

theorem keepsForm_foldl {α : Type} {f : State → α → State} (each : ∀ s a, KeepsForm s (f s a)) (l : List α) (s : State) :
    KeepsForm s (l.foldl f s) := by
  induction l generalizing s with
  | nil => exact .refl s
  | cons a l ih => exact (each s a).trans (ih _)

theorem keepsForm_powerOn {smoke service protect : Bool} {s t : State}
    (run : exec (.powerOn smoke service protect) s = .next t) : KeepsForm s t := by
  cases run
  exact ((keepsForm_loaded smoke service protect s).trans (keepsForm_foldl keepsForm_remake _ _)).trans
    ((orderly_setRoof ..).keepsForm_of_same (sameBindings_setRoof ..))

/-! ### Every command and every second -/

theorem keepsForm_exec {c : Instr} {s t : State} (run : exec c s = .next t) : KeepsForm s t := by
  cases c with
  | powerOn => exact keepsForm_powerOn run
  | smokeAsserted => exact (orderly_smokeAsserted run).keepsForm_of_same (sameBindings_smokeAsserted run)
  | smokeNegated | serviceLineChange | protectLineChange | receiveGapTimeout =>
    cases run
    exact keepsForm_setHost rfl rfl rfl
  | hostByteReceived => exact keepsForm_hostByteReceived run
  | replySent => exact keepsForm_replySent run
  | saveCompletion => exact (orderly_saveCompletion run).keepsForm_of_same (sameBindings_saveCompletion run)
  | minOnExpiry => exact (orderly_minOnExpiry run).keepsForm_of_same (sameBindings_minOnExpiry run)
  | minOffExpiry | tripCountClear =>
    cases run
    exact (orderly_onUnit ..).keepsForm_of_same (sameBindings_onStage ..)
  | provingExpiry => exact (orderly_provingExpiry run).keepsForm_of_same (sameBindings_provingExpiry run)
  | staggerExpiry => exact (orderly_staggerExpiry run).keepsForm_of_same (sameBindings_staggerExpiry run)
  | accumulationEvent => exact (orderly_accumulationEvent run).keepsForm_of_same (sameBindings_accumulationEvent run)
  | siteStale => exact (orderly_siteStale run).keepsForm_of_same (sameBindings_siteStale run)
  | zoneEvaluation => exact (orderly_zoneEvaluation run).keepsForm_of_same (sameBindings_zoneEvaluation run)
  | changeoverExpiry =>
    have same := sameBindings_changeoverExpiry run
    cases run
    exact (orderly_of_frame (onZone_frame ..)).keepsForm_of_same same
  | overrideEnd => exact (orderly_overrideEnd run).keepsForm_of_same (sameBindings_overrideEnd run)
  | clockTick => exact (orderly_clockTick run).keepsForm_of_same (sameBindings_clockTick run)
  | rampStep =>
    have same := sameBindings_rampStep run
    cases run
    exact (orderly_of_frame rfl).keepsForm_of_same same
  | purgeExpiry =>
    have same := sameBindings_purgeExpiry run
    cases run
    exact (orderly_onUnit ..).keepsForm_of_same same
  | holdOffExpiry =>
    have same := sameBindings_holdOffExpiry run
    cases run
    exact (orderly_onUnit ..).keepsForm_of_same same
  | pollCycleStart => exact (orderly_pollCycleStart run).keepsForm_of_same (sameBindings_pollCycleStart run)
  | visitEnd => exact (orderly_visitEnd run).keepsForm_of_same (sameBindings_visitEnd run)
  | fallbackExpiry =>
    cases run
    exact (orderly_takeFallback ..).keepsForm_of_same (sameBindings_takeFallback ..)
  | _ =>
    cases run
    exact keepsForm_offerRequest ..

theorem keepsForm_secondPasses (s : State) : KeepsForm s (secondPasses s) :=
  ⟨fun law =>
    have same := sameBindings_secondPasses s
    ⟨same.unitForm law.units, same.zoneForm law.zones, law.descriptors, law.profiles, law.grid, law.savedZones,
      law.savedDescriptors, law.savedProfiles, law.savedGrid⟩,
    fun law => law.congr rfl rfl rfl⟩

/-- Settles O56: a table is written at the index of a unit, a zone, a profile or a cell, and a notice is raised or taken by the
operations of the host link alone. -/
theorem everyStepKeepsTablesAndNoticesInForm : Obligations.EveryStepKeepsTablesAndNoticesInForm := by
  unfold Obligations.EveryStepKeepsTablesAndNoticesInForm
  intro s t
  have kept (run : step s = .next t) : KeepsForm s t := by
    obtain ⟨_, rfl⟩ | ⟨c, rest, _, run⟩ := step_cases run
    · exact keepsForm_secondPasses s
    · have popped : KeepsForm s { s with pending := rest } :=
        ⟨fun ⟨units, zones, descriptors, profiles, grid, savedZones, savedDescriptors, savedProfiles, savedGrid⟩ =>
          ⟨units, zones, descriptors, profiles, grid, savedZones, savedDescriptors, savedProfiles, savedGrid⟩,
          fun law => law.congr rfl rfl rfl⟩
      exact popped.trans (keepsForm_exec run)
  exact ⟨fun law run => (kept run).tables law, fun law run => (kept run).notices law⟩

end Sys2Proof.Machine
end

section
/-! PROOF. O1, O14, O25 and O28: the step, PART.STATUS, NOTE.TAKE and PART.RESTART. -/

namespace Sys2Proof.Machine

/-! ### The step and PART.STATUS (R172) -/

/-- Settles O1: the step's own equation on a queue that is not empty. -/
theorem stepRunsTheFrontCommand : Obligations.StepRunsTheFrontCommand := by
  unfold Obligations.StepRunsTheFrontCommand
  exact fun _ _ _ => rfl

/-- Settles O14: the owner's reply is the rule's list, field by field. -/
theorem partStatusReportsThePart : Obligations.PartStatusReportsThePart := by
  unfold Obligations.PartStatusReportsThePart
  exact fun tag s idle => exec_request_served (r := .partStatus) idle
    (commonCheck_eq_none rfl rfl rfl rfl (fun _ => rfl) s) (a := (servePartStatus s).2) rfl tag

/-! ### NOTE.TAKE (R175) -/

/-- 12.2: the bytes of a notice record in a reply, every option written out. -/
def noticeBytes (n : Notice) : List Byte :=
  enc8 n.kind.toCode ++ wordBytes n.uptime ++
    (match n.time with
      | none => [0#8]
      | some t => 1#8 :: (enc8 t.day ++ enc16 t.minute ++ enc8 t.second)) ++
    enc8 (n.unit.getD 0) ++ (match n.stage with
      | none => [0#8]
      | some st => enc8 (stageCode st)) ++ enc8 (n.zone.getD 0) ++
    (match n.value with
      | none => [0#8]
      | some v => 1#8 :: wordBytes (BitVec.ofInt 32 v))

theorem encNotice_eq : encNotice = noticeBytes := by
  funext n
  unfold encNotice noticeBytes
  cases n.time <;> cases n.stage <;> cases n.value <;> rfl

/-- R175: the owner takes the oldest records, up to 8, and lists them after the flag and the number that remains. -/
theorem serveNoteTake_eq (s : State) :
    serveNoteTake s = accept
      { s with
        host := { s.host with
          notices := s.host.notices.drop 8
          dropped := s.host.dropped && decide (8 < s.host.notices.length)
          note := s.host.note && decide (8 < s.host.notices.length) } }
      (encFlag s.host.dropped ++ enc8 (s.host.notices.length - 8) ++ enc8 (min s.host.notices.length 8) ++
        (s.host.notices.take 8).flatMap noticeBytes) := by
  rw [serveNoteTake, ← encNotice_eq, takeNotices_eq, encList, Config.takeSize, List.length_take, Nat.min_comm, List.append_assoc,
    List.append_assoc, List.append_assoc]
  rfl

/-- Settles O25: the owner's list of records is the rule's, record by record. -/
theorem noteTakeRemovesTheOldestNotices : Obligations.NoteTakeRemovesTheOldestNotices := by
  unfold Obligations.NoteTakeRemovesTheOldestNotices
  exact fun tag s idle => exec_request_served (r := .noteTake) idle
    (commonCheck_eq_none rfl rfl rfl rfl (fun _ => rfl) s) (serveNoteTake_eq s) tag

/-! ### PART.RESTART (R171) -/

/-- R171: the number of stages that are on, counted unit by unit. -/
theorem onCount_eq (s : State) :
    s.onCount = (s.units.map fun p => [StageName.c1, .c2, .c3, .c4, .h1, .h2].countP p.2.isOn).sum := by
  simp only [State.onCount, BoundUnit.onStages, List.countP_eq_length_filter]
  rfl

section
variable {s : State}

/-- R23: stopping everything leaves no stage engaged and no entry in the queue. -/
theorem restartStopped_queue (law : QueueLaw s) : (s.stopEverything .restart).arbiter.queue = [] :=
  ((keeping_stopEverything .restart s).agrees law.agrees).queue_eq_nil (stopEverything_idle rfl law.agrees)

/-- R171: the restart, block by block: what it reaches, and what it leaves. -/
theorem restart_eq (law : QueueLaw s) :
    s.restart =
      { s with
        units := (s.stopEverything .restart).units
        zones := Table.update (fun _ r => r.restart) s.zones
        arbiter := { s.arbiter with queue := [], stagger := .running s.meter.limits.spacing, attempt := none }
        schedule := { s.schedule with window := none } } := by
  have steps : s.restart =
      { s.stopEverything .restart with
        zones := Table.update (fun _ r => r.restart) (s.stopEverything .restart).zones
        arbiter := { (s.stopEverything .restart).arbiter with
          stagger := .running (s.stopEverything .restart).meter.limits.spacing, attempt := none }
        schedule := { (s.stopEverything .restart).schedule with window := none } } := rfl
  have frame : SameBesidesQueue s (s.stopEverything .restart) := (halted_stopEverything rfl rfl s).frame
  conv_lhs => rw [steps, frame, restartStopped_queue law]

/-- R91: every zone restarts. -/
theorem restart_zone (law : QueueLaw s) (z : Nat) : s.restart.zone z = (s.zone z).map Zone.restart := by
  rw [restart_eq law]
  exact find_update ..

theorem restart_unit (law : QueueLaw s) (u : Nat) : s.restart.unit u = (s.stopEverything .restart).unit u := by
  rw [restart_eq law]
  rfl

/-- R171: the restart binds no unit and frees none. -/
theorem restart_isSome (law : QueueLaw s) (u : Nat) : (s.restart.unit u).isSome = (s.unit u).isSome := by
  rw [restart_unit law]
  exact optionRel_isSome ((halted_stopEverything rfl rfl s).units u)

/-- R12, R23, R119, R122: a bound unit after the restart, with its stages withdrawn or stopped, and its purge timer and gas
following them. -/
theorem restart_bound (law : QueueLaw s) {u : Nat} {b : BoundUnit} (hb : s.unit u = some b) :
    ∃ c, s.restart.unit u = some c ∧ HaltedUnit s.host.run s.uptime .restart b c ∧ c.anyEngaged = false := by
  have moved := (halted_stopEverything (cause := .restart) rfl rfl s).units u
  rw [hb] at moved
  obtain ⟨c, hc, halted⟩ := optionRel_some moved
  exact ⟨c, (restart_unit law u).trans hc, halted,
    (anyEngaged_eq_false_iff hc).mpr (stopEverything_idle rfl law.agrees u)⟩

theorem commonCheck_partRestart (normal : s.host.run = .normal) : s.commonCheck .partRestart = none := by
  simp [State.commonCheck, normal, requestMalformed, requestServiceOnly, requestTableChanging, requestLocked]

theorem servePartRestart_saving (saving : s.store.saving = true) : servePartRestart s = refuse s .busy := if_pos saving

theorem servePartRestart_idle (saving : s.store.saving = false) :
    servePartRestart s = accept s.restart (enc8 s.onCount ++ enc8 s.arbiter.queue.length) :=
  if_neg (Bool.eq_false_iff.mp saving)

end

/-- Settles O28: BUSY during a save, and otherwise the restart block by block. -/
theorem partRestartReturnsTheWorkingState : Obligations.PartRestartReturnsTheWorkingState := by
  unfold Obligations.PartRestartReturnsTheWorkingState
  intro tag s idle normal
  have served {t : State} {a : Answer} (served : servePartRestart s = (t, a)) :
      exec (.partRestart tag) s = .next (t.answering 0x02#8 tag a.result a.payload) :=
    exec_request_served (r := .partRestart) idle (commonCheck_partRestart normal) served tag
  refine ⟨fun saving => served (servePartRestart_saving saving), fun saving law =>
    ⟨_, served (servePartRestart_idle saving), ?_, restart_zone law, restart_isSome law, fun u b hb => ?_⟩⟩
  · rw [onCount_eq]
    conv_lhs => rw [restart_eq law]
    rw [restart_eq law]
    rfl
  · obtain ⟨c, hc, halted, rest⟩ := restart_bound law hb
    exact ⟨c, hc, rest, normal ▸ halted.follows, halted.stages rfl rest⟩

end Sys2Proof.Machine
end

section
/-! PROOF. O11: the payloads of the requests, read back and written again. -/

namespace Sys2Proof.Machine

/-! ### Numbers of two and four bytes (12) -/

@[simp] theorem halfBytes_half (a b : Byte) : halfBytes (half a b) = [a, b] :=
  congrArg₂ (fun high low => [high, low]) BitVec.extractLsb'_append_eq_left BitVec.extractLsb'_append_eq_right

@[simp] theorem word_extract (w : Word) :
    word (w.extractLsb' 24 8) (w.extractLsb' 16 8) (w.extractLsb' 8 8) (w.extractLsb' 0 8) = w := by
  have high : w.extractLsb' 24 8 ++ w.extractLsb' 16 8 = w.extractLsb' 16 16 :=
    BitVec.extractLsb'_append_extractLsb'_eq_extractLsb' rfl
  have three : w.extractLsb' 16 16 ++ w.extractLsb' 8 8 = w.extractLsb' 8 24 :=
    BitVec.extractLsb'_append_extractLsb'_eq_extractLsb' rfl
  have all : w.extractLsb' 8 24 ++ w.extractLsb' 0 8 = w.extractLsb' 0 32 :=
    BitVec.extractLsb'_append_extractLsb'_eq_extractLsb' rfl
  unfold word
  rw [high, three, all]
  exact BitVec.extractLsb'_eq_self

/-- 12: above its last byte, a number put together from a number and a byte has the bytes of that number. -/
theorem extract_append_byte {w : Nat} (x : BitVec w) (b : Byte) (k : Nat) :
    (x ++ b).extractLsb' (8 + k) 8 = x.extractLsb' k 8 :=
  (BitVec.extractLsb'_append_eq_of_le (Nat.le_add_right 8 k)).trans (by rw [Nat.add_sub_cancel_left])

@[simp] theorem wordBytes_word (a b c d : Byte) : wordBytes (word a b c d) = [a, b, c, d] := by
  have first : (word a b c d).extractLsb' 24 8 = a :=
    (extract_append_byte (a ++ b ++ c) d 16).trans <| (extract_append_byte (a ++ b) c 8).trans <|
      (extract_append_byte a b 0).trans BitVec.extractLsb'_eq_self
  have second : (word a b c d).extractLsb' 16 8 = b :=
    (extract_append_byte (a ++ b ++ c) d 8).trans <| (extract_append_byte (a ++ b) c 0).trans
      BitVec.extractLsb'_append_eq_right
  have third : (word a b c d).extractLsb' 8 8 = c :=
    (extract_append_byte (a ++ b ++ c) d 0).trans BitVec.extractLsb'_append_eq_right
  have fourth : (word a b c d).extractLsb' 0 8 = d := BitVec.extractLsb'_append_eq_right
  rw [wordBytes, first, second, third, fourth]

theorem halfBytes_eq_iff {h : Half} {a b : Byte} : halfBytes h = [a, b] ↔ h = half a b := by
  refine ⟨fun same => ?_, fun same => same ▸ halfBytes_half a b⟩
  obtain ⟨rfl, rfl⟩ : h.extractLsb' 8 8 = a ∧ h.extractLsb' 0 8 = b := by simpa [halfBytes] using same
  exact (half_extract h).symm

/-- 12.2: a count of at most 255 items is read back from its byte. -/
theorem toNat_countByte {n : Nat} (small : n ≤ 255) : (BitVec.ofNat 8 n).toNat = n := by simp; omega

/-! ### The pairs of UNIT.PUT and the segments of PROFILE.PUT -/

theorem pairsOf_eq_some {bs : List Byte} {ps : List (Byte × Half)} :
    pairsOf bs = some ps ↔ bs = ps.flatMap fun p => p.1 :: halfBytes p.2 := by
  constructor
  · intro read
    induction bs using pairsOf.induct generalizing ps with
    | case1 => cases read; rfl
    | case2 i a b rest ih =>
      obtain ⟨qs, hqs, rfl⟩ := Option.map_eq_some_iff.mp read
      simp [← ih hqs]
    | case3 bs noBytes noPair => simp [pairsOf] at read
  · rintro rfl
    induction ps with
    | nil => rfl
    | cons p ps ih =>
      rw [List.flatMap_cons]
      simp only [halfBytes, List.cons_append, List.nil_append, pairsOf] at ih ⊢
      rw [ih, half_extract]
      rfl

theorem segmentsOf_eq_some {bs : List Byte} {gs : List (Half × Half)} :
    segmentsOf bs = some gs ↔ bs = gs.flatMap fun g => halfBytes g.1 ++ halfBytes g.2 := by
  constructor
  · intro read
    induction bs using segmentsOf.induct generalizing gs with
    | case1 => cases read; rfl
    | case2 a b c d rest ih =>
      obtain ⟨qs, hqs, rfl⟩ := Option.map_eq_some_iff.mp read
      simp [← ih hqs]
    | case3 bs noBytes noSegment => simp [segmentsOf] at read
  · rintro rfl
    induction gs with
    | nil => rfl
    | cons g gs ih =>
      rw [List.flatMap_cons]
      simp only [halfBytes, List.cons_append, List.nil_append, segmentsOf] at ih ⊢
      rw [ih, half_extract, half_extract]
      rfl

/-! ### The fill values of SCHED.FILL (R102) -/

theorem fillOccupancy_eq_some {mask a : Byte} {bs rest : List Byte} :
    fillOccupancy mask bs = some (a, rest) ↔
      (mask.getLsbD 0 || a == 0#8) = true ∧ bs = (if mask.getLsbD 0 then [a] else []) ++ rest := by
  cases present : mask.getLsbD 0
  · simp only [fillOccupancy, present, Bool.false_eq_true, if_false, Option.some.injEq, Prod.mk.injEq, Bool.false_or,
      beq_iff_eq, List.nil_append]
    exact and_congr eq_comm Iff.rfl
  · simp only [fillOccupancy, present, if_true, Bool.true_or, true_and]
    cases bs <;> simp

theorem fillSetpoint_eq_some {present : Bool} {h : Half} {bs rest : List Byte} :
    fillSetpoint present bs = some (h, rest) ↔
      (present || h == 0#16) = true ∧ bs = (if present then halfBytes h else []) ++ rest := by
  cases present with
  | false =>
    simp only [fillSetpoint, Bool.false_eq_true, if_false, Option.some.injEq, Prod.mk.injEq, Bool.false_or, beq_iff_eq,
      List.nil_append]
    exact and_congr eq_comm Iff.rfl
  | true =>
    match bs with
    | [] => simp [fillSetpoint, halfBytes]
    | [a] => simp [fillSetpoint, halfBytes]
    | a :: b :: after =>
      have read : half a b = h ↔ a = h.extractLsb' 8 8 ∧ b = h.extractLsb' 0 8 :=
        eq_comm.trans (halfBytes_eq_iff.symm.trans (by simp [halfBytes, eq_comm]))
      simp [fillSetpoint, halfBytes, read, and_assoc]

theorem fillValueOf_eq_some {mask : Byte} {v : FillValue} {bs rest : List Byte} :
    fillValueOf mask bs = some (v, rest) ↔ v.fits mask = true ∧ bs = fillValueBytes mask v ++ rest := by
  obtain ⟨a, c, h⟩ := v
  simp only [fillValueOf, Option.bind_eq_bind, Option.bind_eq_some_iff, Prod.exists, fillOccupancy_eq_some,
    fillSetpoint_eq_some, FillValue.fits, fillValueBytes, Bool.and_eq_true, Option.pure_def, Option.some.injEq,
    Prod.mk.injEq, FillValue.mk.injEq, List.append_assoc]
  constructor
  · rintro ⟨a', _, ⟨fa, rfl⟩, c', _, ⟨fc, rfl⟩, h', _, ⟨fh, rfl⟩, ⟨rfl, rfl, rfl⟩, rfl⟩
    exact ⟨⟨⟨fa, fc⟩, fh⟩, rfl⟩
  · rintro ⟨⟨⟨fa, fc⟩, fh⟩, rfl⟩
    exact ⟨a, _, ⟨fa, rfl⟩, c, _, ⟨fc, rfl⟩, h, _, ⟨fh, rfl⟩, ⟨rfl, rfl, rfl⟩, rfl⟩

theorem fillValuesOf_eq_some {mask : Byte} {n : Nat} {vs : List FillValue} {bs : List Byte} :
    fillValuesOf mask n bs = some vs ↔
      vs.length = n ∧ vs.all (FillValue.fits mask) = true ∧ bs = vs.flatMap (fillValueBytes mask) := by
  induction n generalizing vs bs with
  | zero => cases bs <;> cases vs <;> simp [fillValuesOf]
  | succ n ih =>
    simp only [fillValuesOf, Option.bind_eq_bind, Option.bind_eq_some_iff, Prod.exists, fillValueOf_eq_some, ih,
      Option.pure_def, Option.some.injEq]
    constructor
    · rintro ⟨v, _, ⟨fits, rfl⟩, vs, ⟨rfl, all, rfl⟩, rfl⟩
      exact ⟨rfl, by simpa [fits] using all, rfl⟩
    · rintro ⟨length, all, rfl⟩
      match vs with
      | v :: vs =>
        simp only [List.all_cons, Bool.and_eq_true] at all
        exact ⟨v, _, ⟨all.1, rfl⟩, vs, ⟨Nat.succ.inj length, all.2, rfl⟩, rfl⟩

/-- R102: every fill value under a mask takes the same number of bytes. -/
theorem length_flatMap_fillValueBytes (mask : Byte) (vs : List FillValue) :
    (vs.flatMap (fillValueBytes mask)).length = fillValueSize mask * vs.length := by
  have one (v : FillValue) : (fillValueBytes mask v).length = fillValueSize mask := by
    simp only [fillValueBytes, fillValueSize, List.length_append, apply_ite List.length]
    rfl
  induction vs with
  | nil => rfl
  | cons v vs ih => rw [List.flatMap_cons, List.length_append, one, ih, List.length_cons, Nat.mul_succ, Nat.add_comm]

/-! ### The forces of ZONE.OVERRIDE and the fields of ZONE.PUT -/

theorem optionalByte_eq_some {o : Option Byte} {bs rest : List Byte} :
    optionalByte bs = some (o, rest) ↔ bs = optionalByteBytes o ++ rest := by
  constructor
  · intro read
    unfold optionalByte at read
    split at read
    next p after =>
      split_ifs at read with absent present
      · cases read
        rw [absent]
        rfl
      · cases after with
        | nil => cases read
        | cons b after =>
          cases read
          rw [present]
          rfl
    next => cases read
  · rintro rfl
    cases o <;> rfl

theorem forcesOf_eq_some {bs : List Byte} {m o : Option Byte} :
    forcesOf bs = some (m, o) ↔ bs = optionalByteBytes m ++ optionalByteBytes o := by
  simp only [forcesOf, Option.bind_eq_bind, Option.bind_eq_some_iff, Prod.exists, optionalByte_eq_some]
  constructor
  · rintro ⟨m', _, rfl, o', rest, rfl, read⟩
    cases rest with
    | nil => cases read; simp
    | cons b rest => cases read
  · rintro rfl
    exact ⟨m, _, rfl, o, [], (List.append_nil _).symm, rfl⟩

theorem zoneFieldsOf_eq_some {bs : List Byte} {f : ZoneFields} : zoneFieldsOf bs = some f ↔ bs = zoneFieldBytes f := by
  constructor
  · intro read
    unfold zoneFieldsOf at read
    split at read
    next => cases read; simp [zoneFieldBytes]
    next => cases read
  · rintro rfl
    simp [zoneFieldBytes, halfBytes, zoneFieldsOf, half_extract]

/-! ### Reading a payload back

Of the rows of `parseRequest`, those with a part of its own reader. -/

theorem parseRequest_unitPut (unit count : Byte) (rest : List Byte) :
    parseRequest 0x10#8 (unit :: count :: rest) =
      .ofOption ((pairsOf rest).bind fun ps => if ps.length = count.toNat then some (.unitPut unit ps) else none) :=
  rfl

theorem parseRequest_zonePut (zone flag : Byte) (rest : List Byte) :
    parseRequest 0x20#8 (zone :: flag :: rest) = .ofOption ((zoneFieldsOf rest).map (.zonePut zone flag)) :=
  rfl

theorem parseRequest_zoneOverride (zone d d' c c' h h' : Byte) (rest : List Byte) :
    parseRequest 0x22#8 (zone :: d :: d' :: c :: c' :: h :: h' :: rest) =
      .ofOption ((forcesOf rest).map fun f => .zoneOverride zone (half d d') (half c c') (half h h') f.1 f.2) :=
  rfl

theorem parseRequest_schedFill (count mask : Byte) (rest : List Byte) :
    parseRequest 0x29#8 (count :: mask :: rest) =
      .ofOption ((fillValuesOf mask count.toNat rest).map (.schedFill mask)) :=
  rfl

theorem parseRequest_profilePut (profile count : Byte) (rest : List Byte) :
    parseRequest 0x30#8 (profile :: count :: rest) =
      .ofOption ((segmentsOf rest).bind fun gs => if gs.length = count.toNat then some (.profilePut profile gs) else none) :=
  rfl

/-- Settles O11: request by request, each field by its reading lemma. -/
theorem requestPayloadsReadBack : Obligations.RequestPayloadsReadBack := by
  unfold Obligations.RequestPayloadsReadBack
  intro r fits
  cases r
  case unitPut unit pairs =>
    have few : pairs.length ≤ 255 := by simp [Request.wellFormed] at fits; omega
    rw [Request.code, Request.payload, parseRequest_unitPut, pairsOf_eq_some.mpr rfl, Option.bind_some,
      if_pos (toNat_countByte few).symm, Parsed.ofOption]
  case schedFill mask values =>
    obtain ⟨⟨few, -⟩, all⟩ : (values.length ≤ 255 ∧ _) ∧ values.all (FillValue.fits mask) = true := by
      simpa [Request.wellFormed] using fits
    rw [Request.code, Request.payload, parseRequest_schedFill,
      fillValuesOf_eq_some.mpr ⟨(toNat_countByte few).symm, all, rfl⟩, Option.map_some, Parsed.ofOption]
  case profilePut profile segments =>
    have few : segments.length ≤ 255 := by simp [Request.wellFormed] at fits; omega
    rw [Request.code, Request.payload, parseRequest_profilePut, segmentsOf_eq_some.mpr rfl, Option.bind_some,
      if_pos (toNat_countByte few).symm, Parsed.ofOption]
  case zonePut zone flag fields =>
    rw [Request.code, Request.payload, parseRequest_zonePut, zoneFieldsOf_eq_some.mpr rfl, Option.map_some, Parsed.ofOption]
  case zoneOverride zone duration cool heat m o =>
    refine (parseRequest_zoneOverride ..).trans ?_
    have read : forcesOf (optionalByteBytes m ++ optionalByteBytes o) = some (m, o) := forcesOf_eq_some.mpr rfl
    rw [half_extract, half_extract, half_extract]
    exact congrArg (fun f => Parsed.ofOption (f.map fun f => .zoneOverride zone duration cool heat f.1 f.2)) read
  case clockSet day minute second mark weekday =>
    exact congrArg (fun m => Parsed.request (.clockSet day m _ _ _)) (half_extract minute)
  case demandLimits ceiling recovery cap length fallback stale spacing =>
    simp only [Request.code, Request.payload, halfBytes, List.cons_append, List.nil_append]
    exact (show parseRequest _ _ = Parsed.request (.demandLimits ..) from rfl).trans (by simp only [half_extract])
  case demandSite load => exact congrArg (fun w => Parsed.request (.demandSite w)) (word_extract load)
  all_goals rfl

/-- R170: what the outcome of the first two common checks says of a code and a payload that a frame can carry. -/
def ParsedSays (code : Byte) (payload : List Byte) : Parsed → Prop
  | .unknown => code ∉ Rule.requestCodes
  | .malformed => code ∈ Rule.requestCodes
  | .request r => r.code = code ∧ r.payload = payload ∧ (payload.length ≤ 240 → r.wellFormed = true)

/-- R170: a reader that finds a request or fails says MALFORMED where it fails. -/
theorem says_ofOption {code : Byte} {payload : List Byte} {o : Option Request} (known : code ∈ Rule.requestCodes)
    (found : ∀ r, o = some r → ParsedSays code payload (.request r)) : ParsedSays code payload (.ofOption o) := by
  cases o with
  | none => exact known
  | some r => exact found r rfl

/-! The rows of `parseRequest` by the number of bytes their payload has. -/

section
variable {code : Byte} (payload : List Byte)

theorem says_noByte (row : code ∈ [0x01#8, 0x02#8, 0x04#8, 0x05#8, 0x07#8, 0x2A#8, 0x3A#8, 0x40#8, 0x41#8]) :
    ParsedSays code payload (parseRequest code payload) := by
  have known : code ∈ Rule.requestCodes := by revert code; decide
  fin_cases row
  all_goals exact match payload with
    | [] => ⟨rfl, rfl, fun _ => rfl⟩
    | _ :: _ => known

theorem says_oneByte (row : code ∈ [0x13#8, 0x14#8, 0x15#8, 0x18#8, 0x1A#8, 0x21#8, 0x31#8]) :
    ParsedSays code payload (parseRequest code payload) := by
  have known : code ∈ Rule.requestCodes := by revert code; decide
  fin_cases row
  all_goals exact match payload with
    | [_] => ⟨rfl, rfl, fun _ => rfl⟩
    | [] | _ :: _ :: _ => known

theorem says_twoBytes (row : code ∈ [0x03#8, 0x11#8, 0x12#8, 0x19#8, 0x3B#8]) :
    ParsedSays code payload (parseRequest code payload) := by
  have known : code ∈ Rule.requestCodes := by revert code; decide
  fin_cases row
  all_goals exact match payload with
    | [_, _] => ⟨rfl, rfl, fun _ => rfl⟩
    | [] | [_] | _ :: _ :: _ :: _ => known

theorem says_schedGet : ParsedSays 0x2B#8 payload (parseRequest 0x2B#8 payload) :=
  have known : 0x2B#8 ∈ Rule.requestCodes := by decide
  match payload with
  | [_, _, _, _] => ⟨rfl, rfl, fun _ => rfl⟩
  | [] | [_] | [_, _] | [_, _, _] | _ :: _ :: _ :: _ :: _ :: _ => known

theorem says_demandSite : ParsedSays 0x39#8 payload (parseRequest 0x39#8 payload) :=
  have known : 0x39#8 ∈ Rule.requestCodes := by decide
  match payload with
  | [a, b, c, d] => ⟨rfl, wordBytes_word a b c d, fun _ => rfl⟩
  | [] | [_] | [_, _] | [_, _, _] | _ :: _ :: _ :: _ :: _ :: _ => known

theorem says_clockSet : ParsedSays 0x06#8 payload (parseRequest 0x06#8 payload) :=
  have known : 0x06#8 ∈ Rule.requestCodes := by decide
  match payload with
  | [day, m, m', second, mark, weekday] =>
    ⟨rfl, congrArg (fun bytes => day :: (bytes ++ [second, mark, weekday])) (halfBytes_half m m'), fun _ => rfl⟩
  | [] | [_] | [_, _] | [_, _, _] | [_, _, _, _] | [_, _, _, _, _] | _ :: _ :: _ :: _ :: _ :: _ :: _ :: _ => known

theorem says_schedWindow : ParsedSays 0x28#8 payload (parseRequest 0x28#8 payload) :=
  have known : 0x28#8 ∈ Rule.requestCodes := by decide
  match payload with
  | [_, _, _, _, _, _, _, _, _, _] => ⟨rfl, rfl, fun _ => rfl⟩
  | [] | [_] | [_, _] | [_, _, _] | [_, _, _, _] | [_, _, _, _, _] | [_, _, _, _, _, _] | [_, _, _, _, _, _, _]
  | [_, _, _, _, _, _, _, _] | [_, _, _, _, _, _, _, _, _] | _ :: _ :: _ :: _ :: _ :: _ :: _ :: _ :: _ :: _ :: _ :: _ =>
    known

theorem says_demandLimits : ParsedSays 0x38#8 payload (parseRequest 0x38#8 payload) :=
  have known : 0x38#8 ∈ Rule.requestCodes := by decide
  match payload with
  | [c, c', r, r', i, i', t, t', f, f', a, a', s, s'] => ⟨rfl, by simp [Request.payload], fun _ => rfl⟩
  | [] | [_] | [_, _] | [_, _, _] | [_, _, _, _] | [_, _, _, _, _] | [_, _, _, _, _, _] | [_, _, _, _, _, _, _]
  | [_, _, _, _, _, _, _, _] | [_, _, _, _, _, _, _, _, _] | [_, _, _, _, _, _, _, _, _, _]
  | [_, _, _, _, _, _, _, _, _, _, _] | [_, _, _, _, _, _, _, _, _, _, _, _] | [_, _, _, _, _, _, _, _, _, _, _, _, _]
  | _ :: _ :: _ :: _ :: _ :: _ :: _ :: _ :: _ :: _ :: _ :: _ :: _ :: _ :: _ :: _ => known

theorem says_unitPut : ParsedSays 0x10#8 payload (parseRequest 0x10#8 payload) := by
  have known : 0x10#8 ∈ Rule.requestCodes := by decide
  match payload with
  | [] | [_] => exact known
  | unit :: count :: rest =>
    refine says_ofOption known fun r read => ?_
    obtain ⟨ps, hps, read⟩ := Option.bind_eq_some_iff.mp read
    obtain ⟨length, made⟩ := Option.ite_none_right_eq_some.mp read
    cases made
    have bytes := pairsOf_eq_some.mp hps
    subst bytes
    refine ⟨rfl, by simp [Request.payload, length], fun fits => ?_⟩
    simp [halfBytes] at fits
    simp [Request.wellFormed]
    omega

theorem says_profilePut : ParsedSays 0x30#8 payload (parseRequest 0x30#8 payload) := by
  have known : 0x30#8 ∈ Rule.requestCodes := by decide
  match payload with
  | [] | [_] => exact known
  | profile :: count :: rest =>
    refine says_ofOption known fun r read => ?_
    obtain ⟨gs, hgs, read⟩ := Option.bind_eq_some_iff.mp read
    obtain ⟨length, made⟩ := Option.ite_none_right_eq_some.mp read
    cases made
    have bytes := segmentsOf_eq_some.mp hgs
    subst bytes
    refine ⟨rfl, by simp [Request.payload, length], fun fits => ?_⟩
    simp [halfBytes] at fits
    simp [Request.wellFormed]
    omega

theorem says_schedFill : ParsedSays 0x29#8 payload (parseRequest 0x29#8 payload) := by
  have known : 0x29#8 ∈ Rule.requestCodes := by decide
  match payload with
  | [] | [_] => exact known
  | count :: mask :: rest =>
    refine says_ofOption known fun r read => ?_
    obtain ⟨vs, hvs, made⟩ := Option.map_eq_some_iff.mp read
    cases made
    obtain ⟨length, all, bytes⟩ := fillValuesOf_eq_some.mp hvs
    subst bytes
    refine ⟨rfl, by simp [Request.payload, length], fun fits => ?_⟩
    rw [List.length_cons, List.length_cons, length_flatMap_fillValueBytes, Nat.add_comm] at fits
    have few : vs.length ≤ 255 := by have := count.isLt; omega
    simp [Request.wellFormed, few, all]
    omega

theorem says_zonePut : ParsedSays 0x20#8 payload (parseRequest 0x20#8 payload) := by
  have known : 0x20#8 ∈ Rule.requestCodes := by decide
  match payload with
  | [] | [_] => exact known
  | zone :: flag :: rest =>
    refine says_ofOption known fun r read => ?_
    obtain ⟨fields, hfields, made⟩ := Option.map_eq_some_iff.mp read
    cases made
    exact ⟨rfl, congrArg (zone :: flag :: ·) (zoneFieldsOf_eq_some.mp hfields).symm, fun _ => rfl⟩

theorem says_zoneOverride : ParsedSays 0x22#8 payload (parseRequest 0x22#8 payload) := by
  have known : 0x22#8 ∈ Rule.requestCodes := by decide
  match payload with
  | [] | [_] | [_, _] | [_, _, _] | [_, _, _, _] | [_, _, _, _, _] | [_, _, _, _, _, _] => exact known
  | zone :: d :: d' :: c :: c' :: h :: h' :: rest =>
    refine says_ofOption known fun r read => ?_
    obtain ⟨⟨m, o⟩, forces, made⟩ := Option.map_eq_some_iff.mp read
    cases made
    have bytes := forcesOf_eq_some.mp forces
    subst bytes
    exact ⟨rfl, by simp [Request.payload], fun _ => rfl⟩

end

/-- R170: a code that is none of the 31, one between two of them or one above them all, is UNKNOWN with every payload. -/
theorem parseRequest_unknown {code : Byte} (payload : List Byte) (unknown : code ∉ Rule.requestCodes) :
    parseRequest code payload = .unknown := by
  have between : code ∈ [0x00#8, 0x08#8, 0x09#8, 0x0A#8, 0x0B#8, 0x0C#8, 0x0D#8, 0x0E#8, 0x0F#8, 0x16#8, 0x17#8, 0x1B#8,
      0x1C#8, 0x1D#8, 0x1E#8, 0x1F#8, 0x23#8, 0x24#8, 0x25#8, 0x26#8, 0x27#8, 0x2C#8, 0x2D#8, 0x2E#8, 0x2F#8, 0x32#8,
      0x33#8, 0x34#8, 0x35#8, 0x36#8, 0x37#8, 0x3C#8, 0x3D#8, 0x3E#8, 0x3F#8] ∨ 0x42 ≤ code.toNat := by
    revert code
    decide
  rcases between with between | above
  · fin_cases between
    all_goals rfl
  · obtain ⟨k, above⟩ := Nat.exists_eq_add_of_le' above
    unfold parseRequest
    rw [above]
    rfl

/-- R170: what `parseRequest` makes of a code and a payload, row by row. -/
theorem parseRequest_says (code : Byte) (payload : List Byte) : ParsedSays code payload (parseRequest code payload) := by
  by_cases known : code ∈ Rule.requestCodes
  · have rows : code ∈ [0x01#8, 0x02#8, 0x04#8, 0x05#8, 0x07#8, 0x2A#8, 0x3A#8, 0x40#8, 0x41#8] ∨
        code ∈ [0x13#8, 0x14#8, 0x15#8, 0x18#8, 0x1A#8, 0x21#8, 0x31#8] ∨
        code ∈ [0x03#8, 0x11#8, 0x12#8, 0x19#8, 0x3B#8] ∨ code = 0x2B#8 ∨ code = 0x39#8 ∨ code = 0x06#8 ∨
        code = 0x28#8 ∨ code = 0x38#8 ∨ code = 0x10#8 ∨ code = 0x30#8 ∨ code = 0x29#8 ∨ code = 0x20#8 ∨
        code = 0x22#8 := by
      revert code
      decide
    rcases rows with row | row | row | rfl | rfl | rfl | rfl | rfl | rfl | rfl | rfl | rfl | rfl
    · exact says_noByte payload row
    · exact says_oneByte payload row
    · exact says_twoBytes payload row
    · exact says_schedGet payload
    · exact says_demandSite payload
    · exact says_clockSet payload
    · exact says_schedWindow payload
    · exact says_demandLimits payload
    · exact says_unitPut payload
    · exact says_profilePut payload
    · exact says_schedFill payload
    · exact says_zonePut payload
    · exact says_zoneOverride payload
  · rw [parseRequest_unknown payload known]
    exact known

/-- R170: a payload that is that of no request with its code is MALFORMED. -/
theorem parseRequest_malformed {code : Byte} {payload : List Byte} (fits : payload.length ≤ 240)
    (known : code ∈ Rule.requestCodes)
    (noRequest : ∀ r : Request, r.wellFormed = true → r.code = code → r.payload ≠ payload) :
    parseRequest code payload = .malformed := by
  have told := parseRequest_says code payload
  cases read : parseRequest code payload with
  | unknown =>
    rw [read] at told
    exact absurd known told
  | malformed => rfl
  | request r =>
    rw [read] at told
    obtain ⟨sameCode, samePayload, carried⟩ := told
    exact absurd samePayload (noRequest r (carried fits) sameCode)

end Sys2Proof.Machine
end

section
/-! PROOF. O8, O9 and O10: the receiver, the frames it offers, and the holding buffer. -/

namespace Sys2Proof.Machine

/-! ### The receiver byte by byte (R167) -/

section
variable {s t : State} {b len : Byte} {bs seen : List Byte} {f : Frame}

theorem receiveAll_cons (byte : exec (.hostByteReceived b) s = .next t) : receiveAll (b :: bs) s = receiveAll bs t := by
  simp only [receiveAll, byte]

theorem exec_byte_hunting (hunting : s.host.receiver = .hunting) (b : Byte) :
    exec (.hostByteReceived b) s = .next (if b = 0xB6#8 then s.setReceiver (.collecting []) else s) := by
  change execHostByteReceived b s = _
  rw [execHostByteReceived, hunting]

theorem exec_byte_collecting (collecting : s.host.receiver = .collecting bs) (b : Byte) :
    exec (.hostByteReceived b) s = .next (s.collect bs b) := by
  change execHostByteReceived b s = _
  rw [execHostByteReceived, collecting]

/-- The receiver is all that `setReceiver` writes, so back at its old value it leaves the state as it was. -/
theorem setReceiver_hunting (hunting : s.host.receiver = .hunting) (r : Receiver) :
    (s.setReceiver r).setReceiver .hunting = s := by
  rw [← hunting]
  rfl

/-- R167: before the last byte of its frame the receiver goes on collecting. -/
theorem collect_more (more : seen.length + 1 < len.toNat + 2) (b : Byte) (s : State) :
    s.collect (len :: seen) b = s.setReceiver (.collecting (len :: (seen ++ [b]))) :=
  if_pos (by simp; omega)

/-- R167: the last byte of a frame with the right CRC offers the frame. -/
theorem collect_frame (last : seen.length + 1 = len.toNat + 2) (frame : frameOf (len :: (seen ++ [b])) = some f) (s : State) :
    s.collect (len :: seen) b = (s.setReceiver .hunting).offerFrame f := by
  refine (if_neg (by simp; omega)).trans ?_
  rw [List.cons_append, frame]

/-- R167: the last byte of a frame with a wrong CRC discards the frame. -/
theorem collect_noFrame (last : seen.length + 1 = len.toNat + 2) (noFrame : frameOf (len :: (seen ++ [b])) = none)
    (s : State) : s.collect (len :: seen) b = s.setReceiver .hunting := by
  refine (if_neg (by simp; omega)).trans ?_
  rw [List.cons_append, noFrame]

end

/-- 12.1: what follows a length byte that counts the payload is a frame exactly when it ends in the CRC. -/
theorem frameOf_counted {len : Byte} {payload : List Byte} (counts : len.toNat = payload.length + 2) (code tag : Byte)
    (crc : List Byte) :
    frameOf (len :: code :: tag :: (payload ++ crc)) =
      if crc = halfBytes (crc16 (len :: code :: tag :: payload)) then some { code, tag, payload } else none := by
  simp [frameOf, counts]

/-- R167: the rest of a frame, byte by byte, ends in the frame's offer. -/
theorem receiveAll_rest {len : Byte} {rest : List Byte} {f : Frame} :
    ∀ {seen : List Byte} {s : State}, s.host.receiver = .collecting (len :: seen) → rest ≠ [] →
      seen.length + rest.length = len.toNat + 2 → frameOf (len :: (seen ++ rest)) = some f →
      receiveAll rest s = .next ((s.setReceiver .hunting).offerFrame f) := by
  induction rest with
  | nil => exact fun _ some => absurd rfl some
  | cons b rest ih =>
    intro seen s collecting _ length frame
    rw [receiveAll_cons (exec_byte_collecting collecting b)]
    cases rest with
    | nil => exact congrArg Host.Outcome.next (collect_frame length frame s)
    | cons c rest =>
      rw [collect_more (by simp at length; omega)]
      exact ih rfl (List.cons_ne_nil c rest) (by simp at length ⊢; omega) (by simpa using frame)

/-- R167, R168: the bytes of a frame, arriving while the receiver hunts, offer the frame. -/
theorem receiveAll_hostFrame {s : State} {payload : List Byte} (fits : payload.length ≤ 240)
    (hunting : s.host.receiver = .hunting) (code tag : Byte) :
    receiveAll (hostFrame (code :: tag :: payload)) s = .next (s.offerFrame { code, tag, payload }) := by
  have counts : (BitVec.ofNat 8 (payload.length + 1 + 1)).toNat = payload.length + 2 := by simp; omega
  simp only [hostFrame, List.length_cons, List.cons_append]
  generalize BitVec.ofNat 8 (payload.length + 1 + 1) = len at counts
  rw [receiveAll_cons (exec_byte_hunting hunting _), if_pos rfl, receiveAll_cons (exec_byte_collecting rfl len)]
  have length : lengthFits len = true := by simp [lengthFits, within, counts]; omega
  have begins : (s.setReceiver (.collecting [])).collect [] len = s.setReceiver (.collecting [len]) :=
    congrArg (fun r => (s.setReceiver (.collecting [])).setReceiver r) (if_pos length)
  rw [begins, receiveAll_rest (seen := []) rfl (by simp) (by simp [halfBytes, counts])
    ((frameOf_counted counts ..).trans (if_pos rfl)), setReceiver_hunting hunting]

/-! ### Frames and requests (R168, R170) -/

/-- R167: a request that fits one frame has a payload of at most 240 bytes. -/
theorem length_payload {r : Request} (fits : r.wellFormed = true) : r.payload.length ≤ 240 := by
  cases r
  case unitPut => simp [Request.wellFormed, Request.payload, halfBytes] at fits ⊢; omega
  case schedFill mask values =>
    simp [Request.wellFormed] at fits
    rw [Request.payload, List.length_cons, List.length_cons, length_flatMap_fillValueBytes]
    omega
  case profilePut => simp [Request.wellFormed, Request.payload, halfBytes] at fits ⊢; omega
  case zoneOverride zone duration cool heat m o =>
    have force (o : Option Byte) : (optionalByteBytes o).length ≤ 2 := by cases o <;> simp [optionalByteBytes]
    have first := force m
    have second := force o
    simp [Request.payload, halfBytes]
    omega
  all_goals simp [Request.payload, halfBytes, wordBytes, zoneFieldBytes]

/-- R168: the frame of a request, complete, is the request offered. -/
theorem offerFrame_request {r : Request} (fits : r.wellFormed = true) (tag : Byte) (s : State) :
    s.offerFrame { code := r.code, tag, payload := r.payload } = s.offerRequest tag r := by
  unfold State.offerFrame State.offerRequest State.takeFrame
  rw [requestPayloadsReadBack r fits]

/-- R167, R168: the bytes of a request's frame do what its command does. -/
theorem receiveAll_requestFrame {r : Request} {s : State} (fits : r.wellFormed = true)
    (hunting : s.host.receiver = .hunting) (tag : Byte) :
    receiveAll (requestFrame tag r) s = exec (requestCommand tag r) s := by
  rw [requestFrame, receiveAll_hostFrame (length_payload fits) hunting, offerFrame_request fits, exec_requestCommand]

/-- R170: a frame that makes no request is answered with the result of the check that refuses it. -/
theorem takeFrame_refused {code : Byte} {payload : List Byte} {why : Result} (fits : payload.length ≤ 240)
    (refused : Rule.FrameRefused code payload why) (tag : Byte) (s : State) :
    s.takeFrame { code, tag, payload } = s.answering code tag why [] := by
  unfold State.takeFrame
  rcases refused with ⟨unknown, rfl⟩ | ⟨known, noRequest, rfl⟩
  · rw [parseRequest_unknown payload unknown]
    rfl
  · rw [parseRequest_malformed fits known noRequest]
    rfl

/-- Settles O8: the bytes of a frame offer it, and a frame that makes no request is refused by its parsing. -/
theorem bytesOfAFrameTakeItsRequest : Obligations.BytesOfAFrameTakeItsRequest := by
  unfold Obligations.BytesOfAFrameTakeItsRequest
  refine ⟨fun r tag s fits hunting => receiveAll_requestFrame fits hunting tag,
    fun code tag payload why s fits hunting idle refused => ?_⟩
  rw [receiveAll_hostFrame fits hunting, State.offerFrame, idle]
  exact congrArg Host.Outcome.next (takeFrame_refused fits refused tag s)

/-! ### What the receiver discards (R167) -/

/-- R167: a length byte outside 2 to 242 ends the frame. -/
theorem collect_badLength {b : Byte} (outside : b.toNat < 2 ∨ 242 < b.toNat) (s : State) :
    s.collect [] b = s.setReceiver .hunting := by
  have misfit : lengthFits b = false := by simp [lengthFits, within]; omega
  rw [State.collect, misfit]
  rfl

/-- Settles O9: each byte by its case of the receiver. -/
theorem discardedBytesChangeOnlyTheReceiver : Obligations.DiscardedBytesChangeOnlyTheReceiver := by
  unfold Obligations.DiscardedBytesChangeOnlyTheReceiver
  refine fun s => ⟨fun b hunting other => ?_, fun b collecting outside => ?_,
    fun len code tag c1 c0 payload collecting counts wrong => ?_, rfl⟩
  · rw [exec_byte_hunting hunting, if_neg other]
  · rw [exec_byte_collecting collecting, collect_badLength outside]
    rfl
  · have noFrame : frameOf (len :: (code :: tag :: payload ++ [c1] ++ [c0])) = none := by
      have wrongBytes : [c1, c0] ≠ halfBytes (crc16 (len :: code :: tag :: payload)) := fun same =>
        wrong (halfBytes_eq_iff.mp same.symm)
      simpa [wrongBytes] using frameOf_counted counts code tag [c1, c0]
    rw [exec_byte_collecting collecting]
    exact congrArg Host.Outcome.next (collect_noFrame (by simp; omega) noFrame s)

/-! ### The holding buffer (R168) -/

section
variable {s : State}

theorem holdFrame_empty (empty : s.host.holding = none) (f : Frame) :
    s.holdFrame f = { s with host := { s.host with holding := some f } } :=
  if_pos (by rw [empty]; rfl)

theorem holdFrame_full {held : Frame} (full : s.host.holding = some held) (f : Frame) : s.holdFrame f = s :=
  if_neg (by rw [full]; exact Bool.false_ne_true)

/-- R168: the end of a reply, with the holding buffer empty. -/
theorem exec_replySent_empty (answering : s.host.phase = .answering) (empty : s.host.holding = none) :
    exec .replySent s = .next { s with host := { s.host with phase := .idle, reply := none } } := by
  change execReplySent s = _
  rw [execReplySent, answering, empty]
  rfl

/-- R168: the end of a reply, with a frame held. -/
theorem exec_replySent_full {f : Frame} (answering : s.host.phase = .answering) (full : s.host.holding = some f) :
    exec .replySent s =
      .next (State.takeFrame f { s with host := { s.host with phase := .idle, reply := none, holding := none } }) := by
  change execReplySent s = _
  rw [execReplySent, answering, full]
  rfl

/-- R168: the bytes of a frame that arrive while a reply is being sent reach the holding buffer. -/
theorem receiveAll_hostFrame_answering {payload : List Byte} (fits : payload.length ≤ 240)
    (hunting : s.host.receiver = .hunting) (answering : s.host.phase = .answering) (code tag : Byte) :
    receiveAll (hostFrame (code :: tag :: payload)) s = .next (s.holdFrame { code, tag, payload }) := by
  rw [receiveAll_hostFrame fits hunting, State.offerFrame, answering]

end

/-- Settles O10: the holding buffer at a frame's arrival and at the end of a reply, for requests and for other frames. -/
theorem oneFrameWaitsInTheHoldingBuffer : Obligations.OneFrameWaitsInTheHoldingBuffer := by
  unfold Obligations.OneFrameWaitsInTheHoldingBuffer
  constructor
  · intro s tag r fits answering
    refine ⟨fun empty => ?_, fun held full => ?_, fun hunting => receiveAll_requestFrame fits hunting tag, fun full => ?_,
      exec_replySent_empty answering⟩
    · rw [exec_requestCommand_answering answering, holdFrame_empty empty]
    · rw [exec_requestCommand_answering answering, holdFrame_full full]
    · rw [exec_replySent_full answering full, exec_requestCommand, ← offerFrame_request fits]
      rfl
  · intro s code tag payload fits answering
    refine ⟨fun hunting => ⟨fun empty => ?_, fun held full => ?_⟩, fun why full refused => ?_⟩
    · rw [receiveAll_hostFrame_answering fits hunting answering, holdFrame_empty empty]
    · rw [receiveAll_hostFrame_answering fits hunting answering, holdFrame_full full]
    · rw [exec_replySent_full answering full, takeFrame_refused fits refused]
      rfl

end Sys2Proof.Machine
end

section
/-! PROOF. O12: the first common check that holds, and what the owners of the requests answer. -/

namespace Sys2Proof.Machine

/-! ### The first common check that holds (R170) -/

section
variable {r : Request} {s : State} {why : Result}

/-- The first of the common checks that holds gives the result of them all. -/
theorem commonCheck_eq_first {before after : List (Result × Prop)} {refuses : Prop}
    (checks : Rule.commonChecks s r = before ++ (why, refuses) :: after) (holds : refuses)
    (first : ∀ c ∈ before, ¬c.2) : s.commonCheck r = some why := by
  classical
  have found {why : Result} {refuses : Prop} {before after : List (Result × Prop)}
      (checks : Rule.commonChecks s r = before ++ (why, refuses) :: after) (holds : refuses)
      (first : ∀ c ∈ before, ¬c.2) : (Rule.commonChecks s r).find? (fun c => decide c.2) = some (why, refuses) :=
    List.find?_eq_some_iff_append.mpr ⟨decide_eq_true holds, before, after, checks, by simpa using first⟩
  have spec := commonCheck_spec r s
  cases check : s.commonCheck r with
  | none =>
    rw [check] at spec
    exact absurd holds (spec (why, refuses) (checks ▸ List.mem_append_right before List.mem_cons_self))
  | some other =>
    rw [check] at spec
    obtain ⟨before', refuses', after', checks', holds', first'⟩ := spec
    cases (found checks holds first).symm.trans (found checks' holds' first')
    rfl

/-- R170: a request refused by the common checks meets one of their five results, and one of them holds. -/
theorem commonCheck_some (check : s.commonCheck r = some why) :
    why ∈ [Result.malformed, .service, .halted, .busy, .locked] ∧ ∃ c ∈ Rule.commonChecks s r, c.2 := by
  have spec := commonCheck_spec r s
  rw [check] at spec
  obtain ⟨before, refuses, after, checks, holds, -⟩ := spec
  have mem : (why, refuses) ∈ Rule.commonChecks s r := checks ▸ List.mem_append_right before List.mem_cons_self
  exact ⟨List.mem_map_of_mem (f := Prod.fst) mem, _, mem, holds⟩

end

/-! ### What an owner answers (R170) -/

/-- R170: an owner accepts a request, refuses it with a result of its own and changes nothing, or refuses it RANGE with the
number of what failed. -/
inductive OwnerAnswers (r : Request) (s : State) : State × Answer → Prop
  | accepts (t : State) (payload : List Byte) : OwnerAnswers r s (accept t payload)
  | refuses {why : Result}
      (own : why ∈ [Result.index, .absent, .taken, .full, .conflict, .state, .noWindow, .windowed] ∨
        (why = .busy ∧ r = .partRestart) ∨ (why = .locked ∧ ((∃ level hold, r = .partProtect level hold) ∨ r = .storeClear))) :
      OwnerAnswers r s (refuse s why)
  | range (n : Nat) : OwnerAnswers r s (refuseRange s n)

section
variable {r : Request} {s : State}

@[simp] theorem ownerAnswers_accept (t : State) (payload : List Byte) : OwnerAnswers r s (accept t payload) := .accepts t payload

@[simp] theorem ownerAnswers_refuseRange (n : Nat) : OwnerAnswers r s (refuseRange s n) := .range n

/-- The results that every owner may refuse with. -/
@[simp] theorem ownerAnswers_refuse {why : Result}
    (own : why ∈ [Result.index, .absent, .taken, .full, .conflict, .state, .noWindow, .windowed]) :
    OwnerAnswers r s (refuse s why) := .refuses (.inl own)

end

/-- R145: a binding is refused RANGE with the field that misfits, or with a result of its own. -/
theorem bindFailure_own {s : State} {u z : Nat} {why : Result} (fails : s.bindFailure u z = some (why, none)) :
    why ∈ [Result.index, .absent, .taken, .full, .conflict, .state, .noWindow, .windowed] := by
  unfold State.bindFailure at fails
  repeat' split at fails
  all_goals cases fails
  all_goals decide

theorem ownerAnswers_serve (r : Request) (s : State) : OwnerAnswers r s (serve r s) := by
  cases r with
  | partStatus | noteTake | clockGet | demandSite | demandGet => exact .accepts ..
  | partRestart =>
    simp only [serve, servePartRestart]
    split
    · exact .refuses (.inr (.inl ⟨rfl, rfl⟩))
    · exact .accepts ..
  | partProtect level hold =>
    simp only [serve, servePartProtect]
    split
    · exact .refuses (.inr (.inr ⟨rfl, .inl ⟨level, hold, rfl⟩⟩))
    · split_ifs <;> simp
  | storeClear =>
    simp only [serve, serveStoreClear]
    split
    · exact .refuses (.inr (.inr ⟨rfl, .inr rfl⟩))
    · split <;> simp
  | unitBind unit zone =>
    simp only [serve, serveUnitBind]
    split
    · simp
    next fails => exact .refuses (.inl (bindFailure_own fails))
    · split <;> simp
  | clockSet | schedEnd | schedGet | partRelease | queueGet | demandLimits | demandHistory | storeSave =>
    simp only [serve, serveClockSet, serveSchedEnd, serveSchedGet, servePartRelease, serveQueueGet, serveDemandLimits,
      serveDemandHistory, serveStoreSave]
    split <;> simp
  | schedWindow | schedFill | unitPut | unitGet | unitFree | unitReadings | stageGet | zoneGet | profileGet =>
    simp only [serve, serveSchedWindow, serveSchedFill, serveUnitPut, serveUnitGet, serveUnitFree, serveUnitReadings,
      serveStageGet, serveZoneGet, serveProfileGet]
    repeat' split
    all_goals simp
  | unitRefresh | stageUnlock | zonePut | zoneOverride | profilePut =>
    simp only [serve, serveUnitRefresh, serveStageUnlock, serveZonePut, serveZoneOverride, serveProfilePut]
    repeat' split
    all_goals simp

section
variable {r : Request} {s : State} {answer : State × Answer}

/-- R170: an answer other than ACCEPTED leaves the state as it was, and carries one byte for RANGE and none otherwise. -/
theorem OwnerAnswers.refused (answers : OwnerAnswers r s answer) (refused : answer.2.result ≠ .accepted) :
    answer.1 = s ∧ answer.2.payload.length = if answer.2.result = .range then 1 else 0 := by
  cases answers with
  | accepts => exact absurd rfl refused
  | refuses own =>
    refine ⟨rfl, (if_neg ?_).symm⟩
    rintro rfl
    simp at own
  | range => exact ⟨rfl, rfl⟩

/-- R170: the results that no owner answers, and those of single requests. -/
theorem OwnerAnswers.result (answers : OwnerAnswers r s answer) :
    answer.2.result ∉ [Result.unknown, .malformed, .service, .halted] ∧ (answer.2.result = .busy → r = .partRestart) ∧
      (answer.2.result = .locked → (∃ level hold, r = .partProtect level hold) ∨ r = .storeClear) := by
  cases answers with
  | accepts => simp
  | refuses own =>
    rcases own with own | ⟨rfl, restart⟩ | ⟨rfl, line⟩
    · fin_cases own
      all_goals simp
    · simp [restart]
    · simpa using line
  | range => simp

end

/-! ### The line while a request is served (R168) -/

/-- R168: no owner reaches the commands that wait, the receiver or the holding buffer. -/
theorem sameLine_serve (r : Request) (s : State) : SameLine s (serve r s).1 := by
  cases r with
  | unitPut unit pairs =>
    simp only [serve, serveUnitPut]
    repeat' split
    all_goals exact ⟨rfl, rfl, rfl⟩
  | profilePut profile segments =>
    simp only [serve, serveProfilePut]
    repeat' split
    all_goals exact ⟨rfl, rfl, rfl⟩
  | schedFill mask values =>
    simp only [serve, serveSchedFill]
    split
    · exact .refl s
    split
    · exact .refl s
    split
    · exact .refl s
    · refine SameLine.trans ?_ (orderly_deliverWritten _ _).line
      exact ⟨rfl, rfl, rfl⟩
  | storeClear =>
    simp only [serve, serveStoreClear]
    split
    · exact .refl s
    split
    · exact .refl s
    · obtain ⟨pending, receiver, holding⟩ := (orderly_freeAll s).line
      exact ⟨pending, receiver, holding⟩
  | _ => exact (orderly_serve rfl s).line

/-- Settles O12: the common checks refuse with the first that holds, and what passes them its owner answers. -/
theorem everyRequestIsAnsweredAndRefusalsChangeNothing : Obligations.EveryRequestIsAnsweredAndRefusalsChangeNothing := by
  unfold Obligations.EveryRequestIsAnsweredAndRefusalsChangeNothing
  intro r tag s idle
  rw [exec_requestCommand_idle idle]
  refine ⟨fun before why refuses after checks holds first =>
    congrArg Host.Outcome.next (takeRequest_refused (commonCheck_eq_first checks holds first) tag), ?_⟩
  cases check : s.commonCheck r with
  | some why =>
    obtain ⟨common, refused⟩ := commonCheck_some check
    refine ⟨_, why, [], congrArg Host.Outcome.next (takeRequest_refused check tag), rfl, rfl, rfl, rfl, rfl,
      fun _ => ⟨rfl, ?_⟩, fun none => ?_⟩
    · exact (if_neg fun range => by rw [range] at common; revert common; decide).symm
    · obtain ⟨c, mem, holds⟩ := refused
      exact absurd holds (none c mem)
  | none =>
    have answers := ownerAnswers_serve r s
    have line := sameLine_serve r s
    refine ⟨_, _, _, congrArg Host.Outcome.next (takeRequest_served check tag), rfl, rfl, line.pending, line.receiver,
      line.holding, fun refused => ?_, fun _ => answers.result⟩
    obtain ⟨same, length⟩ := answers.refused refused
    exact ⟨by rw [same], length⟩

end Sys2Proof.Machine
end

section
/-! PROOF. O42 and O43: STORE.SAVE and its completion, and STORE.CLEAR (R176 to R179). -/

namespace Sys2Proof.Machine

/-! ### Saving (R176, R177) -/

/-- A table with every record changed alike, its indices kept, reads as the changed records. -/
theorem find_mapRecords {α β : Type} (f : α → β) (k : Nat) (t : Table α) :
    Table.find k (t.map fun p => (p.1, f p.2)) = (Table.find k t).map f := by
  induction t with
  | nil => rfl
  | cons p t ih =>
    rw [List.map_cons, Table.find, Table.find, ih]
    split <;> rfl

/-- R176: the image holds the configured fields of the zones. -/
theorem contents_zone (s : State) (z : Nat) : Table.find z s.contents.zones = (s.zone z).map Zone.config :=
  find_mapRecords ..

/-- R176: the image holds a binding for each bound unit. -/
theorem contents_binding (s : State) (u : Nat) : Table.find u s.contents.bindings = (s.unit u).map BoundUnit.saved :=
  find_mapRecords ..

/-- R176: the start count and the runtime of each stage of a unit are saved. -/
theorem saved_counters (b : BoundUnit) (st : StageName) :
    b.saved.counters.get st = (b.stages.get st).map fun r => (r.starts, r.runtime) := Six_get_ofFn ..

/-- R170: a save in progress refuses STORE.SAVE. -/
theorem commonCheck_storeSave_saving {s : State} (normal : s.host.run = .normal) (saving : s.store.saving = true) :
    s.commonCheck .storeSave = some .busy := by
  simp [State.commonCheck, requestMalformed, requestServiceOnly, requestTableChanging, normal, saving]

theorem serveStoreSave_windowed {s : State} (opened : s.schedule.window ≠ none) :
    serveStoreSave s = refuse s .windowed := if_pos (Option.isSome_iff_ne_none.mpr opened)

theorem serveStoreSave_taken {s : State} (closed : s.schedule.window = none) :
    serveStoreSave s = accept
      (s.setStore { s.store with
        image := { contents := s.contents, mark := .failed, format := 4, crcRight := false }
        saving := true })
      (enc8 s.store.state.toCode) := by
  unfold serveStoreSave
  rw [closed]
  rfl

/-! ### The completion of a save (R178) -/

/-- R178: what a completion leaves: the mark, the store state and the notice. -/
theorem completeSave_eq (equal : Bool) (s : State) :
    s.completeSave equal = { s with
      store := {
        image := { s.store.image with mark := if equal then .clean else .failed, crcRight := equal }
        state := if equal then .valid else .failed
        saving := false }
      host := noting s (if equal then .storeDone else .storeFailed) none none none
        (if equal then some (s.store.image.contents.bindings.length : Int) else none) } := by
  unfold State.completeSave
  cases equal with
  | false => exact raise_eq ..
  | true => exact raise_eq ..

/-- Settles O42: BUSY and WINDOWED, the contents taken, and the completion. -/
theorem savesTakeTheTablesAndComplete : Obligations.SavesTakeTheTablesAndComplete := by
  unfold Obligations.SavesTakeTheTablesAndComplete
  intro tag s
  have answered {t : State} {a : Answer} (idle : s.host.phase = .idle) (normal : s.host.run = .normal)
      (saving : s.store.saving = false) (served : serveStoreSave s = (t, a)) :
      exec (.storeSave tag) s = .next (t.answering 0x40#8 tag a.result a.payload) :=
    exec_request_served (r := .storeSave) idle (commonCheck_free normal saving rfl rfl rfl) served tag
  refine ⟨fun idle normal saving => ?_, fun idle normal saving opened => ?_, fun idle normal saving closed => ?_,
    fun saving equal => ?_⟩
  · exact (exec_requestCommand_idle idle tag .storeSave).trans
      (congrArg Host.Outcome.next (takeRequest_refused (commonCheck_storeSave_saving normal saving) tag))
  · exact answered idle normal saving (serveStoreSave_windowed opened)
  · refine ⟨_, answered idle normal saving (serveStoreSave_taken closed), rfl, rfl, rfl, rfl, rfl, rfl, rfl, rfl,
      contents_zone s, fun u => ?_, fun u b saved st hb found => ?_⟩
    · rw [contents_binding, Option.map_map]
      rfl
    · rw [contents_binding, hb, Option.map_some, Option.some_inj] at found
      rw [← found, saved_counters]
  · rw [← completeSave_eq]
    exact congrArg Host.Outcome.next (if_pos saving)

/-! ### The units freed by a clear (R148, R157, R179) -/

/-- R157: a place once the link records of some units are discarded. -/
def Place.drop (gone : Nat → Bool) (p : Place) : Place := if gone p.unit then { p with live := false } else p

/-- R157: the visit in progress once the link records of some units are discarded. -/
def Visit.drop (gone : Nat → Bool) (v : Visit) : Visit := if gone v.unit then { v with live := false } else v

/-- R157: the cycle record once the link records of some units are discarded. -/
def Roof.dropUnits (gone : Nat → Bool) (r : Roof) : Roof :=
  { r with places := r.places.map (Place.drop gone), visit := r.visit.map (Visit.drop gone) }

theorem Place.drop_drop (first later : Nat → Bool) (p : Place) :
    (p.drop first).drop later = p.drop fun u => first u || later u := by
  unfold Place.drop
  by_cases dropped : first p.unit <;> simp [dropped]

theorem Visit.drop_drop (first later : Nat → Bool) (v : Visit) :
    (v.drop first).drop later = v.drop fun u => first u || later u := by
  unfold Visit.drop
  by_cases dropped : first v.unit <;> simp [dropped]

theorem dropUnits_dropUnits (first later : Nat → Bool) (r : Roof) :
    (r.dropUnits first).dropUnits later = r.dropUnits fun u => first u || later u := by
  simp only [Roof.dropUnits, List.map_map, Option.map_map, Function.comp_def, Place.drop_drop, Visit.drop_drop]

theorem dropUnits_none (r : Roof) : r.dropUnits (fun _ => false) = r := by
  have places : (Place.drop fun _ => false) = id := rfl
  have visit : (Visit.drop fun _ => false) = id := rfl
  rw [Roof.dropUnits, places, visit, List.map_id, Option.map_id]
  rfl

/-- R157: the drop at the freeing of one unit. -/
theorem dropUnit_eq (u : Nat) (r : Roof) : r.dropUnit u = r.dropUnits fun v => v = u := by
  have places : (Place.drop fun v => v = u) = fun p => if p.unit = u then { p with live := false } else p := by
    funext p
    simp [Place.drop]
  have visit : (Visit.drop fun v => v = u) = fun v => if v.unit = u then { v with live := false } else v := by
    funext v
    simp [Visit.drop]
  rw [Roof.dropUnit, Roof.dropUnits, places, visit]

/-- R157: freeing a unit drops its places and its visit; an index that is not bound has nothing to drop. -/
theorem freeUnit_roof (u : Nat) (s : State) :
    (s.freeUnit u).roof = s.roof.dropUnits fun v => (s.unit v).isSome && v = u := by
  cases hb : s.unit u with
  | none =>
    have nothing : (fun v => (s.unit v).isSome && decide (v = u)) = fun _ => false := by
      funext v
      by_cases same : v = u <;> simp [same, hb]
    rw [nothing, dropUnits_none, State.freeUnit, hb]
  | some b =>
    have it : (fun v => (s.unit v).isSome && decide (v = u)) = fun v => decide (v = u) := by
      funext v
      by_cases same : v = u <;> simp [same, hb]
    rw [it, ← dropUnit_eq, freeUnit_eq hb]

theorem freeAll_roof (units : Table BoundUnit) (s : State) :
    (units.foldl (fun s p => s.freeUnit p.1) s).roof =
      s.roof.dropUnits fun u => (s.unit u).isSome && (units.map Prod.fst).contains u := by
  induction units generalizing s with
  | nil => simp [dropUnits_none]
  | cons p rest ih =>
    rw [List.foldl_cons, ih, freeUnit_roof, dropUnits_dropUnits]
    congr 1
    funext u
    rw [freeUnit_unit]
    by_cases first : u = p.1
    · simp [first]
    · simp [first, beq_false_of_ne first]

/-- R148: freeing units changes the units, the zones and the cycle record alone. -/
theorem freeAll_frame (units : Table BoundUnit) (s : State) :
    units.foldl (fun s p => s.freeUnit p.1) s =
      { s with
        units := (units.foldl (fun s p => s.freeUnit p.1) s).units
        zones := (units.foldl (fun s p => s.freeUnit p.1) s).zones
        roof := (units.foldl (fun s p => s.freeUnit p.1) s).roof } := by
  induction units generalizing s with
  | nil => rfl
  | cons p rest ih =>
    have later := ih (s.freeUnit p.1)
    rw [List.foldl_cons]
    generalize rest.foldl (fun s p => s.freeUnit p.1) (s.freeUnit p.1) = t at later ⊢
    conv_lhs => rw [later, freeUnit_frame]

/-- R179: freeing every bound unit drops the places and the visit of bound units. -/
theorem freeEvery_roof (s : State) :
    (s.units.foldl (fun s p => s.freeUnit p.1) s).roof = s.roof.dropUnits fun u => (s.unit u).isSome := by
  rw [freeAll_roof]
  congr 1
  funext u
  cases hb : s.unit u with
  | none => rfl
  | some b => simpa using ⟨b, mem_of_find hb⟩

/-! ### STORE.CLEAR (R179) -/

/-- R179: what a clear leaves, block by block. -/
theorem clear_eq (s : State) :
    s.clear = { s with
      units := []
      table := { descriptors := [], level := 0, hold := false }
      zones := []
      schedule := { s.schedule with grid := [], window := none }
      profiles := []
      meter := s.meter.apply .default
      roof := s.roof.dropUnits fun u => (s.unit u).isSome
      store := { s.store with image := .erased, state := .empty } } := by
  unfold State.clear
  rw [freeAll_frame, freeAll_units, freeEvery_roof]
  rfl

theorem commonCheck_storeClear {s : State} (normal : s.host.run = .normal) (service : s.host.service = true)
    (saving : s.store.saving = false) : s.commonCheck .storeClear = none := by
  simp [State.commonCheck, requestMalformed, requestLocked, normal, service, saving]

theorem anyEngaged_iff {s : State} : s.anyEngaged = true ↔ ∃ p ∈ s.units, p.2.anyEngaged = true := List.any_eq_true

theorem serveStoreClear_locked {s : State} (level : 0 < s.table.level) : serveStoreClear s = refuse s .locked :=
  if_pos level

theorem serveStoreClear_unlocked {s : State} (level : s.table.level = 0) :
    serveStoreClear s = if s.anyEngaged then refuse s .state else accept s.clear (enc8 s.units.length) :=
  if_neg (by rw [level]; exact Nat.lt_irrefl 0)

/-- Settles O43: LOCKED and STATE, and what a clear leaves of every block. -/
theorem storeClearReturnsEveryTableToItsDefault : Obligations.StoreClearReturnsEveryTableToItsDefault := by
  unfold Obligations.StoreClearReturnsEveryTableToItsDefault
  intro tag s goesStale idle normal service saving expires
  have answered {t : State} {a : Answer} (served : serveStoreClear s = (t, a)) :
      exec (.storeClear tag) s = .next (t.answering 0x41#8 tag a.result a.payload) :=
    exec_request_served (r := .storeClear) idle (commonCheck_storeClear normal service saving) served tag
  refine ⟨fun level => answered (serveStoreClear_locked level), fun level engaged => ?_, fun level still => ?_⟩
  · exact answered ((serveStoreClear_unlocked level).trans (if_pos (anyEngaged_iff.mpr engaged)))
  · have idleStages : ¬s.anyEngaged = true := fun engaged => by
      obtain ⟨p, listed, on⟩ := anyEngaged_iff.mp engaged
      exact Bool.false_ne_true ((still p listed).symm.trans on)
    have expired : s.meter.expires .default = goesStale := Bool.eq_iff_iff.mpr (expires_iff.trans expires.symm)
    refine ⟨_, answered ((serveStoreClear_unlocked level).trans (if_neg idleStages)), ?_, rfl, fun _ => rfl, fun _ => rfl⟩
    simp only [clear_eq, meterApply_eq, expired, saving, Bool.or_eq_true]
    rfl

end Sys2Proof.Machine
end

section
/-! PROOF. O5 and O4: the power-on load, from the image judged to the bindings re-made (R180). -/

namespace Sys2Proof.Machine

/-! ### The image judged (R180) -/

/-- R180: an image that is CLEAN, of format 4 and with a right CRC-32 is valid. -/
theorem judge_valid {i : Image} (clean : i.mark = .clean) (format : i.format = 4) (crc : i.crcRight = true) :
    i.judge = .valid := by
  unfold Image.judge
  rw [clean]
  exact if_pos ⟨format, crc⟩

theorem judge_invalid {i : Image} (invalid : i.mark ≠ .clean ∨ i.format ≠ 4 ∨ i.crcRight = false) :
    i.judge = if i.mark = .failed then .failed else .empty := by
  unfold Image.judge
  cases mark : i.mark with
  | failed => rfl
  | erased => rfl
  | clean =>
    refine if_neg fun ⟨format, crc⟩ => ?_
    rcases invalid with dirty | foreign | wrong
    · exact dirty mark
    · exact foreign format
    · exact Bool.false_ne_true (wrong.symm.trans crc)

theorem load_valid {i : Image} (valid : i.judge = .valid) : i.load = i.contents := if_pos valid

theorem load_invalid {i : Image} (invalid : i.mark ≠ .clean ∨ i.format ≠ 4 ∨ i.crcRight = false) :
    i.load = .defaults := by
  refine if_neg ?_
  rw [judge_invalid invalid]
  split <;> exact nofun

/-! ### The part before its bindings are re-made (R180, R139, R154) -/

theorem loaded_eq (smoke service protect : Bool) (s : State) :
    s.loaded smoke service protect = { State.reset with
      pending := s.pending
      freeCount := s.freeCount
      host := { State.reset.host with
        run := if smoke then .shutdown else .normal
        smoke := smoke, service := service, protect := protect
        notices := if smoke then
          [{ kind := .shutdownOn, uptime := 0#32, time := none, unit := none, stage := none, zone := none, value := none }]
          else []
        note := smoke }
      table := { descriptors := s.store.image.load.descriptors, level := s.store.image.load.level
                 hold := s.store.image.load.hold }
      arbiter := { State.reset.arbiter with stagger := .running s.store.image.load.limits.spacing }
      meter := { State.reset.meter with
        limits := s.store.image.load.limits
        siteLoad := s.store.image.load.limits.fallback
        interval := { State.reset.meter.interval with
          length := s.store.image.load.limits.length, effective := s.store.image.load.limits.length } }
      zones := s.store.image.load.zones.map fun p => (p.1, Zone.make p.2 0#32 p.2.fallbackCell [])
      schedule := { State.reset.schedule with grid := s.store.image.load.grid }
      profiles := s.store.image.load.profiles
      store := { image := s.store.image, state := s.store.image.judge, saving := false } } := by
  cases smoke with
  | false => rfl
  | true => rfl

/-- R180, R68: a zone of the image starts afresh, with its fallback cell. -/
theorem loaded_zone (smoke service protect : Bool) (s : State) (z : Nat) :
    (s.loaded smoke service protect).zone z =
      (Table.find z s.store.image.load.zones).map fun c => Zone.make c 0#32 c.fallbackCell [] := by
  rw [loaded_eq]
  exact find_mapRecords (fun c : ZoneConfig => Zone.make c 0#32 c.fallbackCell []) z _

/-- R155, R180: at the load nothing has been visited. -/
theorem loaded_roof (smoke service protect : Bool) (s : State) :
    (s.loaded smoke service protect).roof = State.reset.roof := by
  rw [loaded_eq]

/-! ### A binding re-made or dropped (R180, R145, R121) -/

/-- R121: a unit as it is made, once it has taken its smoke action. -/
theorem FreshUnit.smokeAction {z : Nat} {d : Descriptor} {counters : StageName → Nat × Nat} {b : BoundUnit}
    (fresh : FreshUnit 0 z d counters b) :
    FreshUnit (if d.smokeAction = .fanPurge then 1000 else 0) z d counters b.smokeAction := by
  obtain ⟨made, stages⟩ := fresh
  have copy : b.copy = d := by rw [made]
  rw [smokeAction_eq, copy]
  refine ⟨?_, stages⟩
  conv_lhs => rw [made]
  cases d.smokeAction with
  | fanOff => rfl
  | fanPurge => rfl

/-- R146: a binding, and then a change of the unit just made. -/
theorem Rule.Bound.onUnit {before after u z : Nat} {d : Descriptor} {counters : StageName → Nat × Nat} {s t : State}
    (bound : Rule.Bound before u z d counters s t) {f : BoundUnit → BoundUnit}
    (fresh : ∀ b, FreshUnit before z d counters b → FreshUnit after z d counters (f b)) :
    Rule.Bound after u z d counters s (t.onUnit u f) := by
  obtain ⟨frame, ⟨b, hb, made⟩, others, zones⟩ := bound
  refine ⟨?_, ⟨f b, ?_, fresh b made⟩, fun v other => ?_, fun y => ?_⟩
  · conv_lhs => rw [onUnit_frame]
    rw [onUnit_zones]
    generalize (t.onUnit u f).units = units
    conv_lhs => rw [frame]
  · rw [unit_onUnit, if_pos rfl, hb]
    rfl
  · rw [unit_onUnit, if_neg other, others v other]
  · rw [onUnit_zone, zones]

/-- R180: a stored binding that passes the checks of R145 is made. -/
theorem remake_bound {s : State} {p : Nat × SavedBinding} {d : Descriptor} (bindable : Rule.Bindable s p.1 p.2.zone d) :
    Rule.Bound (if s.host.run = .shutdown ∧ d.smokeAction = .fanPurge then 1000 else 0) p.1 p.2.zone d p.2.counter s
      (s.remake p) := by
  obtain ⟨passes, hd⟩ := bindable_iff.mp bindable
  have made : s.remake p = (s.bindUnit p.1 p.2.zone d p.2.counter).smokeAtBinding p.1 := by
    unfold State.remake
    rw [passes, hd]
  have run : (s.bindUnit p.1 p.2.zone d p.2.counter).host.run = s.host.run := by rw [bindUnit_frame]
  rw [made, State.smokeAtBinding, run]
  by_cases shutdown : s.host.run = .shutdown
  · simp only [shutdown, true_and, if_true]
    exact (bindUnit_bound ..).onUnit fun _ => FreshUnit.smokeAction
  · simp only [shutdown, false_and, if_false]
    exact bindUnit_bound ..

/-- R180: one that fails a check is dropped, with the code of the first that fails in its notice. -/
theorem remake_dropped {s : State} {p : Nat × SavedBinding} (refused : ∀ d, ¬Rule.Bindable s p.1 p.2.zone d) :
    ∃ why field, Rule.BindRefused s p.1 p.2.zone why field ∧
      s.remake p = { s with
        host := noting s .bindDropped (some p.1) none (if p.2.zone = 0 then none else some p.2.zone)
          (some (why.toCode : Int)) } := by
  cases checked : s.bindFailure p.1 p.2.zone with
  | none =>
    cases hd : s.descriptor p.1 with
    | none => exact absurd checked (bindFailure_ne_none hd)
    | some d => exact absurd (bindable_iff.mpr ⟨checked, hd⟩) (refused d)
  | some failure =>
    obtain ⟨why, field⟩ := failure
    refine ⟨why, field, bindRefused_of_failure checked, ?_⟩
    unfold State.remake
    rw [checked]
    exact raise_eq ..

theorem remade_foldl (bindings : List (Nat × SavedBinding)) (s : State) :
    Rule.Remade bindings s (bindings.foldl State.remake s) := by
  induction bindings generalizing s with
  | nil => rfl
  | cons p rest ih => exact ⟨s.remake p, ih _, fun _ => remake_bound, remake_dropped⟩

/-- R180: no binding that is re-made or dropped reaches the roof bus master. -/
theorem remade_roof {bindings : List (Nat × SavedBinding)} {s t : State} (remade : Rule.Remade bindings s t) :
    t.roof = s.roof := by
  induction bindings generalizing s with
  | nil => rw [show t = s from remade]
  | cons p rest ih =>
    obtain ⟨m, later, bound, dropped⟩ := remade
    rw [ih later]
    by_cases bindable : ∃ d, Rule.Bindable s p.1 p.2.zone d
    · obtain ⟨d, bindable⟩ := bindable
      obtain ⟨frame, _⟩ := bound d bindable
      rw [frame]
    · obtain ⟨_, _, _, frame⟩ := dropped (not_exists.mp bindable)
      rw [frame]

/-! ### POWER_ON (R180, R155) -/

/-- R180, R155: the part once its first cycle list holds the units then bound. -/
def State.withCycleList (s : State) : State := s.setRoof { s.roof with places := s.cyclePlaces }

theorem withCycleList_eq {s : State} (roof : s.roof = State.reset.roof) :
    s.withCycleList = { s with
      roof := { places := s.cyclePlaces, next := 0, start := 0, visit := none, lastCommand := [] } } := by
  rw [State.withCycleList, roof]
  rfl

theorem exec_powerOn (smoke service protect : Bool) (s : State) : exec (.powerOn smoke service protect) s =
    .next (s.store.image.load.bindings.foldl State.remake (s.loaded smoke service protect)).withCycleList := rfl

/-- Settles O4: the load of an image that is not valid is the reset state, and no binding is re-made. -/
theorem powerOnWithoutAValidImageSetsTheDefaults : Obligations.PowerOnWithoutAValidImageSetsTheDefaults := by
  unfold Obligations.PowerOnWithoutAValidImageSetsTheDefaults
  intro smoke service protect s invalid
  rw [exec_powerOn, loaded_eq, load_invalid invalid, judge_invalid invalid]
  rfl

/-- R180: the units that the load binds stand in the form of a table. -/
theorem remade_units_wf (smoke service protect : Bool) (s : State) (bindings : List (Nat × SavedBinding)) :
    Table.wf (bindings.foldl State.remake (s.loaded smoke service protect)).units = true :=
  (restful_foldl restful_remake bindings _).form (by rw [(loaded_empty smoke service protect s).1]; rfl)

/-- Settles O5: the load of a valid image, its bindings re-made in order, and the first cycle list. -/
theorem powerOnLoadsAValidImage : Obligations.PowerOnLoadsAValidImage := by
  unfold Obligations.PowerOnLoadsAValidImage
  intro smoke service protect s clean format crc
  have valid := judge_valid clean format crc
  have load := load_valid valid
  have remade := remade_foldl s.store.image.contents.bindings (s.loaded smoke service protect)
  have roof := (remade_roof remade).trans (loaded_roof smoke service protect s)
  have form := remade_units_wf smoke service protect s s.store.image.contents.bindings
  have run := exec_powerOn smoke service protect s
  rw [load] at run
  refine ⟨_, _, _, run, ?_, fun z => ?_, remade, ?_, cyclePlaces_perm _, fun p => cyclePlaces_live,
    cyclePlaces_ascending form⟩
  · conv_lhs => rw [loaded_eq, load, valid]
    rw [loaded_eq, load]
  · rw [loaded_zone, load]
    cases Table.find z s.store.image.contents.zones with
    | none => rfl
    | some c => exact ⟨_, rfl, make_fresh ..⟩
  · exact withCycleList_eq roof

end Sys2Proof.Machine
end
